-- ==== Sys2Proof/Word.lean ====
section
/-!
DEFINITION. The words the part exchanges and the numbers of the things it has several of
(spec/00_scope.md, "Units and number conventions"), and the plainest arithmetic over them.
-/
namespace Sys2Proof

/-- A word of the slave port or of the desk image: 32 bits. -/
abbrev Word := BitVec 32
/-- A 16-bit field of a cell, and the value of a 16-bit event counter. -/
abbrev Half := BitVec 16
/-- A converter code, 0..1023 (R1). -/
abbrev Code := BitVec 10
/-- A priority level, 0..7; 7 is highest. -/
abbrev Priority := BitVec 3
/-- A strip number, S0..S31. -/
abbrev StripId := Fin 32
/-- A meter channel number, M0..M63. -/
abbrev ChanId := Fin 64
/-- A link number, L0 or L1. -/
abbrev LinkId := Fin 2
/-- A gang number, 0..7 (R87). -/
abbrev GangId := Fin 8
/-- A group cell number, G0..G3. -/
abbrev GroupId := Fin 4

/-- `v` taken into `lo..hi`. -/
def clampNat (lo hi v : Nat) : Nat := max lo (min hi v)

/-- `v` taken into `lo..hi`, on the integers. -/
def clampInt (lo hi v : Int) : Int := max lo (min hi v)

/-- The number `v`, kept to `width` bits, standing at bit `shift` of a word. -/
def bitsAt (v width shift : Nat) : Nat := v % 2 ^ width * 2 ^ shift

/-- The field of `width` bits at bit `shift` of a word, as a number. -/
def fieldOf (w : Word) (shift width : Nat) : Nat := w.toNat / 2 ^ shift % 2 ^ width

/-- A flag as a number, for packing. -/
def boolBit (b : Bool) : Nat := if b then 1 else 0

end Sys2Proof
end

