-- ==== Sys2Proof/Config.lean ====
section
/-!
DEFINITION. The sizes and places the manual fixes for every FZ3264. The manual leaves no value of the part
to the implementation, so there is no free value here: what it does not state, the assumption log names.
-/
namespace Sys2Proof.Config

/-- A Move Queue holds at most 8 entries (R56). -/
def moveQueueSize : Nat := 8
/-- The activity queue holds at most 16 records (R120). -/
def activityQueueSize : Nat := 16
/-- The posted-write queue holds 8 words (R189). -/
def postedQueueSize : Nat := 8
/-- A link's receive queue holds at most 8 words (R147). -/
def receiveQueueSize : Nat := 8
/-- The trail buffer holds at most 8 positions (R80). -/
def trailSize : Nat := 8
/-- The lost count stops at 65535 (R121). -/
def lostMax : Nat := 65535
/-- The top of travel, 4095 tu. -/
def travelTop : Nat := 4095
/-- The lowest and highest virtual position (R86). -/
def virtualLow : Int := -4095
/-- The highest virtual position (R86). -/
def virtualHigh : Int := 8190
/-- The least span of a usable calibration record (R14). -/
def leastSpan : Nat := 512
/-- Steady arrivals that end a calibration phase (R46). -/
def steadyArrivals : Nat := 40
/-- The phase arrival limit of a calibration (R46). -/
def phaseLimit : Nat := 4000
/-- Consecutive failed reference checks that fault the part (R11). -/
def referenceFaultRun : Nat := 16
/-- The recovery time of the motor supply, ms (R109). -/
def recoveryTime : Nat := 50
/-- Complete frames in a row that lock a link (R142). -/
def lockFrames : Nat := 4
/-- The over run stops at 16 (R165). -/
def overRunMax : Nat := 16
/-- The hold time that means without end (R154). -/
def holdForever : Nat := 65535
/-- The used words of a page with no record (R123). -/
def emptyPage : Nat := 3
/-- Word offsets, in bytes, of the image areas (section 10.5). -/
def groupCells : Nat := 0x0040
/-- Strip cells S0..S31 (section 10.5). -/
def stripCells : Nat := 0x0300
/-- Report bank A; bank B follows 0x800 bytes later (section 10.5). -/
def reportBankA : Nat := 0x1800
/-- Report bank B (section 10.5). -/
def reportBankB : Nat := 0x2000
/-- The activity pages (section 10.5). -/
def activityPages : Nat := 0x2800
/-- The owner code FZ; every other value is taken as CP (R191). -/
def ownerFZ : Nat := 1
/-- The layout version a header must carry (R180). -/
def layoutVersion : Nat := 1
/-- The words of the twelve setup sections (section 10.5). -/
def setupWords : Nat := 708
/-- The stages of the start sequence: the twelve sections, the start result, and steps 2 to 5 (R181). -/
def startStages : Nat := 17
/-- The lamps of one row: eight bars of 40 segments and an over lamp (chapter 9). -/
def rowLamps : Nat := 328

end Sys2Proof.Config
end

