-- ==== Sys2Proof/Syntax.lean ====
section
/-!
DEFINITION. The commands of the part: one constructor of `Instr` for each row of spec/opcode_table.json, with
the operands its rule gives it. A row is one whole step of the part: an access of a slave-port register, an
event at a pin or a timer, or an event taken at one of the blocks.
-/
namespace Sys2Proof

/-- One word the host has put into memory by its own path: the bus address and the word. -/
structure HostWrite where
  addr : Word
  data : Word
  deriving DecidableEq, Repr

/-- One rising edge of LKCLK: the levels of LKFS and LKDAT there (section 7.2). -/
structure LinkSample where
  fs  : Bool
  dat : Bool
  deriving DecidableEq, Repr

/-- The length of a link word. -/
inductive WordLen | w16 | w24
  deriving DecidableEq, Repr

/-- The bits in a word of this length. -/
def WordLen.bits : WordLen → Nat
  | .w16 => 16
  | .w24 => 24

/-- A link word: its length and its bits, a 16-bit word in the low 16 (R139). -/
structure LinkWord where
  len   : WordLen
  value : BitVec 24
  deriving DecidableEq, Repr

/-- What a MOVE or a JUMP carries: the fields of its cell (section 10.5). -/
structure MoveArgs where
  tag      : Half
  target   : Half
  duration : Half
  priority : Priority
  deriving DecidableEq, Repr

/-- What a SCENE carries beside its entry words (R66): `jump` is the flag choosing JUMP. -/
structure SceneArgs where
  tag      : Half
  duration : Half
  priority : Priority
  jump     : Bool
  count    : Word
  deriving DecidableEq, Repr

/-- What a join event carries (R91): the gang, the activity that sent it (its serial number), the handovers
taken in that activity when it was sent, and the leader position p_L. -/
structure JoinArgs where
  gang      : GangId
  serial    : Nat
  handovers : Nat
  pL        : Nat
  deriving DecidableEq, Repr

/-- The two causes that coalesce (section 11.4). -/
inductive Coalesced | cell | activity
  deriving DecidableEq, Repr

/-- Where a start sequence is cut short (R181): at a setup word whose read fails, after so many good ones, or by a STOP, after
so many of its stages (the twelve sections, the start result, then steps 2 to 5). -/
inductive StartCut
  | fault (reads : Nat)
  | stop (stages : Nat)
  deriving DecidableEq, Repr

/-- What the bus brings to the start sequence: the host's own words, and where the sequence is cut short, if anywhere. -/
structure StartBus where
  host : List HostWrite
  cut  : Option StartCut
  deriving DecidableEq, Repr

/-- What the bus brings to a command that may read several times: the host's own words, and the number of good reads before one
that is answered with a bus error, `none` when every read is good (R187, R195, log 11). -/
structure Bus where
  host  : List HostWrite
  fault : Option Nat
  deriving DecidableEq, Repr

/-- A bus that brings nothing and answers every read. -/
def Bus.quiet : Bus := { host := [], fault := none }

/-- The commands, in the order of spec/opcode_table.json. `host` operands are the words the host has written
into memory by its own path since the part's last read. -/
inductive Instr
  | powerOnReset
  | start
  | headerCheck (host : List HostWrite)
  | startSequence (bus : StartBus)
  | partStop (host : List HostWrite)
  | stopSequenceEnd
  | softReset
  | ibaseWrite (value : Word)
  | attnWrite (value : Word)
  | amaskWrite (value : Word)
  | registerWrite (offset : Word) (value : Word)
  | busFault (offset : Word)
  | scanTimerExpiry
  | conversionComplete (code : Code)
  | sampleArrival (strip : StripId) (code : Code)
  | touchScanTimerExpiry (tch : BitVec 32)
  | touchOn (strip : StripId)
  | touchOff (strip : StripId)
  | grantRequest (strip : StripId) (priority : Priority)
  | grantWithdrawal (strip : StripId)
  | grantReturn (strip : StripId)
  | grant (strip : StripId)
  | supplyLow
  | msupOkRise
  | recoveryTimerExpiry
  | pwmPeriodStart (strip : StripId)
  | driveExpiry (strip : StripId)
  | streamWord (strip : StripId) (word : LinkWord)
  | gangJoin (strip : StripId) (join : JoinArgs)
  | followUpdate (strip : StripId) (pL : Nat)
  | reOffset (strip : StripId) (pL : Nat)
  | gangEnd (strip : StripId)
  | move (strip : StripId) (args : MoveArgs)
  | jump (strip : StripId) (args : MoveArgs)
  | stop (strip : StripId)
  | calibrate (strip : StripId) (tag : Half)
  | setCal (strip : StripId) (bottom top : Half)
  | clearStall (strip : StripId)
  | stripOff (strip : StripId)
  | stripOn (strip : StripId)
  | scene (args : SceneArgs) (entries : List Word)
  | sceneEntry (strip : StripId) (jump : Bool) (args : MoveArgs)
  | gangSet (gang : GangId) (count : Word) (entries : List Word)
  | meterReset (count : Word) (entries : List Word)
  | activityFlush (bus : Bus)
  | setupLoad (count : Word) (mask : Word) (bus : Bus)
  | counterClear
  | sweepTimerExpiry (host : List HostWrite)
  | cellVisit (bus : Bus)
  | postedWriteIssued
  | pageOwnerRead (host : List HostWrite)
  | recordPlacement
  | activityRetryExpiry
  | pageHoldExpiry
  | frameSync (link : LinkId) (before : List LinkSample) (dat : Bool)
  | wordComplete (link : LinkId) (samples : List LinkSample)
  | linkTimeout (link : LinkId)
  | meterServiceEnd
  | meterWord (chan : ChanId) (word : LinkWord)
  | decayExpiry
  | phaseTimerExpiry
  | rowLitEnd
  | reportTimerExpiry
  | coalescingHoldExpiry (which : Coalesced)
  | partTimeCount
  deriving DecidableEq, Repr

end Sys2Proof
end

