-- ==== Sys2Proof/Machine/State.lean ====
section
/-!
DEFINITION. The state of the part as plain data: every register, queue, counter, timer, mode and buffer the
manual gives a block, block by block in the order of its chapters, the posted writes and the memory they go
to, the events delivered between blocks and not yet taken, and the commands that wait.

A timer is held as stopped (`none`) or running with the time it was started with (`some t`); time itself passes
outside, and a timer's expiry is a command (log 3). Natural numbers hold what the manual adds and compares
without wrapping; 16-bit event counters and 32-bit counts are bit vectors.
-/
namespace Sys2Proof.Machine

/-! ### Strips (chapters 1 to 4) -/

/-- What a WAITING strip will do when granted (R30). -/
inductive Purpose | move | calibrate | follow | stream
  deriving DecidableEq, Repr

/-- The ten states of a strip (R25); a WAITING strip carries its purpose. -/
inductive StripState
  | off | uncal | calibrating | idle | waiting (purpose : Purpose) | moving | settling | following | touched | stalled
  deriving DecidableEq, Repr

/-- A strip's part in its gang's present activity (chapter 4); `outside` is the manual's "none". -/
inductive Role | outside | leader | follower | trimming
  deriving DecidableEq, Repr

/-- Where a move entry came from (R55). -/
inductive Origin | cell | scene
  deriving DecidableEq, Repr

/-- A strip's touch policy (R29). -/
inductive TouchPolicy | active | ignore
  deriving DecidableEq, Repr

/-- A strip's release mode (R29). -/
inductive ReleaseMode | stay | return
  deriving DecidableEq, Repr

/-- A strip's source (R29). -/
inductive Source | cells | link
  deriving DecidableEq, Repr

/-- One move entry (R55). -/
structure Entry where
  tag       : Half
  target    : Nat
  duration  : Nat
  priority  : Priority
  origin    : Origin
  touchTime : Bool
  deriving DecidableEq, Repr

/-- A calibration record: bottom code, top code and the valid flag (R14). -/
structure CalRecord where
  bottom : Nat
  top    : Nat
  valid  : Bool
  deriving DecidableEq, Repr

/-- The phases of a calibration run (section 2.6). -/
inductive CalPhase | down | up
  deriving DecidableEq, Repr

/-- A calibration asked for and not yet ended (sections 2.1 and 2.6); `newBottom` is the bottom code kept when
phase DOWN ended (R47). -/
structure CalRun where
  tag       : Half
  phase     : CalPhase
  newBottom : Nat
  anchor    : Option Nat
  steady    : Nat
  count     : Nat
  deriving DecidableEq, Repr

/-- The plan of the current motion: set flag, g0, D, N, step k and guide g (R34, R35). -/
structure Profile where
  set   : Bool
  start : Nat
  dist  : Int
  steps : Nat
  k     : Nat
  guide : Nat
  deriving DecidableEq, Repr

/-- One servo class (R28): Vmax, Kp, Umin, deadband W, settled arrivals S, stall threshold E, stall limit L and
the calibration duty. -/
structure ServoClass where
  vmax     : Nat
  kp       : Nat
  umin     : Nat
  deadband : Nat
  settled  : Nat
  stallErr : Nat
  limit    : Nat
  calDuty  : Nat
  deriving DecidableEq, Repr

/-- A STRIP setup entry (R29). -/
structure StripSettings where
  servoClass : Fin 4
  priority   : Priority
  policy     : TouchPolicy
  release    : ReleaseMode
  trail      : Nat
  source     : Source
  jitter     : Nat
  deriving DecidableEq, Repr

/-- A Strip Motion Context with its Move Queue (sections 1.5, 2.1, 3.1 and chapter 4). `settings` and `servo` are
in force; `staged` is the STRIP entry last loaded, adopted at the next arrival (R29). -/
structure Strip where
  state        : StripState
  r            : Nat
  p            : Nat
  pRep         : Nat
  pRepSet      : Bool
  cal          : CalRecord
  calRun       : Option CalRun
  current      : Option Entry
  restart      : Bool
  chainStart   : Option Nat
  profile      : Profile
  settleCount  : Nat
  settleTime   : Nat
  stallCount   : Nat
  grantHeld    : Bool
  touch        : Bool
  gang         : Option GangId
  role         : Role
  v            : Int
  offset       : Int
  followTarget : Option Nat
  streamTarget : Option Nat
  relatch      : Bool
  relatchRef   : Nat
  trail        : List Nat
  trailStep    : Nat
  queue        : List Entry
  freeze       : Bool
  settings     : StripSettings
  servo        : ServoClass
  staged       : StripSettings
  arrived      : Half
  cut          : Half
  flushed      : Half
  stalls       : Half
  touches      : Half
  deriving DecidableEq, Repr

/-! ### Position Scanner and Touch Scanner (chapter 1) -/

/-- The state of a scan round (R3). -/
inductive RoundState | idle | running
  deriving DecidableEq, Repr

/-- The Position Scanner and its converter (sections 1.1 to 1.3). `timer` is the scan timer with the period it
was last reloaded with; `longNext` says that the next conversion is the 25-clock one (R1); `position` counts the
conversions of the round (0 REF_HI, 1 REF_LO, then the list); `refHi` is the round's REF_HI code. -/
structure Scanner where
  enabled      : Bool
  longNext     : Bool
  timer        : Option Nat
  period       : Nat
  prescale     : Nat
  periodStaged   : Nat
  prescaleStaged : Nat
  round        : RoundState
  warm         : Bool
  list         : List StripId
  position     : Nat
  refHi        : Nat
  runCount     : Nat
  missed       : Half
  refFailures  : Half
  deriving DecidableEq, Repr

/-- The Touch Scanner's state for one strip: TOUCHED or not, and the run counter 0..17 (R19). -/
structure TouchChannel where
  touched : Bool
  run     : Nat
  deriving DecidableEq, Repr

/-- The values of the TOUCH section (R23). -/
structure TouchValues where
  threshold : Nat
  ton       : Nat
  toff      : Nat
  deriving DecidableEq, Repr

/-- The Touch Scanner (section 1.6). -/
structure TouchScanner where
  timer  : Bool
  force  : TouchValues
  staged : TouchValues
  chans  : Vector TouchChannel 32
  deriving DecidableEq, Repr

/-! ### The Gang Table (section 4.5) -/

/-- A gang's activity: its leader and the leader position p_L (R87), and the handovers taken since it began, by
which a join tells whether one was taken since it was sent (R91; the count is the model's own). -/
structure Activity where
  leader    : StripId
  pL        : Nat
  handovers : Nat
  deriving DecidableEq, Repr

/-- One gang (R87). `serial` counts the activities begun, by which a join tells whether the activity that sent
it has ended (R91; the model's own). -/
structure Gang where
  members  : List StripId
  activity : Option Activity
  serial   : Nat
  deriving DecidableEq, Repr

/-! ### Grant Arbiter and Motor Output Unit (chapter 5) -/

/-- One record of the waiting set (section 5.1). -/
structure Request where
  strip    : StripId
  priority : Priority
  deriving DecidableEq, Repr

/-- The arbiter's view of MSUP_OK (section 5.1). -/
inductive Supply | ok | low
  deriving DecidableEq, Repr

/-- The Grant Arbiter (section 5.1). The current budget is `Arbiter.currentBudget`, found from these fields. -/
structure Arbiter where
  grantSet   : List StripId
  waiting    : List Request
  full       : Nat
  pendingFull : Option Nat
  low        : Nat
  floor      : Nat
  supply     : Supply
  recovery   : Option Nat
  deriving DecidableEq, Repr

/-- One output channel (section 5.3): the held drive value, the duty being produced, the DIR level, the pending
output (duty, up), the expiry timer in µs and the PWM prescale its generator has adopted (R115). -/
structure MotorChannel where
  held     : Int
  duty     : Nat
  dir      : Bool
  waiting  : Option (Nat × Bool)
  expiry   : Option Nat
  prescale : Nat
  deriving DecidableEq, Repr

/-- The Motor Output Unit (section 5.3). -/
structure Motors where
  enable         : Bool
  prescaleStaged : Nat
  expiries       : Half
  chans          : Vector MotorChannel 32
  deriving DecidableEq, Repr

/-! ### Activity Writer (chapter 6) -/

/-- The finish kinds (R69). -/
inductive FinishKind | arrived | flushed | cut | ganged | stalled | failed
  deriving DecidableEq, Repr

/-- The fault kinds of a FAULT record (R119). -/
inductive FaultKind | stall | calTimeout | calSpan
  deriving DecidableEq, Repr

/-- The events of a GANG record (R119); `ended` is the manual's "end". -/
inductive GangEvent | start | leader | ended
  deriving DecidableEq, Repr

/-- The records that pass through the activity queue (R119); a GAP record never does. -/
inductive Rec
  | touch (strip : StripId) (p : Nat)
  | release (strip : StripId) (p : Nat)
  | trail (strip : StripId) (positions : List Nat)
  | finish (strip : StripId) (kind : FinishKind) (tag : Half) (origin : Origin) (p : Nat)
  | fault (strip : StripId) (kind : FaultKind)
  | gang (gang : GangId) (leader : StripId) (event : GangEvent)
  deriving DecidableEq, Repr

/-- A record in the queue with its event time (R120). -/
structure QueuedRec where
  record : Rec
  time   : Word
  deriving DecidableEq, Repr

/-- The state of the Activity Writer (section 6.3). -/
inductive WriterState | stopped | seeking | filling
  deriving DecidableEq, Repr

/-- The activity queue and the Activity Writer (sections 6.2 and 6.3). `held` are the records whose handing is
held at the Motion Engine in STOPPING (R121); `deadSeek` says that the writer is SEEKING for the rest of STOPPING
(R131). The retry timer is `State.retryRunning`, found from the state. -/
structure Writer where
  queue      : List QueuedRec
  held       : List QueuedRec
  state      : WriterState
  deadSeek   : Bool
  page       : Nat
  used       : Nat
  base       : Option Word
  gap        : Bool
  hold       : Option Nat
  holdTime   : Nat
  holdStaged : Nat
  lost       : Nat
  lostCount  : Half
  pages      : Nat
  pageSize   : Nat
  deriving DecidableEq, Repr

/-! ### Link receivers and the Meter Engine (chapters 7 and 8) -/

/-- The states of a link (section 7.1). -/
inductive LinkState | off | acquiring | locked | lost
  deriving DecidableEq, Repr

/-- The two forms of frame sync (R138). -/
inductive SyncType | bit | word
  deriving DecidableEq, Repr

/-- An entry of a slot map (R145). -/
inductive Slot
  | meter (chan : ChanId)
  | strip (strip : StripId)
  | null
  deriving DecidableEq, Repr

/-- The settings of a link (R136). -/
structure LinkSettings where
  enable  : Bool
  len     : WordLen
  slots   : Nat
  sync    : SyncType
  timeout : Nat
  deriving DecidableEq, Repr

/-- A routed word: its route and the word (R146). -/
structure RoutedWord where
  route : Slot
  word  : LinkWord
  deriving DecidableEq, Repr

/-- A link receiver (section 7.1). -/
structure LinkRx where
  state    : LinkState
  settings : LinkSettings
  map      : Vector Slot 32
  staged   : Option (LinkSettings × Vector Slot 32)
  lastFs   : Bool
  open_    : Bool
  slot     : Nat
  assembly : List Bool
  acquired : Nat
  timeout  : Option Nat
  queue    : List RoutedWord
  frames   : Half
  short    : Half
  excess   : Half
  overruns : Half
  losses   : Half
  deriving DecidableEq, Repr

/-- The Meter Engine's input: the word in service and the link served last (R148). -/
structure MeterInput where
  service : Option RoutedWord
  last    : LinkId
  deriving DecidableEq, Repr

/-- A channel's hold timer (section 8.1). -/
inductive HoldTimer
  | ms (n : Nat)
  | infinite
  deriving DecidableEq, Repr

/-- A channel's over timer (section 8.1). -/
inductive OverTimer
  | stopped
  | ms (n : Nat)
  | indefinite
  deriving DecidableEq, Repr

/-- A ballistics profile (R154): A, F, hold time, over level, over count and over hold. -/
structure Ballistics where
  rise      : Nat
  decay     : Nat
  hold      : Nat
  overLevel : Nat
  overCount : Nat
  overHold  : Nat
  deriving DecidableEq, Repr

/-- A meter channel (section 8.1). -/
structure Channel where
  m        : Nat
  hv       : Nat
  hold     : HoldTimer
  isOver   : Bool
  overRun  : Nat
  overTime : OverTimer
  nofeed   : Bool
  profile  : Fin 4
  enable   : Bool
  deriving DecidableEq, Repr

/-- The Meter Engine (chapter 8). -/
structure Meters where
  chans    : Vector Channel 64
  profiles : Vector Ballistics 4
  decay    : Bool
  deriving DecidableEq, Repr

/-! ### Bar Driver (chapter 9) -/

/-- A bar map entry (R171): the channel or NONE, and the scale table. -/
structure BarEntry where
  chan  : Option ChanId
  table : Fin 2
  deriving DecidableEq, Repr

/-- The values of the BARS section (R171). -/
structure BarValues where
  map        : Vector BarEntry 64
  brightness : Nat
  lampTest   : Bool
  deriving DecidableEq, Repr

/-- A scale table: 40 thresholds (R172). -/
abbrev Scale := Vector Nat 40

/-- The content of one bar in the snapshot (R174). -/
structure BarContent where
  lit  : Nat
  dot  : Option Nat
  isOver : Bool
  deriving DecidableEq, Repr

/-- The Bar Driver (section 9.1). `phase` is the phase timer, running with the present phase; `rows` are the row
select lines BROW0..BROW7 and `columns` the lamp states on BCOL in bar order (R175). -/
structure Bars where
  force        : BarValues
  scales       : Vector Scale 2
  barsStaged   : Option BarValues
  scalesStaged : Option (Vector Scale 2)
  snapshot     : Vector BarContent 64
  phase        : Option (Fin 8)
  rows         : BitVec 8
  columns      : List Bool
  deriving DecidableEq, Repr

/-! ### Image Port and Cell Sweep (chapter 10) -/

/-- What reaching memory means for a posted write: nothing more, a cell returned (R193), or a report ended (R201). -/
inductive WriteNote | plain | cellOwner | reportEnd
  deriving DecidableEq, Repr

/-- One posted write: its offset in the image, its word and its note (R189). -/
structure PostedWrite where
  offset : Nat
  data   : Word
  note   : WriteNote
  deriving DecidableEq, Repr

/-- Memory: the bytes at bus addresses, strictly rising, none equal to what an unlisted address reads as. -/
abbrev Memory := List Host.Cell

/-- The outcomes of a cell command, in the order of R194. -/
inductive Outcome
  | done | clamped | partlyRefused | queueFull | notCalibrated | stripOff | stalled | wrongSource | gangBusy | inGang
  | badList | calSpan | badKind
  deriving DecidableEq, Repr

/-- The Cell Sweep (section 10.3): the sweep timer with the period it was last reloaded with, the period in
force and staged, the cell the pass stands at (0..3 G0..G3, then S0..S31), the read-ahead buffer, the sweep count,
the sweep-late counter, and what the command last taken answered (its outcome and its refused-set word). -/
structure Sweep where
  timer        : Option Nat
  period       : Nat
  periodStaged : Nat
  pass         : Option Nat
  readAhead    : List Word
  count        : Word
  late         : Half
  outcome      : Option Outcome
  refused      : Word
  deriving DecidableEq, Repr

/-! ### Report Writer and Attention Unit (chapter 11) -/

/-- The two report banks. -/
inductive Bank | a | b
  deriving DecidableEq, Repr

/-- A report being written (R201): its target bank, the next record (0 part, 1..32 strips, 33..96 channels,
97..98 links, 99 the header words, 100 none) and the words taken but not yet handed. -/
structure ReportRun where
  bank  : Bank
  next  : Nat
  words : List PostedWrite
  deriving DecidableEq, Repr

/-- The Report Writer (section 11.2). -/
structure Reporter where
  timer        : Option Nat
  period       : Nat
  periodStaged : Nat
  bank         : Bank
  count        : Word
  run          : Option ReportRun
  deriving DecidableEq, Repr

/-- The attention causes, bits 0..7 of ATTN (section 10.5). -/
inductive Cause | cell | activity | report | strip | link | supply | scan | state
  deriving DecidableEq, Repr

/-- The coalescing state of CELL or ACTIVITY (section 11.4). -/
structure Coalescing where
  pending         : Nat
  timer           : Option Nat
  threshold       : Nat
  hold            : Nat
  thresholdStaged : Option Nat
  holdStaged      : Option Nat
  deriving DecidableEq, Repr

/-- The Attention Unit (section 11.3). -/
structure Attention where
  attn     : BitVec 8
  mask     : BitVec 8
  cell     : Coalescing
  activity : Coalescing
  deriving DecidableEq, Repr

/-! ### Part Control (section 10.1) -/

/-- The five part states. -/
inductive PartState | halted | starting | running | stopping | faulted
  deriving DecidableEq, Repr

/-- The fault code of PSTAT (R179). -/
inductive FaultCode | noFault | bus | scan
  deriving DecidableEq, Repr

/-- The start result of PSTAT (R179). -/
inductive StartResult | noResult | ok | clamped | imageInvalid
  deriving DecidableEq, Repr

/-- The header fields the header check tests (R180). -/
inductive HeaderField | version | strips | channels | pages | pageSize
  deriving DecidableEq, Repr

/-- The last refused command of PSTAT (R179). -/
inductive Refused | noCommand | start | stop
  deriving DecidableEq, Repr

/-- The header counts in force (R180): layout version, strip count n, meter channel count, page count, page size. -/
structure HeaderCounts where
  version  : Nat
  strips   : Nat
  channels : Nat
  pages    : Nat
  pageSize : Nat
  deriving DecidableEq, Repr

/-- How far the STOP sequence of R183 has come: not begun; handing its records (steps 1 and 2); draining the Activity
Writer; waiting to begin the final report; writing it; waiting for the posted-write queue. -/
inductive StopPhase | idle | handing | drain | awaitReport | report | lastWrites
  deriving DecidableEq, Repr

/-- Part Control: part state, the header check and start sequence in progress, the STOP sequence, the registers
it owns, the image base in force, the header counts in force and part time (section 10.1). -/
structure Part where
  state       : PartState
  checking    : Bool
  sequenceDue : Bool
  stop        : StopPhase
  ibase       : Word
  base        : Word
  fault       : FaultCode
  startResult : StartResult
  failing     : Option HeaderField
  refused     : Refused
  pfadr       : Word
  header      : HeaderCounts
  time        : Word
  deriving DecidableEq, Repr

/-! ### The whole part -/

/-- The state of the machine. `pending` are the commands that wait, first in, first out; `inFlight` are the
events delivered from one block to another and not yet taken, oldest first (log 2); `servoLoaded` are the servo
classes last loaded, staged for every strip (R29); `msupOk` is the level of the MSUP_OK pin. -/
structure State where
  pending     : List Instr
  inFlight    : List Instr
  part        : Part
  memory      : Memory
  posted      : List PostedWrite
  sweep       : Sweep
  scanner     : Scanner
  touchScan   : TouchScanner
  servoLoaded : Vector ServoClass 4
  strips      : Vector Strip 32
  gangs       : Vector Gang 8
  arbiter     : Arbiter
  msupOk      : Bool
  motors      : Motors
  writer      : Writer
  links       : Vector LinkRx 2
  input       : MeterInput
  meters      : Meters
  bars        : Bars
  reporter    : Reporter
  attention   : Attention
  deriving DecidableEq, Repr

/-- The reasons a step can fault. -/
inductive Fault
  /-- An access outside the desk image. Raised by no command: every access the part makes lies in the image by
  the layout of section 10.5, and a bus error is the command BUS_FAULT with its own effect. Safe. -/
  | outsideImage
  deriving DecidableEq, Repr

/-- The reasons a command can be refused. -/
inductive Refusal
  /-- A command without a meaning yet, by its mnemonic. Raised by `exec`'s refused arms only, of which there are
  none. Safe. -/
  | notModelled (mnemonic : String)
  deriving DecidableEq, Repr

/-! ### Reset values -/

/-- The servo class defaults (R28). -/
def ServoClass.defaults : ServoClass :=
  { vmax := 24, kp := 48, umin := 40, deadband := 6, settled := 4, stallErr := 600, limit := 400, calDuty := 120 }

/-- The STRIP entry defaults (R29). -/
def StripSettings.defaults : StripSettings :=
  { servoClass := 0, priority := 4, policy := .active, release := .stay, trail := 0, source := .cells, jitter := 3 }

/-- A profile with nothing planned (R26). -/
def Profile.clear : Profile := { set := false, start := 0, dist := 0, steps := 0, k := 0, guide := 0 }

/-- A context after power-on reset (R14, R17, R26, R86, R87). -/
def Strip.reset : Strip :=
  { state := .uncal, r := 0, p := 0, pRep := 0, pRepSet := false, cal := { bottom := 0, top := 0, valid := false },
    calRun := none, current := none, restart := false, chainStart := none, profile := Profile.clear,
    settleCount := 0, settleTime := 0, stallCount := 0, grantHeld := false, touch := false, gang := none,
    role := .outside, v := 0, offset := 0, followTarget := none, streamTarget := none, relatch := false,
    relatchRef := 0, trail := [], trailStep := 0, queue := [], freeze := false, settings := StripSettings.defaults,
    servo := ServoClass.defaults, staged := StripSettings.defaults, arrived := 0, cut := 0, flushed := 0, stalls := 0,
    touches := 0 }

/-- The Position Scanner after both resets (R1, R2, R4, R6, R9, R10). -/
def Scanner.reset : Scanner :=
  { enabled := false, longNext := true, timer := none, period := 500, prescale := 16, periodStaged := 500,
    prescaleStaged := 16, round := .idle, warm := false, list := [], position := 0, refHi := 0, runCount := 0,
    missed := 0, refFailures := 0 }

/-- The TOUCH defaults (R23). -/
def TouchValues.defaults : TouchValues := { threshold := 8, ton := 2, toff := 6 }

/-- The Touch Scanner after both resets (R24). -/
def TouchScanner.reset : TouchScanner :=
  { timer := false, force := TouchValues.defaults, staged := TouchValues.defaults,
    chans := Vector.replicate 32 { touched := false, run := 0 } }

/-- A dissolved gang (R87). -/
def Gang.reset : Gang := { members := [], activity := none, serial := 0 }

/-- The Grant Arbiter after both resets (R101). -/
def Arbiter.reset : Arbiter :=
  { grantSet := [], waiting := [], full := 12, pendingFull := none, low := 4, floor := 3, supply := .ok,
    recovery := none }

/-- An output channel after both resets (R112). -/
def MotorChannel.reset : MotorChannel :=
  { held := 0, duty := 0, dir := false, waiting := none, expiry := none, prescale := 4 }

/-- The Motor Output Unit after both resets (R112). -/
def Motors.reset : Motors :=
  { enable := false, prescaleStaged := 4, expiries := 0, chans := Vector.replicate 32 MotorChannel.reset }

/-- The Activity Writer after both resets (R120 to R122, R127); the page count and size stand at 0 until the
first START (log 5). -/
def Writer.reset : Writer :=
  { queue := [], held := [], state := .stopped, deadSeek := false, page := 0, used := 0, base := none, gap := false,
    hold := none, holdTime := 20, holdStaged := 20, lost := 0, lostCount := 0, pages := 0, pageSize := 0 }

/-- The LINK defaults (R135). -/
def LinkSettings.defaults : LinkSettings :=
  { enable := false, len := .w24, slots := 8, sync := .word, timeout := 5 }

/-- A link receiver after both resets (R135). -/
def LinkRx.reset : LinkRx :=
  { state := .off, settings := LinkSettings.defaults, map := Vector.replicate 32 .null, staged := none,
    lastFs := true, open_ := false, slot := 0, assembly := [], acquired := 0, timeout := none, queue := [],
    frames := 0, short := 0, excess := 0, overruns := 0, losses := 0 }

/-- The Meter Engine's input after both resets: L1 was served last (R148). -/
def MeterInput.reset : MeterInput := { service := none, last := 1 }

/-- A meter channel after both resets (R153). -/
def Channel.reset : Channel :=
  { m := 0, hv := 0, hold := .ms 0, isOver := false, overRun := 0, overTime := .stopped, nofeed := true, profile := 0,
    enable := true }

/-- The default profiles 0..3 (R154). -/
def Ballistics.defaults : Vector Ballistics 4 :=
  #v[{ rise := 26, decay := 3, hold := 1500, overLevel := 480, overCount := 3, overHold := 2000 },
     { rise := 256, decay := 10, hold := 1000, overLevel := 480, overCount := 3, overHold := 2000 },
     { rise := 4, decay := 1, hold := 0, overLevel := 480, overCount := 3, overHold := 2000 },
     { rise := 26, decay := 3, hold := 1500, overLevel := 480, overCount := 3, overHold := 2000 }]

/-- The Meter Engine after both resets (R153). -/
def Meters.reset : Meters :=
  { chans := Vector.replicate 64 Channel.reset, profiles := Ballistics.defaults, decay := false }

/-- A dark bar (R174). -/
def BarContent.dark : BarContent := { lit := 0, dot := none, isOver := false }

/-- The BARS values in force after both resets (R170). -/
def BarValues.defaults : BarValues :=
  { map := Vector.ofFn fun i => { chan := some i, table := 0 }, brightness := 12, lampTest := false }

/-- The scale tables after both resets (R170). -/
def Bars.defaultScales : Vector Scale 2 :=
  #v[Vector.ofFn fun i => 160 + 8 * i.val, Vector.ofFn fun i => 320 + 4 * i.val]

/-- BCOL with every lamp off. -/
def Bars.lampsOff : List Bool := List.replicate Config.rowLamps false

/-- The Bar Driver after both resets (R170). -/
def Bars.reset : Bars :=
  { force := BarValues.defaults, scales := Bars.defaultScales, barsStaged := none, scalesStaged := none,
    snapshot := Vector.replicate 64 BarContent.dark, phase := none, rows := 0, columns := Bars.lampsOff }

/-- The Cell Sweep after both resets (R192). -/
def Sweep.reset : Sweep :=
  { timer := none, period := 1000, periodStaged := 1000, pass := none, readAhead := [], count := 0, late := 0,
    outcome := none, refused := 0 }

/-- The Report Writer after both resets (R200). -/
def Reporter.reset : Reporter :=
  { timer := none, period := 10, periodStaged := 10, bank := .a, count := 0, run := none }

/-- A coalescing state after both resets (R205). -/
def Coalescing.reset : Coalescing :=
  { pending := 0, timer := none, threshold := 0, hold := 0, thresholdStaged := none, holdStaged := none }

/-- The Attention Unit after both resets (R203, R205). -/
def Attention.reset : Attention :=
  { attn := 0, mask := 0, cell := Coalescing.reset, activity := Coalescing.reset }

/-- Part Control after power-on reset (R178, R179, R188); the header counts and the image base in force stand at
0 until the first START (log 5). -/
def Part.reset : Part :=
  { state := .halted, checking := false, sequenceDue := false, stop := .idle, ibase := 0, base := 0,
    fault := .noFault, startResult := .noResult, failing := none, refused := .noCommand, pfadr := 0,
    header := { version := 0, strips := 0, channels := 0, pages := 0, pageSize := 0 }, time := 0 }

/-- The machine right after power-on reset (R186): every block at the power-on values of its chapter, no command
waiting, no event under way, nothing written to memory, and MSUP_OK high (log 5). -/
def State.reset : State :=
  { pending := [], inFlight := [], part := Part.reset, memory := [], posted := [], sweep := Sweep.reset,
    scanner := Scanner.reset, touchScan := TouchScanner.reset,
    servoLoaded := Vector.replicate 4 ServoClass.defaults, strips := Vector.replicate 32 Strip.reset,
    gangs := Vector.replicate 8 Gang.reset, arbiter := Arbiter.reset, msupOk := true, motors := Motors.reset,
    writer := Writer.reset, links := Vector.replicate 2 LinkRx.reset, input := MeterInput.reset,
    meters := Meters.reset, bars := Bars.reset, reporter := Reporter.reset, attention := Attention.reset }

end Sys2Proof.Machine
end

