-- ==== Sys2Proof/Machine/Flags.lean ====
section
/-!
DEFINITION. The flags the host reads: the attention causes and IRQ (section 11.3), the coalescing of CELL and
ACTIVITY (section 11.4), and the words the slave-port registers read as (section 10.5).
-/
namespace Sys2Proof.Machine

/-- The bit of a cause in ATTN and AMASK (section 10.5). -/
def Cause.bit : Cause → Nat
  | .cell => 0 | .activity => 1 | .report => 2 | .strip => 3
  | .link => 4 | .supply => 5 | .scan => 6 | .state => 7

/-- A cause as a one-bit mask. -/
def Cause.mask (c : Cause) : BitVec 8 := 1#8 <<< c.bit

/-- Setting a cause; one already set stays set (R203). -/
def Attention.set (a : Attention) (c : Cause) : Attention := { a with attn := a.attn ||| c.mask }

/-- Whether a cause stands in ATTN. -/
def Attention.has (a : Attention) (c : Cause) : Bool := a.attn.getLsbD c.bit

/-- IRQ is high while at least one cause is set and its AMASK bit is set (R203). -/
def Attention.irq (a : Attention) : Bool := a.attn &&& a.mask != 0#8

/-- A host write to ATTN clears each cause whose bit is written 1; bits 8..31 have no effect (R203). -/
def Attention.writeAttn (a : Attention) (w : Word) : Attention := { a with attn := a.attn &&& ~~~(w.truncate 8) }

/-- A host write to AMASK (R203). -/
def Attention.writeMask (a : Attention) (w : Word) : Attention := { a with mask := w.truncate 8 }

/-- The cause of a coalescing state. -/
def causeOf : Coalesced → Cause
  | .cell => .cell
  | .activity => .activity

/-- The coalescing state of a cause. -/
def Attention.coalescing (a : Attention) : Coalesced → Coalescing
  | .cell => a.cell
  | .activity => a.activity

/-- `a` with one coalescing state replaced. -/
def Attention.withCoalescing (a : Attention) (w : Coalesced) (co : Coalescing) : Attention :=
  match w with
  | .cell => { a with cell := co }
  | .activity => { a with activity := co }

/-- What every setting of a coalesced cause does to its state: no event pending, the hold timer stopped, the staged
values adopted (R204, R205). -/
def Coalescing.settle (co : Coalescing) : Coalescing :=
  { pending := 0, timer := none,
    threshold := co.thresholdStaged.getD co.threshold, hold := co.holdStaged.getD co.hold,
    thresholdStaged := none, holdStaged := none }

/-- A coalesced cause set by the rule of R204. -/
def Attention.raise (a : Attention) (w : Coalesced) : Attention :=
  (a.withCoalescing w (a.coalescing w).settle).set (causeOf w)

/-- The state of a coalesced cause after an event has been counted (R204, step 2). -/
def Coalescing.counted (co : Coalescing) : Coalescing :=
  { co with
    pending := min 255 (co.pending + 1)
    timer := if co.pending = 0 ∧ co.hold ≠ 0 then some co.hold else co.timer }

/-- A CELL or ACTIVITY event taken at the Attention Unit (R204). -/
def Attention.event (a : Attention) (w : Coalesced) : Attention :=
  let co := a.coalescing w
  if co.threshold = 0 ∧ co.hold = 0 then a.raise w
  else
    let b := a.withCoalescing w co.counted
    if co.threshold ≠ 0 ∧ co.threshold ≤ co.counted.pending then b.raise w else b

/-- The hold timer expiry of CELL or ACTIVITY; a stopped timer does not expire (R204, log 3). -/
def Attention.holdExpiry (a : Attention) (w : Coalesced) : Attention :=
  if (a.coalescing w).timer.isSome then a.raise w else a

/-- One field of an ATTN load: an in-force value of 0 adopts the loaded value at once, any other has it staged (R205). -/
def loadedField (inForce loaded : Nat) : Nat × Option Nat :=
  if inForce = 0 then (loaded, none) else (inForce, some loaded)

/-- The load of one cause's threshold and hold time outside START (R205). -/
def Attention.load (a : Attention) (w : Coalesced) (threshold hold : Nat) : Attention :=
  let co := a.coalescing w
  let t := loadedField co.threshold threshold
  let h := loadedField co.hold hold
  let co1 := { co with threshold := t.1, thresholdStaged := t.2, hold := h.1, holdStaged := h.2 }
  let b := a.withCoalescing w co1
  if co.threshold = 0 ∧ threshold ≠ 0 ∧ threshold ≤ co.pending then b.raise w
  else if co.hold = 0 ∧ hold ≠ 0 ∧ 0 < co.pending ∧ co.timer = none then
    b.withCoalescing w { co1 with timer := some hold }
  else b

/-- The START load: every value adopted at once and none left staged (R205). -/
def Attention.loadAtStart (a : Attention) (w : Coalesced) (threshold hold : Nat) : Attention :=
  a.withCoalescing w
    { a.coalescing w with threshold := threshold, hold := hold, thresholdStaged := none, holdStaged := none }

/-- What entry to HALTED from STOPPING and entry to FAULTED do to one cause: a pending count above 0 sets it, and then
the count is 0, the timer stopped and staged values adopted (R205). With a pending count of 0 no cause is set, and staged values
are adopted all the same: the sentence of R205 can also be read as adopting them only where the cause is set (DESIGN CHOICE,
log 42). -/
def Attention.flush (a : Attention) (w : Coalesced) : Attention :=
  if 0 < (a.coalescing w).pending then a.raise w
  else a.withCoalescing w (a.coalescing w).settle

/-- Both causes flushed (R205). -/
def Attention.flushBoth (a : Attention) : Attention := (a.flush .cell).flush .activity

/-! ### The words the registers read as (section 10.5) -/

/-- The state code of PSTAT bits 2..0. -/
def PartState.code : PartState → Nat
  | .halted => 0 | .starting => 1 | .running => 2 | .stopping => 3 | .faulted => 4

/-- The fault code of PSTAT bits 5..4. -/
def FaultCode.code : FaultCode → Nat
  | .noFault => 0 | .bus => 1 | .scan => 2

/-- The start result code of PSTAT bits 11..8 and of header word 12. -/
def StartResult.code : StartResult → Nat
  | .noResult => 0 | .ok => 1 | .clamped => 2 | .imageInvalid => 3

/-- The failing field code of PSTAT bits 15..12 and of header word 12. -/
def HeaderField.code : HeaderField → Nat
  | .version => 1 | .strips => 2 | .channels => 3 | .pages => 4 | .pageSize => 5

/-- The code of an optional failing field: 0 when there is none. -/
def failingCode : Option HeaderField → Nat
  | none => 0
  | some f => f.code

/-- The last refused code of PSTAT bits 17..16. -/
def Refused.code : Refused → Nat
  | .noCommand => 0 | .start => 1 | .stop => 2

/-- PSTAT as it reads (section 10.5). -/
def Part.pstat (p : Part) : Word :=
  BitVec.ofNat 32 (bitsAt p.state.code 3 0 + bitsAt p.fault.code 2 4 + bitsAt p.startResult.code 4 8 +
    bitsAt (failingCode p.failing) 4 12 + bitsAt p.refused.code 2 16)

/-- Header word 12: the start result and the failing field (section 10.5). -/
def Part.resultWord (p : Part) : Word :=
  BitVec.ofNat 32 (bitsAt p.startResult.code 8 0 + bitsAt (failingCode p.failing) 8 8)

/-- A read of the slave port at a register offset; reads have no effect, and PCTL reads 0 (section 10.5). An offset that names no
register reads 0 too (DESIGN CHOICE, log 36). -/
def State.readRegister (s : State) (offset : Word) : Word :=
  match offset.toNat with
  | 0x00 => s.part.ibase
  | 0x08 => s.part.pstat
  | 0x0C => s.part.pfadr
  | 0x10 => s.attention.attn.zeroExtend 32
  | 0x14 => s.attention.mask.zeroExtend 32
  | _ => 0

end Sys2Proof.Machine
end

