-- ==== Sys2Proof/Machine/Operands.lean ====
section
/-!
DEFINITION. The operand forms: how the words of a cell spell a command (section 10.5), and how the words of a
setup section become the values of their owner, each taken into its range by the rule of its chapter (R195).
A taken value comes with a flag: set when the value was changed, so that the load is CLAMPED.
-/
namespace Sys2Proof.Machine

/-! ### Cells (sections 10.3 and 10.5) -/

/-- Word `k` of a list of words read; a word not there reads 0. -/
def wordAt (ws : List Word) (k : Nat) : Word := ws.getD k 0

/-- Whether an owner word hands its cell or page to the part: FZ in bits 7..0, whatever its other bits hold (R191). -/
def isFZ (owner : Word) : Bool := fieldOf owner 0 8 == Config.ownerFZ

/-- Bits 15..0 of a word. -/
def lowHalf (w : Word) : Half := w.truncate 16

/-- Bits 31..16 of a word. -/
def highHalf (w : Word) : Half := (w >>> 16).truncate 16

/-- The MOVE and JUMP fields of a strip cell: tag, target, duration and priority (section 10.5). -/
def moveArgsOf (head : List Word) : MoveArgs :=
  { tag := lowHalf (wordAt head 3), target := lowHalf (wordAt head 4), duration := lowHalf (wordAt head 5),
    priority := (wordAt head 6).truncate 3 }

/-- The command a strip cell spells; none for a kind code that is not one of R194's for a strip cell. -/
def stripCommand (i : StripId) (head : List Word) : Option Instr :=
  match (wordAt head 1).toNat with
  | 1 => some (.move i (moveArgsOf head))
  | 2 => some (.jump i (moveArgsOf head))
  | 3 => some (.stop i)
  | 4 => some (.calibrate i (lowHalf (wordAt head 3)))
  | 5 => some (.setCal i (lowHalf (wordAt head 7)) (highHalf (wordAt head 7)))
  | 6 => some (.clearStall i)
  | 7 => some (.stripOn i)
  | 8 => some (.stripOff i)
  | _ => none

/-- The fields a SCENE takes from its group cell (R66, section 10.5). -/
def sceneArgsOf (head : List Word) : SceneArgs :=
  { tag := lowHalf (wordAt head 4), duration := lowHalf (wordAt head 5), priority := (wordAt head 6).truncate 3,
    jump := (wordAt head 6).getLsbD 8, count := wordAt head 7 }

/-- The count of a group command, one above 32 taken as 32 (R66, R88, R168, R193). -/
def entryCount (count : Word) : Nat := min 32 count.toNat

/-- Whether a count was taken down. -/
def countTaken (count : Word) : Bool := 32 < count.toNat

/-- How many entry words the visit of a group cell reads: count words for SCENE, GANG_SET, SETUP_LOAD and
METER_RESET, none for other kinds (R193). -/
def entriesRead (head : List Word) : Nat :=
  match (wordAt head 1).toNat with
  | 16 | 17 | 18 | 19 => entryCount (wordAt head 7)
  | _ => 0

/-- The command a group cell spells from its head and entry words; none for a kind code that is not one of R194's
for a group cell. -/
def groupCommand (head entries : List Word) : Option Instr :=
  match (wordAt head 1).toNat with
  | 16 => some (.scene (sceneArgsOf head) entries)
  | 17 => some (.gangSet (BitVec.toFin ((wordAt head 6).truncate 3)) (wordAt head 7) entries)
  | 18 => some (.setupLoad (wordAt head 7) (wordAt entries 0) Bus.quiet)
  | 19 => some (.meterReset (wordAt head 7) entries)
  | 20 => some (.activityFlush Bus.quiet)
  | 21 => some .counterClear
  | _ => none

/-- The strip an entry word of SCENE or GANG_SET names: bits 4..0 (section 10.5). -/
def entryStrip (w : Word) : StripId := BitVec.toFin (w.truncate 5)

/-- The channel an entry word of METER_RESET names: bits 5..0 (section 10.5). -/
def entryChan (w : Word) : ChanId := BitVec.toFin (w.truncate 6)

/-- The MOVE or JUMP one entry of a SCENE stands for: its own target, in bits 31..16, and the shared tag, duration and
priority (R67, section 10.5). -/
def sceneMove (a : SceneArgs) (w : Word) : MoveArgs :=
  { tag := a.tag, target := highHalf w, duration := a.duration, priority := a.priority }

/-- The word with bit `i` set for each strip `i` of a list. -/
def stripBits (l : List StripId) : Word := l.foldl (fun w i => w ||| 1#32 <<< i.val) 0

/-- The code the part writes for an outcome: numbered 1..13 in the order of R194 (section 10.5). -/
def Outcome.code : Outcome → Nat
  | .done => 1 | .clamped => 2 | .partlyRefused => 3 | .queueFull => 4 | .notCalibrated => 5 | .stripOff => 6
  | .stalled => 7 | .wrongSource => 8 | .gangBusy => 9 | .inGang => 10 | .badList => 11 | .calSpan => 12
  | .badKind => 13

/-- The travel target a field gives: one above 4095 is taken as 4095 (R55). -/
def takenTarget (t : Half) : Nat := min Config.travelTop t.toNat

/-- The duration a field gives: one above 16383 ms is taken as 16383 (R55). -/
def takenDuration (d : Half) : Nat := min 16383 d.toNat

/-- Whether a MOVE or JUMP had its target or its duration taken down (R55). -/
def moveClamped (a : MoveArgs) : Bool := Config.travelTop < a.target.toNat || 16383 < a.duration.toNat

/-- A calibration code: one above 1023 is taken as 1023 (R51). -/
def takenCode (c : Half) : Nat := min 1023 c.toNat

/-! ### Values taken into range -/

/-- A value taken into `lo..hi`, and whether that changed it. -/
def takeRange (lo hi v : Nat) : Nat × Bool := (clampNat lo hi v, v < lo || hi < v)

/-- A value taken into `lo..hi` and then down to a multiple of `m`, and whether that changed it (R7, R192). -/
def takeMultiple (lo hi m v : Nat) : Nat × Bool :=
  let t := clampNat lo hi v / m * m
  (t, t != v)

/-- A value taken into `lo..hi` and then down to a power of two, and whether that changed it (R7, R115). -/
def takePower (lo hi v : Nat) : Nat × Bool :=
  let t := 2 ^ (clampNat lo hi v).log2
  (t, t != v)

/-! ### The setup sections (section 10.5) -/

/-- The twelve setup sections, in their order; a section's number is its mask bit (section 10.5). -/
inductive SetupSection | servo | strip | scan | touch | grant | drive | meter | scale | bars | link | attn | report
  deriving DecidableEq, Repr

/-- Every section, in the section order. -/
def SetupSection.all : List SetupSection :=
  [.servo, .strip, .scan, .touch, .grant, .drive, .meter, .scale, .bars, .link, .attn, .report]

/-- A section's mask bit. -/
def SetupSection.bit : SetupSection → Nat
  | .servo => 0 | .strip => 1 | .scan => 2 | .touch => 3 | .grant => 4 | .drive => 5
  | .meter => 6 | .scale => 7 | .bars => 8 | .link => 9 | .attn => 10 | .report => 11

/-- A section's offset in the image. -/
def SetupSection.offset : SetupSection → Nat
  | .servo => 0x0800 | .strip => 0x0880 | .scan => 0x0C00 | .touch => 0x0C08 | .grant => 0x0C14 | .drive => 0x11D0
  | .meter => 0x0C20 | .scale => 0x0E80 | .bars => 0x0FC0 | .link => 0x1200 | .attn => 0x1340 | .report => 0x1350

/-- A section's words. -/
def SetupSection.words : SetupSection → Nat
  | .servo => 32 | .strip => 224 | .scan => 2 | .touch => 3 | .grant => 3 | .drive => 1
  | .meter => 152 | .scale => 80 | .bars => 130 | .link => 74 | .attn => 4 | .report => 3

/-- Value `k` of a section: the whole word, unsigned. -/
def valueAt (ws : List Word) (k : Nat) : Nat := (wordAt ws k).toNat

/-- Servo class `c` of the SERVO section, each parameter clamped into its range (R28). -/
def takeServoClass (ws : List Word) (c : Nat) : ServoClass × Bool :=
  let v := fun k => valueAt ws (8 * c + k)
  let vmax := takeRange 4 255 (v 0)
  let kp := takeRange 1 255 (v 1)
  let umin := takeRange 0 255 (v 2)
  let w := takeRange 1 63 (v 3)
  let s := takeRange 1 15 (v 4)
  let e := takeRange 64 4095 (v 5)
  let l := takeRange 16 4095 (v 6)
  let d := takeRange 40 255 (v 7)
  ({ vmax := vmax.1, kp := kp.1, umin := umin.1, deadband := w.1, settled := s.1, stallErr := e.1, limit := l.1,
     calDuty := d.1 },
   vmax.2 || kp.2 || umin.2 || w.2 || s.2 || e.2 || l.2 || d.2)

/-- STRIP entry `i` (R29, R16): class, priority, policy, release and source take the bits given; the trail interval is
clamped to 255 and J to 15. -/
def takeStripEntry (ws : List Word) (i : Nat) : StripSettings × Bool :=
  let w := fun k => wordAt ws (7 * i + k)
  let trail := takeRange 0 255 (w 4).toNat
  let j := takeRange 0 15 (w 6).toNat
  ({ servoClass := BitVec.toFin ((w 0).truncate 2), priority := (w 1).truncate 3,
     policy := if (w 2).getLsbD 0 then .ignore else .active,
     release := if (w 3).getLsbD 0 then .return else .stay, trail := trail.1,
     source := if (w 5).getLsbD 0 then .link else .cells, jitter := j.1 },
   trail.2 || j.2)

/-- The SCAN section: period and prescale (R7). -/
def takeScan (ws : List Word) : (Nat × Nat) × Bool :=
  let period := takeMultiple 250 4000 50 (valueAt ws 0)
  let prescale := takePower 2 128 (valueAt ws 1)
  ((period.1, prescale.1), period.2 || prescale.2)

/-- The TOUCH section (R23). -/
def takeTouch (ws : List Word) : TouchValues × Bool :=
  let t := takeRange 1 15 (valueAt ws 0)
  let on := takeRange 1 15 (valueAt ws 1)
  let off := takeRange 1 15 (valueAt ws 2)
  ({ threshold := t.1, ton := on.1, toff := off.1 }, t.2 || on.2 || off.2)

/-- The values of the GRANT section: full budget, low budget, floor level. -/
structure GrantValues where
  full  : Nat
  low   : Nat
  floor : Nat
  deriving DecidableEq, Repr

/-- The GRANT section (R102). -/
def takeGrant (ws : List Word) : GrantValues × Bool :=
  let g := takeRange 1 32 (valueAt ws 0)
  let low := takeRange 0 g.1 (valueAt ws 1)
  let floor := takeRange 0 7 (valueAt ws 2)
  ({ full := g.1, low := low.1, floor := floor.1 }, g.2 || low.2 || floor.2)

/-- The DRIVE section: the PWM prescale (R115). -/
def takeDrive (ws : List Word) : Nat × Bool := takePower 1 8 (valueAt ws 0)

/-- Ballistics profile `k` of the METER section (R154). -/
def takeBallistics (ws : List Word) (k : Nat) : Ballistics × Bool :=
  let v := fun j => valueAt ws (6 * k + j)
  let a := takeRange 1 256 (v 0)
  let f := takeRange 0 4095 (v 1)
  let level := takeRange 0 480 (v 3)
  let count := takeRange 1 16 (v 4)
  let overHold := takeRange 0 10000 (v 5)
  ({ rise := a.1, decay := f.1, hold := fieldOf (wordAt ws (6 * k + 2)) 0 16, overLevel := level.1,
     overCount := count.1, overHold := overHold.1 },
   a.2 || f.2 || level.2 || count.2 || overHold.2)

/-- The profile number of channel `c` in the METER section: two bits (section 10.5). -/
def channelProfile (ws : List Word) (c : Nat) : Fin 4 := BitVec.toFin ((wordAt ws (24 + 2 * c)).truncate 2)

/-- The enable flag of channel `c` in the METER section (section 10.5). -/
def channelEnable (ws : List Word) (c : Nat) : Bool := (wordAt ws (25 + 2 * c)).getLsbD 0

/-- The thresholds of a scale table checked upward: none above 480, none below the one before it (R172). -/
def checkedScale (before : Nat) : List Nat → List Nat
  | [] => []
  | t :: ts => max before (min 480 t) :: checkedScale (max before (min 480 t)) ts

/-- The loaded thresholds of scale table `t`. -/
def loadedScale (ws : List Word) (t : Nat) : List Nat := (List.range 40).map fun i => valueAt ws (40 * t + i)

/-- Scale table `t` of the SCALE section (R172). -/
def takeScale (ws : List Word) (t : Nat) : Scale × Bool :=
  let loaded := loadedScale ws t
  let checked := checkedScale 0 loaded
  (Vector.ofFn fun i => checked.getD i.val 0, checked != loaded)

/-- The channel field of a bar map entry: 0..63 a channel, 0xFF the NONE code, 64..254 taken as NONE (R171). -/
def takeBarChannel (w : Word) : Option ChanId × Bool :=
  let c := fieldOf w 0 8
  if h : c < 64 then (some ⟨c, h⟩, false) else (none, c != 0xFF)

/-- The BARS section (R171). -/
def takeBars (ws : List Word) : BarValues × Bool :=
  let brightness := takeRange 1 16 (valueAt ws 128)
  ({ map := Vector.ofFn fun b =>
       { chan := (takeBarChannel (wordAt ws (2 * b.val))).1, table := BitVec.toFin ((wordAt ws (2 * b.val + 1)).truncate 1) },
     brightness := brightness.1, lampTest := (wordAt ws 129).getLsbD 0 },
   brightness.2 || (List.range 64).any fun b => (takeBarChannel (wordAt ws (2 * b))).2)

/-- A slot entry: kind in bits 15..8, number in bits 7..0; a channel or strip at or above the header counts, and an
unknown kind, are taken as NULL (R145). -/
def takeSlot (h : HeaderCounts) (w : Word) : Slot × Bool :=
  let n := fieldOf w 0 8
  match fieldOf w 8 8 with
  | 0 => (.null, false)
  | 1 => if hn : n < h.channels ∧ n < 64 then (.meter ⟨n, hn.2⟩, false) else (.null, true)
  | 2 => if hn : n < h.strips ∧ n < 32 then (.strip ⟨n, hn.2⟩, false) else (.null, true)
  | _ => (.null, true)

/-- The settings of link `l` in the LINK section (R136). -/
def takeLinkSettings (ws : List Word) (l : Nat) : LinkSettings × Bool :=
  let w := fun k => wordAt ws (37 * l + k)
  let len : WordLen × Bool :=
    if (w 1).toNat = 16 then (.w16, false) else (.w24, (w 1).toNat != 24)
  let slots := takeRange 1 32 (w 2).toNat
  let timeout := takeRange 1 100 (w 4).toNat
  ({ enable := (w 0).getLsbD 0, len := len.1, slots := slots.1,
     sync := if (w 3).getLsbD 0 then .word else .bit, timeout := timeout.1 },
   len.2 || slots.2 || timeout.2)

/-- The slot map of link `l` in the LINK section (R145). -/
def takeSlotMap (h : HeaderCounts) (ws : List Word) (l : Nat) : Vector Slot 32 × Bool :=
  (Vector.ofFn fun i => (takeSlot h (wordAt ws (37 * l + 5 + i.val))).1,
   (List.range 32).any fun i => (takeSlot h (wordAt ws (37 * l + 5 + i))).2)

/-- The values of the ATTN section. -/
structure AttnValues where
  cellThreshold     : Nat
  cellHold          : Nat
  activityThreshold : Nat
  activityHold      : Nat
  deriving DecidableEq, Repr

/-- The ATTN section (R205). -/
def takeAttn (ws : List Word) : AttnValues × Bool :=
  let ct := takeRange 0 255 (valueAt ws 0)
  let ch := takeRange 0 65535 (valueAt ws 1)
  let at_ := takeRange 0 255 (valueAt ws 2)
  let ah := takeRange 0 65535 (valueAt ws 3)
  ({ cellThreshold := ct.1, cellHold := ch.1, activityThreshold := at_.1, activityHold := ah.1 },
   ct.2 || ch.2 || at_.2 || ah.2)

/-- The values of the REPORT section. -/
structure ReportValues where
  period : Nat
  hold   : Nat
  sweep  : Nat
  deriving DecidableEq, Repr

/-- The REPORT section: report period (R200), activity hold time (R127), sweep period (R192). -/
def takeReport (ws : List Word) : ReportValues × Bool :=
  let p := takeRange 2 100 (valueAt ws 0)
  let h := takeRange 1 1000 (valueAt ws 1)
  let sw := takeMultiple 250 8000 250 (valueAt ws 2)
  ({ period := p.1, hold := h.1, sweep := sw.1 }, p.2 || h.2 || sw.2)

end Sys2Proof.Machine
end

