-- ==== Sys2Proof/Machine/Ops.lean ====
section
/-!
DEFINITION. The operations the meanings share: memory as canonical bytes, the events between blocks, the records
handed to the activity queue (R120, R121), the drive writes (R113, R114), and the strip context as a pure function
whose effects on other blocks come out as a list, in the order the rule gives them.
-/
namespace Sys2Proof.Machine

/-! ### Memory -/

/-- What a byte that nothing has written reads as (log 4). -/
def Memory.unwritten : BitVec 8 := 0

/-- The byte at an address. -/
def Memory.read : Memory → Nat → BitVec 8
  | [], _ => Memory.unwritten
  | (k, b) :: rest, a => if k = a then b else if a < k then Memory.unwritten else Memory.read rest a

/-- A cell in front of a memory, left out when it holds what an unlisted address reads as. -/
def Memory.cons (a : Nat) (b : BitVec 8) (m : Memory) : Memory :=
  if b = Memory.unwritten then m else (a, b) :: m

/-- A byte written at an address, the canonical form kept. -/
def Memory.write : Memory → Nat → BitVec 8 → Memory
  | [], a, b => Memory.cons a b []
  | (k, c) :: rest, a, b =>
    if k = a then Memory.cons a b rest
    else if a < k then Memory.cons a b ((k, c) :: rest)
    else (k, c) :: Memory.write rest a b

/-- The canonical form from address `lo` on: addresses strictly rising, no cell equal to an unwritten byte. -/
def Memory.wfFrom (lo : Nat) : Memory → Bool
  | [] => true
  | (k, b) :: rest => decide (lo ≤ k) && decide (b ≠ Memory.unwritten) && Memory.wfFrom (k + 1) rest

/-- The canonical form. -/
def Memory.wf (m : Memory) : Bool := Memory.wfFrom 0 m

/-- Byte `k` of a word. -/
def byteOf (w : Word) (k : Nat) : BitVec 8 := (w >>> (8 * k)).truncate 8

/-- The little-endian word at an address (section 10.5). -/
def Memory.readWord (m : Memory) (a : Nat) : Word :=
  m.read (a + 3) ++ m.read (a + 2) ++ m.read (a + 1) ++ m.read a

/-- A little-endian word written at an address. -/
def Memory.writeWord (m : Memory) (a : Nat) (w : Word) : Memory :=
  (((m.write a (byteOf w 0)).write (a + 1) (byteOf w 1)).write (a + 2) (byteOf w 2)).write (a + 3) (byteOf w 3)

/-- The address of the word that holds a bus address. -/
def wordAddr (a : Word) : Nat := a.toNat / 4 * 4

/-- The host's own writes, in their order. -/
def Memory.hostWrites (m : Memory) (ws : List HostWrite) : Memory :=
  ws.foldl (fun m w => m.writeWord (wordAddr w.addr) w.data) m

/-! ### Events and causes -/

/-- An event delivered to a block, to be taken later (log 2). -/
def State.deliver (s : State) (e : Instr) : State := { s with inFlight := s.inFlight ++ [e] }

/-- Whether an event is a sample arrival: one already delivered stands when the converter is disabled (R13). -/
def isArrival : Instr → Bool
  | .sampleArrival _ _ => true
  | _ => false

/-- An event taken: no longer under way. -/
def State.take (s : State) (e : Instr) : State := { s with inFlight := s.inFlight.erase e }

/-- A cause set at the Attention Unit (R203). -/
def State.setCause (s : State) (c : Cause) : State := { s with attention := s.attention.set c }

/-- The host's writes taken into memory. -/
def State.hostWrote (s : State) (ws : List HostWrite) : State := { s with memory := s.memory.hostWrites ws }

/-- The context of a strip. -/
def State.strip (s : State) (i : StripId) : Strip := s.strips[i]

/-- The state with one strip's context replaced. -/
def State.setStrip (s : State) (i : StripId) (x : Strip) : State := { s with strips := s.strips.set i x }

/-- A gang of the Gang Table. -/
def State.gang (s : State) (g : GangId) : Gang := s.gangs[g]

/-- The state with one gang replaced. -/
def State.setGang (s : State) (g : GangId) (x : Gang) : State := { s with gangs := s.gangs.set g x }

/-- Strips in ascending number. -/
def allStrips : List StripId := List.finRange 32

/-- The header strip count n in force. -/
def State.stripCount (s : State) : Nat := s.part.header.strips

/-- The part states in which the links and the Meter Engine are in service (R149, R153). -/
def PartState.metering : PartState → Bool
  | .starting | .running | .stopping => true
  | .halted | .faulted => false

/-! ### Words of the image -/

/-- The bus address of an image offset: the image base in force plus the offset (R189). -/
def State.address (s : State) (offset : Nat) : Nat := s.part.base.toNat + offset

/-- The word at an image offset. -/
def State.readImage (s : State) (offset : Nat) : Word := s.memory.readWord (s.address offset)

/-- `n` words from an image offset on. -/
def State.readWords (s : State) (offset n : Nat) : List Word := (List.range n).map fun k => s.readImage (offset + 4 * k)

/-! ### The activity queue (section 6.2) -/

/-- A dropped record counted: the lost count stops at 65535, the activity lost counter wraps (R121). -/
def Writer.drop (w : Writer) : Writer :=
  { w with lost := min Config.lostMax (w.lost + 1), lostCount := w.lostCount + 1 }

/-- A record at the tail of the activity queue (R120). -/
def Writer.join (w : Writer) (q : QueuedRec) : Writer := { w with queue := w.queue ++ [q] }

/-- A record handed to the activity queue (R120, R121): with 16 queued it is dropped and counted, or, in STOPPING with
the writer FILLING, its handing is held. -/
def Writer.hand (w : Writer) (stopping : Bool) (q : QueuedRec) : Writer :=
  if stopping then
    if w.state = .filling then
      if w.queue.length < Config.activityQueueSize ∧ w.held = [] then w.join q
      else { w with held := w.held ++ [q] }
    else if w.deadSeek then w.drop
    else if w.queue.length < Config.activityQueueSize then w.join q else w.drop
  else if w.queue.length < Config.activityQueueSize then w.join q else w.drop

/-- The image offset of word `k` of the page at the current index (section 6.3). -/
def Writer.pageOffset (w : Writer) (k : Nat) : Nat := Config.activityPages + 4 * w.pageSize * w.page + 4 * k

/-- The writer with the page at its index obtained (R123). -/
def Writer.obtain (w : Writer) : Writer :=
  { w with state := .filling, used := Config.emptyPage, base := none, gap := false, hold := none }

/-- The owner word of the page at the current index. -/
def State.pageOwner (s : State) : Word := s.readImage (s.writer.pageOffset 0)

/-- A record handed, with the part time as its event time (R120, R121). The writer, if it was SEEKING, then reads the owner
of the current page (R123): outside STOPPING the read goes to the Image Port and its result comes later, while the STOP
sequence hands its records it is taken here, after the record has joined or has been dropped (log 13). -/
def State.handRecord (s : State) (r : Rec) : State :=
  let t : State :=
    { s with writer := s.writer.hand (s.part.state = .stopping) { record := r, time := s.part.time } }
  if s.writer.state ≠ .seeking then t
  else if s.part.state ≠ .stopping then t.deliver (.pageOwnerRead [])
  else if s.part.stop = .handing ∧ s.writer.deadSeek = false ∧ isFZ t.pageOwner then { t with writer := t.writer.obtain }
  else t

/-! ### The Motor Output Unit's writes (section 5.3) -/

/-- A write of drive value 0: effective at once, the DIR pin kept (R113). -/
def MotorChannel.zero (m : MotorChannel) : MotorChannel :=
  { m with held := 0, duty := 0, waiting := none, expiry := none }

/-- A write of a drive value: 0 by R113; otherwise the held value at once, the output pending, and the expiry timer
started with twice the scan period in force (R114). -/
def MotorChannel.write (m : MotorChannel) (scanPeriod : Nat) (u : Int) : MotorChannel :=
  if u = 0 then m.zero
  else { m with held := u, waiting := some (u.natAbs, decide (0 < u)), expiry := some (2 * scanPeriod) }

/-- The held drive value of a strip: what the part means by "the strip's drive value". -/
def State.drive (s : State) (i : StripId) : Int := s.motors.chans[i].held

/-- A drive value written to a strip's channel (R113, R114). -/
def State.writeDrive (s : State) (i : StripId) (u : Int) : State :=
  { s with motors := { s.motors with chans := s.motors.chans.set i (s.motors.chans[i].write s.scanner.period u) } }

/-! ### What a strip context does to other blocks -/

/-- One effect of a strip context on another block. -/
inductive Effect
  /-- A record handed to the activity queue. -/
  | record (r : Rec)
  /-- A drive value written to the Motor Output Unit. -/
  | drive (u : Int)
  /-- A request made to the Grant Arbiter (R30). -/
  | request (p : Priority)
  /-- A request withdrawn (R30). -/
  | withdraw
  /-- A grant returned to the Grant Arbiter (R31, R32). -/
  | giveBack
  /-- A cause set at the Attention Unit. -/
  | cause (c : Cause)
  deriving DecidableEq, Repr

/-- One effect taken: records, drives and causes at once; requests, withdrawals and returns as events to the arbiter. -/
def State.effect (s : State) (i : StripId) : Effect → State
  | .record r => s.handRecord r
  | .drive u => s.writeDrive i u
  | .request p => s.deliver (.grantRequest i p)
  | .withdraw => s.deliver (.grantWithdrawal i)
  | .giveBack => s.deliver (.grantReturn i)
  | .cause c => s.setCause c

/-- Effects taken in order. -/
def State.effects (s : State) (i : StripId) (es : List Effect) : State := es.foldl (fun s e => s.effect i e) s

/-- A strip context at work: its number, its fields, and its effects so far, oldest first. -/
structure Ctx where
  id    : StripId
  strip : Strip
  out   : List Effect
  deriving DecidableEq, Repr

/-- An effect made. -/
def Ctx.emit (c : Ctx) (e : Effect) : Ctx := { c with out := c.out ++ [e] }

/-- The context's fields changed. -/
def Ctx.update (c : Ctx) (f : Strip → Strip) : Ctx := { c with strip := f c.strip }

/-- An event taken at a strip's context: the fields as it leaves them, then its effects in order. -/
def State.runStrip (s : State) (i : StripId) (f : Ctx → Ctx) : State :=
  let c := f { id := i, strip := s.strip i, out := [] }
  (s.setStrip i c.strip).effects i c.out

/-- The same for a command, whose outcome goes to the Cell Sweep. -/
def State.runCommand (s : State) (i : StripId) (f : Ctx → Ctx × Outcome) : State :=
  let t := s.runStrip i (fun c => (f c).1)
  { t with sweep := { t.sweep with outcome := some (f { id := i, strip := s.strip i, out := [] }).2, refused := 0 } }

/-! ### Pieces of the context's work that several chapters use -/

/-- The four driving states (R25). -/
def StripState.driving : StripState → Bool
  | .moving | .settling | .following | .calibrating => true
  | _ => false

/-- Whether a strip waits for a grant. -/
def StripState.isWaiting : StripState → Bool
  | .waiting _ => true
  | _ => false

/-- MOVING without a current entry is stream motion (R73). -/
def Strip.streaming (x : Strip) : Bool := x.state == .moving && x.current.isNone

/-- A calibration run stands: CALIBRATING, or WAITING with purpose CALIBRATE (R49). -/
def Strip.calibrationStands (x : Strip) : Bool := x.state == .calibrating || x.state == .waiting .calibrate

/-- The state a strip at rest takes by its calibration record (R26, R27, R53). -/
def Strip.restState (x : Strip) : StripState := if x.cal.valid then .idle else .uncal

/-- A finish counted by the counter of its kind; GANGED and FAILED are not counted (R54). -/
def Strip.countFinish (x : Strip) : FinishKind → Strip
  | .arrived => { x with arrived := x.arrived + 1 }
  | .cut => { x with cut := x.cut + 1 }
  | .flushed => { x with flushed := x.flushed + 1 }
  | .stalled => { x with stalls := x.stalls + 1 }
  | .ganged => x
  | .failed => x

/-- A finish: its FINISH record with the context's last p, and its count (R69). -/
def Ctx.finish (c : Ctx) (k : FinishKind) (tag : Half) (o : Origin) : Ctx :=
  (c.emit (.record (.finish c.id k tag o c.strip.p))).update (·.countFinish k)

/-- The current entry, if any, finishes; its restart mark goes with it (R69, R85). -/
def Ctx.finishCurrent (c : Ctx) (k : FinishKind) : Ctx :=
  match c.strip.current with
  | none => c
  | some e => (c.finish k e.tag e.origin).update fun x => { x with current := none, restart := false }

/-- Every queued entry, oldest first, finishes FLUSHED, and the queue is empty. -/
def Ctx.flushQueue (c : Ctx) : Ctx :=
  (c.strip.queue.foldl (fun c e => c.finish .flushed e.tag e.origin) c).update fun x => { x with queue := [] }

/-- The flush (R62): queued entries, then the current entry; chain start, restart mark (R85) and profile set flag
cleared. -/
def Ctx.flush (c : Ctx) : Ctx :=
  (c.flushQueue.finishCurrent .flushed).update fun x =>
    { x with chainStart := none, restart := false, profile := { x.profile with set := false } }

/-- A strip leaving a driving state: drive 0 first, then the grant returned (R32). -/
def Ctx.stopDriving (c : Ctx) : Ctx :=
  ((c.emit (.drive 0)).emit .giveBack).update fun x => { x with grantHeld := false }

/-- What a strip gives up on leaving its state: a driving strip writes drive 0 and returns its grant (R32), a WAITING
strip withdraws its request (R30). -/
def Ctx.letGo (c : Ctx) : Ctx :=
  if c.strip.state.driving then c.stopDriving
  else if c.strip.state.isWaiting then c.emit .withdraw
  else c

/-- The strip enters WAITING, or changes its purpose there, and makes its request (R30). -/
def Ctx.await (c : Ctx) (purpose : Purpose) (p : Priority) : Ctx :=
  (c.emit (.request p)).update fun x => { x with state := .waiting purpose }

/-- A follower or trimming member leaves its gang's activity: role none, follower target removed, freeze flag
cleared (R98). A leader's departure is the Gang Table's (R97). -/
def Strip.leaveActivity (x : Strip) : Strip :=
  match x.role with
  | .follower | .trimming => { x with role := .outside, followTarget := none, freeze := false }
  | _ => x

/-- The settle and settle-time counts set to 0. -/
def Strip.clearSettle (x : Strip) : Strip := { x with settleCount := 0, settleTime := 0 }

/-- The start rule (R59): an IDLE strip with no current entry, its freeze flag clear and its queue non-empty starts
its first queued entry. -/
def Ctx.startRule (c : Ctx) : Ctx :=
  match c.strip.queue with
  | [] => c
  | e :: rest =>
    if c.strip.state = .idle ∧ c.strip.current = none ∧ c.strip.freeze = false then
      (c.update fun x => { x with queue := rest, current := some e, restart := false }).await .move e.priority
    else c

end Sys2Proof.Machine
end

