-- ==== Sys2Proof/Machine/Motion.lean ====
section
/-!
DEFINITION. A strip at a sample arrival and at a grant: sensing (sections 1.4 and 1.5), the servo step, the settle,
the chase, stall and calibration (chapter 2), stream motion (section 3.5) and trail sampling (section 4.2), and the
meanings of SAMPLE_ARRIVAL and GRANT.
-/
namespace Sys2Proof.Machine

/-! ### Sensing -/

/-- The travel position of a code by a calibration record (R15). -/
def CalRecord.convert (c : CalRecord) (r : Nat) : Nat :=
  if r ≤ c.bottom then 0
  else if c.top ≤ r then Config.travelTop
  else ((r - c.bottom) * 8190 + (c.top - c.bottom)) / (2 * (c.top - c.bottom))

/-- The p of an arrival: 0 in UNCAL and without a valid record, otherwise converted by the record in force (R15, log 8). -/
def Strip.position (x : Strip) (r : Nat) : Nat :=
  if x.state = .uncal ∨ x.cal.valid = false then 0 else x.cal.convert r

/-- The adoption of staged STRIP and SERVO values at an arrival (R29), with what a change of source does (R75). -/
def Ctx.adopt (classes : Vector ServoClass 4) (c : Ctx) : Ctx :=
  let x := c.strip
  let adopted := c.update fun x =>
    { x with settings := x.staged, servo := classes[x.staged.servoClass] }
  if x.settings.source = .link ∧ x.staged.source = .cells then
    let cleared := adopted.update fun x => { x with streamTarget := none, relatch := false }
    if x.streaming then cleared.update fun x => { x.clearSettle with state := .settling }
    else if x.state = .waiting .stream then (cleared.emit .withdraw).update fun x => { x with state := .idle }
    else cleared
  else adopted

/-- Whether v takes the p of this arrival (R86). -/
def Strip.takesPosition (x : Strip) : Bool :=
  !x.pRepSet || x.state == .moving || (x.state == .settling && x.current.isSome) || x.state == .touched

/-- Whether p_rep takes p at this arrival (R16). -/
def Strip.reports (x : Strip) (p : Nat) : Bool :=
  !x.pRepSet || x.state == .moving || x.state == .settling || x.state == .following || x.state == .calibrating ||
    decide (x.settings.jitter ≤ ((p : Int) - x.pRep).natAbs)

/-- What an arrival senses: r, p, p_rep and v (R12, R15, R16, R86). -/
def Strip.sense (x : Strip) (r : Nat) : Strip :=
  let p := x.position r
  { x with
    r := r
    p := p
    pRep := if x.reports p then p else x.pRep
    pRepSet := true
    v := if x.takesPosition then p else x.v }

/-! ### The guide and the drive law -/

/-- The profile computed at the first MOVING arrival of an entry (R34); a restarted entry takes its duration as 0. -/
def Strip.plan (x : Strip) (e : Entry) (scanPeriod : Nat) : Strip :=
  let g0 := x.chainStart.getD x.p
  let d : Int := (e.target : Int) - g0
  let duration := if x.restart then 0 else e.duration
  let nd := (duration * 1000 + scanPeriod - 1) / scanPeriod
  let nv := (d.natAbs + x.servo.vmax - 1) / x.servo.vmax
  { x with
    profile := { set := true, start := g0, dist := d, steps := max (max nd nv) 1, k := 0, guide := g0 }
    chainStart := none
    stallCount := 0 }

/-- The guide of a profile at step `k`: g0 plus D × k / N rounded half away from zero (R35). -/
def Profile.at (q : Profile) (k : Nat) : Nat :=
  let off : Int := ((2 * q.dist.natAbs * k + q.steps) / (2 * q.steps) : Nat)
  ((q.start : Int) + (if 0 ≤ q.dist then off else -off)).toNat

/-- One guide step (R35). -/
def Profile.advance (q : Profile) : Profile := { q with k := q.k + 1, guide := q.at (q.k + 1) }

/-- The guide moved toward an aim by at most Vmax (R40). -/
def chase (vmax guide aim : Nat) : Nat :=
  if guide ≤ aim then (if aim - guide ≤ vmax then aim else guide + vmax)
  else (if guide - aim ≤ vmax then aim else guide - vmax)

/-- The drive value of an error (R36). -/
def ServoClass.drive (k : ServoClass) (e : Int) : Int :=
  if e.natAbs ≤ k.deadband then 0
  else
    let t := e.natAbs * k.kp / 64
    let raised := if t ≠ 0 ∧ t < k.umin then k.umin else t
    let u : Int := (min 255 raised : Nat)
    if 0 ≤ e then u else -u

/-- The error e = g − p. -/
def Strip.error (x : Strip) : Int := (x.profile.guide : Int) - x.p

/-! ### Stall -/

/-- A strip that stalls (R43). -/
def Ctx.stall (c : Ctx) : Ctx :=
  let d := ((c.finishCurrent .stalled).flushQueue.update fun x => { x with chainStart := none }).stopDriving
  ((d.update fun x => { x.leaveActivity.clearSettle with state := .stalled, stallCount := 0 }).emit
    (.record (.fault c.id .stall))).emit (.cause .strip)

/-- The stall count after an arrival in MOVING or FOLLOWING (R41). -/
def Strip.countStall (x : Strip) : Strip :=
  { x with stallCount := if x.servo.stallErr < x.error.natAbs then x.stallCount + 1 else 0 }

/-- Steps 3 to 5 of R33: the error, the drive value and the stall count; a strip that reaches L stalls, any other writes
the drive value and goes on. -/
def Ctx.drive (c : Ctx) (goOn : Ctx → Ctx) : Ctx :=
  let d := c.update Strip.countStall
  if c.strip.servo.limit ≤ d.strip.stallCount then d.stall
  else goOn (d.emit (.drive (d.strip.servo.drive d.strip.error)))

/-! ### The servo step -/

/-- The end of the guide (R37): with a queued entry that may start the strip chains, otherwise it settles. -/
def Ctx.endOfGuide (c : Ctx) : Ctx :=
  match c.strip.queue, c.strip.freeze, c.strip.current with
  | next :: rest, false, some e =>
    (c.finishCurrent .arrived).update fun x =>
      { x with
        current := some next
        queue := rest
        chainStart := some e.target
        profile := { x.profile with set := false } }
  | _, _, _ => c.update fun x => { x.clearSettle with state := .settling }

/-- The servo step of a strip MOVING with an entry (R33). -/
def Ctx.servoStep (scanPeriod : Nat) (e : Entry) (c : Ctx) : Ctx :=
  let planned := if c.strip.profile.set then c else c.update (·.plan e scanPeriod)
  (planned.update fun x => { x with profile := x.profile.advance }).drive fun d =>
    if d.strip.profile.k = d.strip.profile.steps then d.endOfGuide else d

/-- The guide of FOLLOWING and of stream motion moved toward its aim; at the first arrival after the grant it is first
set to p (R40). -/
def Strip.chaseAim (x : Strip) (aim : Nat) : Strip :=
  let g := if x.profile.set then x.profile.guide else x.p
  { x with profile := { x.profile with set := true, guide := chase x.servo.vmax g aim } }

/-- The follow step (R40). -/
def Ctx.followStep (c : Ctx) : Ctx :=
  (c.update fun x => x.chaseAim (x.followTarget.getD x.p)).drive fun d => d

/-- The stream step (R73): the chase, then the count of arrivals at rest on the target; at S the motion ends in IDLE, with the start
check of R59. -/
def Ctx.streamStep (c : Ctx) : Ctx :=
  (c.update fun x => x.chaseAim (x.streamTarget.getD x.p)).drive fun d =>
    let atRest := some d.strip.profile.guide = d.strip.streamTarget ∧ d.strip.error.natAbs ≤ d.strip.servo.deadband
    let n := if atRest then d.strip.settleCount + 1 else 0
    if d.strip.servo.settled ≤ n then
      (d.stopDriving.update fun x => { x with settleCount := 0, state := .idle }).startRule
    else d.update fun x => { x with settleCount := n }

/-- The end of a settle (R39): the current entry finishes ARRIVED, the grant is returned, and a queued entry that may
start becomes current. -/
def Ctx.settleEnd (c : Ctx) : Ctx :=
  ((c.finishCurrent .arrived).stopDriving.update fun x => { x with state := .idle }).startRule

/-- The settle step (R38). -/
def Ctx.settleStep (c : Ctx) : Ctx :=
  let inside := c.strip.error.natAbs ≤ c.strip.servo.deadband
  let u := if inside then 0 else c.strip.servo.drive c.strip.error
  let d := c.update fun x =>
    { x with settleTime := x.settleTime + 1, settleCount := if inside then x.settleCount + 1 else 0 }
  if d.strip.servo.settled ≤ d.strip.settleCount then d.settleEnd
  else if d.strip.servo.limit < d.strip.settleTime then d.stall
  else d.emit (.drive u)

/-! ### Calibration (section 2.6) -/

/-- A calibration that fails (R48). -/
def Ctx.failCalibration (c : Ctx) (run : CalRun) (k : FaultKind) : Ctx :=
  let d := (c.stopDriving.finish .failed run.tag .cell).emit (.record (.fault c.id k))
  (d.emit (.cause .strip)).update fun x =>
    { x with cal := { x.cal with valid := false }, calRun := none, state := .uncal }

/-- The end of a calibration phase at code `r` (R47); a strip left IDLE makes the start check of R59. -/
def Ctx.endPhase (c : Ctx) (run : CalRun) (r : Nat) : Ctx :=
  match run.phase with
  | .down =>
    (c.emit (.drive c.strip.servo.calDuty)).update fun x =>
      { x with calRun := some { run with phase := .up, newBottom := r, anchor := none, steady := 0, count := 0 } }
  | .up =>
    if run.newBottom + Config.leastSpan ≤ r then
      ((c.stopDriving.finish .arrived run.tag .cell).update fun x =>
        { x with
          cal := { bottom := run.newBottom, top := r, valid := true }
          calRun := none
          state := .idle
          v := Config.travelTop }).startRule
    else c.failCalibration run .calSpan

/-- A calibration run after counting one arrival at code `r` (R46, steps 1 and 2). -/
def CalRun.countArrival (run : CalRun) (r : Nat) : CalRun :=
  match run.anchor with
  | some a =>
    if 1 < ((r : Int) - a).natAbs then { run with count := run.count + 1, anchor := some r, steady := 0 }
    else { run with count := run.count + 1, steady := run.steady + 1 }
  | none => { run with count := run.count + 1, anchor := some r, steady := 0 }

/-- The calibration duty with the sign of the phase (R46). -/
def CalRun.duty (run : CalRun) (duty : Nat) : Int :=
  match run.phase with
  | .down => -(duty : Int)
  | .up => duty

/-- The calibration step (R46). -/
def Ctx.calStep (c : Ctx) (r : Nat) : Ctx :=
  match c.strip.calRun with
  | none => c
  | some run0 =>
    let run := run0.countArrival r
    let d := c.update fun x => { x with calRun := some run }
    if Config.steadyArrivals ≤ run.steady then d.endPhase run r
    else if Config.phaseLimit ≤ run.count then d.failCalibration run .calTimeout
    else d.emit (.drive (run.duty d.strip.servo.calDuty))

/-! ### Streams and trails -/

/-- The stream test (R72). -/
def Ctx.streamTest (c : Ctx) : Ctx :=
  match c.strip.streamTarget with
  | none => c
  | some t =>
    if c.strip.state = .idle ∧ c.strip.settings.source = .link ∧ c.strip.relatch = false ∧
        c.strip.servo.deadband < ((t : Int) - c.strip.p).natAbs then
      c.await .stream c.strip.settings.priority
    else c

/-- A TRAIL record of the buffer, which is emptied; with an empty buffer nothing is written (R80). -/
def Ctx.writeTrail (c : Ctx) : Ctx :=
  match c.strip.trail with
  | [] => c
  | ps => (c.emit (.record (.trail c.id ps))).update fun x => { x with trail := [] }

/-- Trail sampling at an arrival taken in TOUCHED (R79). -/
def Ctx.trailStep (c : Ctx) : Ctx :=
  if c.strip.settings.trail = 0 then c
  else
    let n := c.strip.trailStep + 1
    if n < c.strip.settings.trail then c.update fun x => { x with trailStep := n }
    else
      let d := c.update fun x => { x with trailStep := 0, trail := x.trail ++ [x.p] }
      if Config.trailSize ≤ d.strip.trail.length then d.writeTrail else d

/-! ### The arrival -/

/-- What a context does at an arrival by its state (R25). -/
def Ctx.act (scanPeriod : Nat) (r : Nat) (c : Ctx) : Ctx :=
  match c.strip.state with
  | .idle => c.startRule.streamTest
  | .calibrating => c.calStep r
  | .moving =>
    match c.strip.current with
    | some e => c.servoStep scanPeriod e
    | none => c.streamStep
  | .settling => c.settleStep
  | .following => c.followStep
  | .touched => c.trailStep
  | .off | .uncal | .waiting _ | .stalled => c

/-- A sample arrival at a context (R12): discarded in OFF; otherwise staged values are adopted, the position sensed, and
the state's step taken. The test is of the state in which the arrival is taken, as R12 words it, so that the arrival of a strip
turned OFF and ON again within one round already latched is taken, where R5 and R53 put its first conversion in the next round
and R52 has the old round's arrival discarded (DESIGN CHOICE, log 40). -/
def Ctx.arrive (classes : Vector ServoClass 4) (scanPeriod : Nat) (r : Nat) (c : Ctx) : Ctx :=
  if c.strip.state = .off then c
  else (((c.adopt classes).update (·.sense r)).act scanPeriod r)

/-- A strip takes a grant event (R31): in WAITING its motion starts by purpose; in any other state the grant goes back. -/
def Ctx.granted (c : Ctx) : Ctx :=
  match c.strip.state with
  | .waiting purpose =>
    let d := c.update fun x =>
      { x.clearSettle with grantHeld := true, stallCount := 0, profile := { x.profile with set := false } }
    match purpose with
    | .move => d.update fun x => { x with state := .moving }
    | .calibrate => d.update fun x =>
        { x with
          state := .calibrating
          calRun := x.calRun.map fun run => { run with phase := .down, anchor := none, steady := 0, count := 0 } }
    | .follow => d.update fun x => { x with state := .following }
    | .stream => d.update fun x => { x with state := .moving }
  | _ => c.emit .giveBack

/-- The members of a gang with a role, in ascending strip number. -/
def State.membersWithRole (s : State) (g : GangId) (role : Role) : List StripId :=
  (s.gang g).members.filter fun j => (s.strip j).role = role

/-- Events delivered to several strips, in order. -/
def State.deliverAll (s : State) (js : List StripId) (e : StripId → Instr) : State :=
  { s with inFlight := s.inFlight ++ js.map e }

/-- The leader's arrival at the Gang Table: p_L takes its p, and a follow update goes to each follower (R92). -/
def State.leaderMoved (s : State) (i : StripId) : State :=
  let x := s.strip i
  match x.role, x.gang with
  | .leader, some g =>
    match (s.gang g).activity with
    | some a =>
      (s.setGang g { s.gang g with activity := some { a with pL := x.p } }).deliverAll
        (s.membersWithRole g .follower) (fun j => .followUpdate j x.p)
    | none => s
  | _, _ => s

/-- SAMPLE_ARRIVAL (R12). -/
def State.sampleArrival (s : State) (i : StripId) (code : Code) : State :=
  if (s.strip i).state = .off then s
  else (s.runStrip i (Ctx.arrive s.servoLoaded s.scanner.period code.toNat)).leaderMoved i

/-- SAMPLE_ARRIVAL, a sample arrival taken at a strip's context (R12). -/
def execSampleArrival (i : StripId) (code : Code) (s : State) : Host.Outcome State Fault Refusal :=
  .next ((s.take (.sampleArrival i code)).sampleArrival i code)

end Sys2Proof.Machine
end

