-- ==== Sys2Proof/Machine/Image.lean ====
section
/-!
DEFINITION. The Image Port (section 10.2): posted writes, their order, and reads behind them; and the Report
Writer (sections 11.1 and 11.2), whose words wait for places in the posted-write queue.
-/
namespace Sys2Proof.Machine

/-! ### Words of a report (sections 10.5 and 11.1) -/

/-- The budget that holds now: G in force when the supply is OK, the low budget when it is LOW (section 5.1). -/
def Arbiter.currentBudget (a : Arbiter) : Nat := if a.supply = .ok then a.full else a.low

/-- Two 16-bit values in one word, the first named in bits 15..0. -/
def twoHalves (a b : Nat) : Word := BitVec.ofNat 32 (bitsAt a 16 0 + bitsAt b 16 16)

/-- The report's number of a strip state (section 10.5). -/
def StripState.code : StripState → Nat
  | .off => 0 | .uncal => 1 | .calibrating => 2 | .idle => 3 | .waiting _ => 4 | .moving => 5 | .settling => 6
  | .following => 7 | .touched => 8 | .stalled => 9

/-- The report's number of a waiting purpose, 0 outside WAITING (R198). -/
def StripState.purposeCode : StripState → Nat
  | .waiting .move => 0 | .waiting .calibrate => 1 | .waiting .follow => 2 | .waiting .stream => 3
  | _ => 0

/-- The report's number of a gang role. -/
def Role.code : Role → Nat
  | .outside => 0 | .leader => 1 | .follower => 2 | .trimming => 3

/-- The bit of an origin: 0 CELL, 1 SCENE. -/
def Origin.code : Origin → Nat
  | .cell => 0 | .scene => 1

/-- The report's gang id: 15 for none. -/
def gangCode : Option GangId → Nat
  | none => 15
  | some g => g.val

/-- The part record (R197). -/
def State.partRecord (s : State) : List Word :=
  [BitVec.ofNat 32 (bitsAt (boolBit (s.arbiter.supply == .low)) 1 0 + bitsAt s.arbiter.currentBudget 6 8 +
     bitsAt s.arbiter.grantSet.length 6 16),
   twoHalves s.scanner.missed.toNat s.scanner.refFailures.toNat,
   twoHalves s.sweep.late.toNat s.motors.expiries.toNat,
   twoHalves s.writer.lostCount.toNat 0]

/-- A strip record (R198). -/
def Strip.record (x : Strip) : List Word :=
  let e := x.current
  [BitVec.ofNat 32
     (bitsAt x.state.code 4 0 + bitsAt x.state.purposeCode 3 4 + bitsAt x.queue.length 4 8 +
      bitsAt (boolBit x.touch) 1 12 + bitsAt (boolBit x.grantHeld) 1 13 +
      bitsAt (boolBit x.streamTarget.isSome) 1 14 + bitsAt (boolBit x.relatch) 1 15 +
      bitsAt (gangCode x.gang) 4 16 + bitsAt x.role.code 2 20 + bitsAt (boolBit e.isSome) 1 22 +
      bitsAt (e.elim 0 (·.origin.code)) 1 23 + bitsAt (boolBit (x.settings.source == .link)) 1 24 +
      bitsAt (boolBit x.cal.valid) 1 25),
   twoHalves x.pRep (e.elim 0 (·.target)),
   twoHalves (e.elim 0 (·.tag.toNat)) x.touches.toNat,
   twoHalves x.arrived.toNat x.cut.toNat,
   twoHalves x.flushed.toNat x.stalls.toNat]

/-- A channel record (R199). -/
def Channel.record (c : Channel) : List Word :=
  [BitVec.ofNat 32 (bitsAt (c.m / 64) 9 0 + bitsAt c.hv 9 16),
   BitVec.ofNat 32 (bitsAt (boolBit c.isOver) 1 0 + bitsAt (boolBit c.nofeed) 1 1 + bitsAt c.profile.val 2 4)]

/-- The report's number of a link state. -/
def LinkState.code : LinkState → Nat
  | .off => 0 | .acquiring => 1 | .locked => 2 | .lost => 3

/-- A link record (R199). -/
def LinkRx.record (l : LinkRx) : List Word :=
  [BitVec.ofNat 32 (bitsAt l.state.code 2 0 + bitsAt l.frames.toNat 16 16),
   twoHalves l.short.toNat l.excess.toNat,
   twoHalves l.overruns.toNat l.losses.toNat]

/-- Record `k` of a report, in the order part, S0..S31, M0..M63, L0, L1: its first word in the bank, and its words as
the owner stands (R201, section 10.5). -/
def State.reportRecord (s : State) (k : Nat) : Nat × List Word :=
  if k = 0 then (0, s.partRecord)
  else if h : k - 1 < 32 then (4 + 5 * (k - 1), (s.strip ⟨k - 1, h⟩).record)
  else if h : k - 33 < 64 then (164 + 2 * (k - 33), (s.meters.chans[k - 33]).record)
  else if h : k - 97 < 2 then (292 + 3 * (k - 97), (s.links[k - 97]).record)
  else (298, [])

/-- The offset of a report bank. -/
def Bank.offset : Bank → Nat
  | .a => Config.reportBankA
  | .b => Config.reportBankB

/-- The code of a bank in header word 9. -/
def Bank.code : Bank → Nat
  | .a => 0
  | .b => 1

/-- The bank the selector does not name (R201). -/
def Bank.other : Bank → Bank
  | .a => .b
  | .b => .a

/-- Words laid one after another from an offset, as posted writes. -/
def layWords (offset : Nat) : List Word → List PostedWrite
  | [] => []
  | w :: ws => { offset := offset, data := w, note := .plain } :: layWords (offset + 4) ws

/-! ### Posted writes (R189) -/

/-- What a posted write reaching memory means: a returned cell is a CELL event (R193), a report's word 9 ends the
report and sets REPORT (R201). -/
def State.reached (s : State) : WriteNote → State
  | .plain => s
  | .cellOwner => { s with attention := s.attention.event .cell }
  | .reportEnd => { s with reporter := { s.reporter with run := none }, attention := s.attention.set .report }

/-- The oldest posted write issued to memory, and what that means (R189). Its address takes the image base in force at the issue:
a write handed before a START, and still queued when that START copies another IBASE, goes to the new base, which R178 and
R189 leave open (DESIGN CHOICE, log 41). -/
def State.issueOldest (s : State) : State :=
  match s.posted with
  | [] => s
  | w :: rest =>
    ({ s with posted := rest, memory := s.memory.writeWord (s.address w.offset) w.data } : State).reached w.note

/-! ### The Report Writer (R201) -/

/-- A report begun into the bank the selector does not name; its records are taken as it comes to them. -/
def State.beginReport (s : State) : State :=
  { s with reporter := { s.reporter with run := some { bank := s.reporter.bank.other, next := 0, words := [] } } }

/-- The header words that end a report: the count counted up to word 10, the part time to word 11, and the target
bank, last, to word 9 (R201, step 3). -/
def State.reportTail (s : State) (bank : Bank) : List PostedWrite :=
  [{ offset := 40, data := s.reporter.count + 1, note := .plain },
   { offset := 44, data := s.part.time, note := .plain },
   { offset := 36, data := BitVec.ofNat 32 bank.code, note := .reportEnd }]

/-- One action of the Report Writer: it hands the next word of the record in hand, or begins the next record, taking its
values now, or begins the header words; the selector names the target bank once word 9 is handed (R201). Where the last link word
fills the posted-write queue, the count and the part time of R201's step 3 are those of the moment when a place is next free, which
another command can come before (DESIGN CHOICE, log 12). -/
def State.reportAction (s : State) : State :=
  match s.reporter.run with
  | none => s
  | some run =>
    match run.words with
    | w :: rest =>
      { s with
        posted := s.posted ++ [w]
        reporter := { s.reporter with
          run := some { run with words := rest }
          bank := if w.note = .reportEnd then run.bank else s.reporter.bank } }
    | [] =>
      if run.next < 99 then
        let r := s.reportRecord run.next
        { s with reporter := { s.reporter with
            run := some { run with next := run.next + 1, words := layWords (run.bank.offset + 4 * r.1) r.2 } } }
      else if run.next = 99 then
        { s with reporter := { s.reporter with
            count := s.reporter.count + 1
            run := some { run with next := 100, words := s.reportTail run.bank } } }
      else s

/-- A place made in the posted-write queue: with 8 words queued a handing waits until the oldest write has been issued
(R189). -/
def State.makePlace (s : State) : State := if Config.postedQueueSize ≤ s.posted.length then s.issueOldest else s

/-- `n` words of the record in hand handed by the Report Writer, each as a place becomes free. -/
def State.finishFor : Nat → State → State
  | 0, s => s
  | n + 1, s => State.finishFor n s.makePlace.reportAction

/-- The words of the record the Report Writer has in hand. -/
def State.wordsInHand (s : State) : Nat := s.reporter.run.elim 0 (·.words.length)

/-- The Report Writer's request finished: the words of one request are served before the next is taken (R189), so the words
of a record begun are in the queue before another block's word. -/
def State.finishRequest (s : State) : State := State.finishFor s.wordsInHand s

/-- A write handed to the posted-write queue, behind the request being served; with 8 words queued the handing waits until
the oldest write has been issued (R189). -/
def State.post (s : State) (w : PostedWrite) : State :=
  let t := s.finishRequest.makePlace
  { t with posted := t.posted ++ [w] }

/-- Writes handed one after another. -/
def State.postAll (s : State) (ws : List PostedWrite) : State := ws.foldl State.post s

/-- The Report Writer going on while the posted-write queue has a place; `n` bounds its actions. -/
def State.pumpFor : Nat → State → State
  | 0, s => s
  | n + 1, s => if s.posted.length < Config.postedQueueSize then State.pumpFor n s.reportAction else s

/-- The Report Writer handing what the posted-write queue has places for: at most 8 words, of records of two words or
more (R189, R201). -/
def State.pump (s : State) : State := State.pumpFor 24 s

/-- Every posted write issued; a read requested now waits for them all (R189). -/
def State.issueAll (s : State) : State := s.posted.foldl (fun t _ => t.issueOldest) s

/-- What comes before a read: the request being served finished and the writes ahead of it issued, the host's own writes in
memory; the Report Writer goes on behind it. -/
def State.beforeRead (s : State) (host : List HostWrite) : State :=
  (s.finishRequest.issueAll.pump).hostWrote host

end Sys2Proof.Machine
end

