-- ==== Sys2Proof/Machine/Activity.lean ====
section
/-!
DEFINITION. The Activity Writer (chapter 6): the words of a record, its placement in a page, GAP records, the closing
and handing over of pages, and the owner read. The meanings that the STOP sequence watches stand in Journal.lean.
-/
namespace Sys2Proof.Machine

/-! ### Words of a record (section 10.5) -/

/-- The sub-field of a finish kind. -/
def FinishKind.code : FinishKind → Nat
  | .arrived => 1 | .flushed => 2 | .cut => 3 | .ganged => 4 | .stalled => 5 | .failed => 6

/-- The sub-field of a fault kind. -/
def FaultKind.code : FaultKind → Nat
  | .stall => 1 | .calTimeout => 2 | .calSpan => 3

/-- The sub-field of a gang event. -/
def GangEvent.code : GangEvent → Nat
  | .start => 1 | .leader => 2 | .ended => 3

/-- Word 0 of a record: kind, strip or gang id, sub-field, origin and time offset. -/
def recordHead (kind id sub origin offset : Nat) : Word :=
  BitVec.ofNat 32 (bitsAt kind 4 0 + bitsAt id 5 4 + bitsAt sub 4 9 + bitsAt origin 1 13 + bitsAt offset 16 16)

/-- Positions two to a word, oldest first; the last high half is 0 for an odd count. -/
def positionWords : List Nat → List Word
  | [] => []
  | [a] => [BitVec.ofNat 32 (bitsAt a 12 0)]
  | a :: b :: rest => BitVec.ofNat 32 (bitsAt a 12 0 + bitsAt b 12 16) :: positionWords rest

/-- The words of a record with its time offset (R119, section 10.5). -/
def Rec.words (offset : Nat) : Rec → List Word
  | .touch i p => [recordHead 1 i.val 0 0 offset, BitVec.ofNat 32 (bitsAt p 12 0)]
  | .release i p => [recordHead 2 i.val 0 0 offset, BitVec.ofNat 32 (bitsAt p 12 0)]
  | .trail i ps => recordHead 3 i.val ps.length 0 offset :: positionWords ps
  | .finish i k tag o p =>
    [recordHead 4 i.val k.code o.code offset, BitVec.ofNat 32 (bitsAt tag.toNat 16 0 + bitsAt p 12 16)]
  | .fault i k => [recordHead 5 i.val k.code 0 offset, 0]
  | .gang g i e => [recordHead 6 g.val e.code 0 offset, BitVec.ofNat 32 (bitsAt i.val 5 0)]

/-- The words of a GAP record (R125, section 10.5). -/
def gapWords (lost offset : Nat) : List Word := [recordHead 7 0 0 0 offset, BitVec.ofNat 32 (bitsAt lost 16 0)]

/-- A record's length in words (R119). -/
def Rec.length : Rec → Nat
  | .trail _ ps => 1 + (ps.length + 1) / 2
  | _ => 2

/-! ### Placement (R124, R125) -/

/-- What a placement puts next: a GAP record, or the record at the head of the queue. -/
inductive Due
  | gap (time : Word)
  | head (q : QueuedRec) (rest : List QueuedRec)
  deriving DecidableEq, Repr

/-- The placement due in FILLING: a GAP record first when records were lost, stamped with the time of the queue's head,
or with the part time when the queue is empty (R124, R125). -/
def Writer.due (w : Writer) (now : Word) : Option Due :=
  match w.queue with
  | [] => if w.lost = 0 then none else some (.gap now)
  | q :: rest => if w.lost = 0 then some (.head q rest) else some (.gap q.time)

/-- The event time of a placement. -/
def Due.time : Due → Word
  | .gap t => t
  | .head q _ => q.time

/-- The length of a placement. -/
def Due.length : Due → Nat
  | .gap _ => 2
  | .head q _ => q.record.length

/-- The time offset a placement would have: its event time less the base time, modulo 2^32; 0 in a page with no record
(R124). -/
def Writer.offset (w : Writer) (t : Word) : Nat :=
  match w.base with
  | none => 0
  | some b => (t - b).toNat

/-- Whether a placement passes the time check and the fit check (R124). -/
def Writer.fits (w : Writer) (d : Due) : Bool :=
  w.offset d.time ≤ 65535 && w.used + d.length ≤ w.pageSize

/-- The words of a placement. -/
def Due.words (lost offset : Nat) : Due → List Word
  | .gap _ => gapWords lost offset
  | .head q _ => q.record.words offset

/-- The writer after a placement: used words, the base time and hold timer of a first record (R127), and the queue or the
lost count (R124, R125). -/
def Writer.placed (w : Writer) (d : Due) : Writer :=
  let first := w.base = none
  let v : Writer :=
    { w with
      used := w.used + d.length
      base := if first then some d.time else w.base
      holdTime := if first then w.holdStaged else w.holdTime
      hold := if first then some w.holdStaged else w.hold }
  match d with
  | .gap _ => { v with lost := 0, gap := true }
  | .head _ rest => { v with queue := rest }

/-- A record whose handing was held joins the queue when a place is free (R121). -/
def Writer.releaseHeld (w : Writer) : Writer :=
  match w.held with
  | [] => w
  | q :: rest =>
    if w.queue.length < Config.activityQueueSize then { w with queue := w.queue ++ [q], held := rest } else w

/-- A placement made: its words handed to the posted-write queue at the next free words of the page (R124). -/
def State.place (s : State) (d : Due) : State :=
  let w := s.writer
  let words := layWords (w.pageOffset w.used) (d.words w.lost (w.offset d.time))
  ({ s with writer := (w.placed d).releaseHeld } : State).postAll words

/-! ### Closing a page (R126) -/

/-- The three header words written at a close: base time, gap flag, and last the owner CP with the used words. -/
def Writer.headerWords (w : Writer) : List PostedWrite :=
  [{ offset := w.pageOffset 1, data := w.base.getD 0, note := .plain },
   { offset := w.pageOffset 2, data := BitVec.ofNat 32 (boolBit w.gap), note := .plain },
   { offset := w.pageOffset 0, data := BitVec.ofNat 32 (bitsAt w.used 16 16), note := .plain }]

/-- The writer after a close: hold timer stopped, the next page index, SEEKING (R126). -/
def Writer.closed (w : Writer) : Writer :=
  { w with hold := none, state := .seeking, page := if w.page + 1 < w.pages then w.page + 1 else 0 }

/-- The page closed and handed over, without the read of the next page's owner (R126, steps 1 to 4). -/
def State.handPage (s : State) : State :=
  let t := ({ s with writer := { s.writer with hold := none } } : State).postAll s.writer.headerWords
  { t with attention := t.attention.event .activity, writer := t.writer.closed }

/-- The page closed (R126); the writer reads the owner of the new page at once. -/
def State.closePage (s : State) : State := s.handPage.deliver (.pageOwnerRead [])

/-- One RECORD_PLACEMENT (R124): a placement due that passes its checks is made; one that does not closes the page. -/
def State.placeRecord (s : State) : State :=
  if s.writer.state = .filling then
    match s.writer.due s.part.time with
    | none => s
    | some d => if s.writer.fits d then s.place d else s.closePage
  else s

/-! ### The owner read (R123, R131) -/

/-- Every record still queued or held dropped and counted as lost, and the writer SEEKING for the rest of STOPPING (R131). -/
def Writer.dropAll (w : Writer) : Writer :=
  let v := (w.queue ++ w.held).foldl (fun v _ => v.drop) w
  { v with queue := [], held := [], deadSeek := true }

/-- The result of an owner read taken (R123); in STOPPING an owner that is not FZ ends the seeking, with every record queued or held
dropped (R121, R131). The SEEKING that a close enters until its own owner read is not taken as the fall into SEEKING that drops a
held handing (DESIGN CHOICE, log 38). -/
def State.takeOwner (s : State) : State :=
  if isFZ s.pageOwner then { s with writer := s.writer.obtain }
  else if s.part.state = .stopping then { s with writer := s.writer.dropAll }
  else s

/-- PAGE_OWNER_READ taken in SEEKING; in another writer state there is no seeking read (R123). -/
def State.ownerRead (s : State) (host : List HostWrite) : State :=
  if s.writer.state = .seeking ∧ s.writer.deadSeek = false then (s.beforeRead host).takeOwner
  else s.hostWrote host

/-- The retry timer runs while the writer is SEEKING and the queue holds a record, but not in STOPPING (R123). -/
def State.retryRunning (s : State) : Bool :=
  s.writer.state == .seeking && !s.writer.queue.isEmpty && s.part.state != .stopping

end Sys2Proof.Machine
end

