-- ==== Sys2Proof/Machine/Hand.lean ====
section
/-!
DEFINITION. The hand on the fader (chapter 4): touch-on, touch-off and release, and the Gang Table with its activity;
the meanings of TOUCH_ON, TOUCH_OFF, GANG_JOIN, FOLLOW_UPDATE, RE_OFFSET, GANG_END and GANG_SET.
-/
namespace Sys2Proof.Machine

/-! ### Gang activity at one context -/

/-- A virtual position clamped to the travel, as a follower target (R91, R92). -/
def followTargetOf (v : Int) : Nat := (clampInt 0 4095 v).toNat

/-- The five states that take no part in gang activity (R90). -/
def StripState.excluded : StripState → Bool
  | .off | .uncal | .stalled | .calibrating | .waiting .calibrate => true
  | _ => false

/-- Entering gang activity: the current entry finishes GANGED, its restart mark and any chain start removed, and the
queue is frozen (R91 steps 2 and 3, R93). -/
def Ctx.enterActivity (c : Ctx) : Ctx :=
  (c.finishCurrent .ganged).update fun x => { x with restart := false, chainStart := none, freeze := true }

/-- The state change of a join (R91). A strip already FOLLOWING or waiting to follow keeps its state (log 9). -/
def Ctx.joinState (c : Ctx) : Ctx :=
  match c.strip.state with
  | .idle | .waiting .move | .waiting .stream => c.await .follow c.strip.settings.priority
  | .moving =>
    c.update fun x => { x with state := .following, stallCount := 0, profile := { x.profile with set := false } }
  | .settling =>
    c.update fun x =>
      { x.clearSettle with state := .following, stallCount := 0, profile := { x.profile with set := false } }
  | _ => c

/-- A join taken whole, with the leader position that holds for it (R91). -/
def Ctx.join (pL : Nat) (c : Ctx) : Ctx :=
  let d := (c.update fun x => { x with offset := x.v - pL }).enterActivity
  (d.update fun x => { x with followTarget := some (followTargetOf x.v) }).joinState.update fun x =>
    { x with role := if x.touch then .trimming else .follower }

/-- A follow update at a follower (R92). -/
def Strip.followed (x : Strip) (pL : Nat) : Strip :=
  let v := clampInt Config.virtualLow Config.virtualHigh ((pL : Int) + x.offset)
  { x with v := v, followTarget := some (followTargetOf v) }

/-- An end event at a follower (R96). In a state for which R96 has no row (a former member that GANG_SET has removed can be TOUCHED
by then) the follower leaves the activity too and keeps its state (DESIGN CHOICE, log 37); one that is IDLE by then may start its
first queued entry at this event (R59). -/
def Ctx.activityEnded (c : Ctx) : Ctx :=
  let left := fun (x : Strip) => { x with role := .outside, followTarget := none, freeze := false }
  match c.strip.state with
  | .following =>
    c.update fun x =>
      { (left x).clearSettle with
        state := .settling, profile := { x.profile with guide := x.followTarget.getD x.profile.guide } }
  | .waiting .follow => ((c.emit .withdraw).update fun x => { left x with state := .idle }).startRule
  | _ => (c.update left).startRule

/-- A touch-on that makes a strip trimming (R93). -/
def Ctx.beginTrimming (c : Ctx) : Ctx :=
  let d := if c.strip.role = .outside ∧ c.strip.freeze = false then c.enterActivity else c
  d.update fun x => { x with role := .trimming, followTarget := none }

/-- The end of trimming (R94): the member rejoins as a follower where the hand left it. -/
def Ctx.rejoin (pL : Nat) (c : Ctx) : Ctx :=
  let d := c.writeTrail.update fun x => { x with touch := false, trailStep := 0, v := x.p }
  let e := (d.emit (.record (.release c.id d.strip.p))).update fun x =>
    { x with
      queue := x.queue.map fun q => { q with touchTime := false }
      offset := x.v - pL
      followTarget := some (followTargetOf x.v)
      role := .follower }
  e.await .follow e.strip.settings.priority

/-! ### Touch-on at the context -/

/-- What is done in every row of R78 that leads to TOUCHED. -/
def Strip.beTouched (x : Strip) : Strip :=
  { x.clearSettle with
    state := .touched, profile := { x.profile with set := false }, trail := [], trailStep := 0 }

/-- A grant returned by a strip whose drive has been written to 0 (R32, R78). -/
def Ctx.returnGrant (c : Ctx) : Ctx := (c.emit .giveBack).update fun x => { x with grantHeld := false }

/-- A calibration run ended before its time (R50): its FINISH record of a kind; `spoil` clears the valid flag. -/
def Ctx.endRun (c : Ctx) (k : FinishKind) (spoil : Bool) : Ctx :=
  match c.strip.calRun with
  | none => c
  | some run =>
    (c.finish k run.tag .cell).update fun x =>
      { x with calRun := none, cal := { x.cal with valid := x.cal.valid && !spoil } }

/-- A calibration aborted by the hand (R50): CUT, the valid flag cleared, UNCAL. -/
def Ctx.abortCalibration (c : Ctx) : Ctx :=
  (c.letGo.endRun .cut true).update fun x => { x with state := .uncal }

/-- The state change of a touch-on (R78). A strip that is TOUCHED already keeps its state (DESIGN CHOICE, log 9). In the rows that do
not lead to TOUCHED (UNCAL, STALLED, and the calibration the touch-on aborts) a strip keeps the positions that a CALIBRATE abort
left in its trail buffer, where R80 and R78 differ (DESIGN CHOICE, log 32). -/
def Ctx.touchState (c : Ctx) : Ctx :=
  match c.strip.state with
  | .idle => c.update Strip.beTouched
  | .waiting .calibrate | .calibrating => c.abortCalibration
  | .waiting _ => (c.emit .withdraw).update Strip.beTouched
  | .moving => c.returnGrant.update fun x => { x.beTouched with chainStart := none }
  | .settling | .following => c.returnGrant.update Strip.beTouched
  | .off | .uncal | .stalled | .touched => c

/-- A touch-on at a context, steps 1 to 4 of R77. -/
def Ctx.touchOn (c : Ctx) : Ctx :=
  ((((c.emit (.record (.touch c.id c.strip.p))).update fun x =>
    { x with touches := x.touches + 1, touch := true }).emit (.drive 0))).touchState

/-! ### Release at the context -/

/-- Steps 1 to 3 of a release (R82). -/
def Ctx.releaseHead (c : Ctx) : Ctx :=
  let d := c.writeTrail.update fun x => { x with touch := false, trailStep := 0, v := x.p }
  d.emit (.record (.release c.id d.strip.p))

/-- Every touch-time flag of the strip's entries cleared (R82, step 5). -/
def Strip.clearTouchTime (x : Strip) : Strip :=
  { x with
    queue := x.queue.map fun q => { q with touchTime := false }
    current := x.current.map fun q => { q with touchTime := false } }

/-- The relatch flag set, with the stream target held as reference, on a strip in source LINK that holds one (R71). -/
def Strip.setRelatch (x : Strip) : Strip :=
  match x.streamTarget with
  | some t => if x.settings.source = .link then { x with relatch := true, relatchRef := t } else x
  | none => x

/-- Release mode STAY (R83). -/
def Ctx.releaseStay (c : Ctx) : Ctx :=
  let d := (c.finishCurrent .cut).update fun x => { x with restart := false }
  let out := d.strip.queue.filter fun q => !q.touchTime
  (out.foldl (fun c q => c.finish .flushed q.tag q.origin) d).update fun x =>
    ({ x with queue := x.queue.filter (·.touchTime), state := .idle } : Strip).setRelatch

/-- Release mode RETURN (R84). -/
def Ctx.releaseReturn (c : Ctx) : Ctx :=
  match c.strip.current with
  | some e =>
    (c.update fun x =>
      { x with restart := true, chainStart := none, profile := { x.profile with set := false } }).await .move e.priority
  | none => c.update fun x => { x with state := .idle }

/-- A release whole (R82, steps 1 to 5, and the start check that follows step 5). -/
def Ctx.release (c : Ctx) : Ctx :=
  let d := c.releaseHead
  let e := match d.strip.settings.release with
    | .stay => d.releaseStay
    | .return => d.releaseReturn
  (e.update Strip.clearTouchTime).startRule

/-- The old leader at a handover (R82 steps 1 to 3 and 5, and R95 item 4 from the GANGED finish on): it becomes a
follower of the new leader's position. -/
def Ctx.followNewLeader (pL : Nat) (c : Ctx) : Ctx :=
  let d := (c.enterActivity.update Strip.clearTouchTime).update fun x =>
    { x with role := .follower, offset := x.v - pL, followTarget := some (followTargetOf x.v) }
  d.await .follow d.strip.settings.priority

/-! ### The Gang Table -/

/-- Gang activity starts at a touch-on of a member of a gang without activity (R90). -/
def State.startActivity (s : State) (g : GangId) (i : StripId) : State :=
  let p := (s.strip i).p
  let gang := s.gang g
  let t := s.setGang g
    { gang with activity := some { leader := i, pL := p, handovers := 0 }, serial := gang.serial + 1 }
  let u := (t.setStrip i { t.strip i with role := .leader, v := p, freeze := false, followTarget := none }).handRecord
    (.gang g i .start)
  u.deliverAll (gang.members.filter fun j => j ≠ i ∧ (u.strip j).state.excluded = false)
    (fun j => .gangJoin j { gang := g, serial := gang.serial + 1, handovers := 0, pL := p })

/-- Leadership passes to a trimming member (R95, items 1, 2, 3, 5 and 6); item 4 stands between items 3 and 5, and
`oldLeader` is what it does to the old leader. -/
def State.handOver (s : State) (g : GangId) (a : Activity) (old new : StripId) (oldLeader : Nat → Ctx → Ctx) : State :=
  let p := (s.strip new).p
  let t := (s.setGang g
    { s.gang g with activity := some { leader := new, pL := p, handovers := a.handovers + 1 } }).handRecord
      (.gang g new .leader)
  let u := t.setStrip new { t.strip new with role := .leader, v := p, freeze := false }
  let w := u.runStrip old (oldLeader p)
  w.deliverAll ((w.membersWithRole g .follower).filter (· ≠ old)) (fun j => .reOffset j p)

/-- The activity ends with the leader's departure (R96): the leader's own role becomes none, and an end event goes to
each follower. -/
def State.endActivity (s : State) (g : GangId) (i : StripId) : State :=
  let t := (s.setGang g { s.gang g with activity := none }).handRecord (.gang g i .ended)
  let u := t.setStrip i { t.strip i with role := .outside }
  u.deliverAll (u.membersWithRole g .follower) .gangEnd

/-- A leader's departure by STRIP_OFF or CALIBRATE (R97): passed on to the lowest trimming member, or the activity ends;
the departing strip takes role none. A strip that leads nothing departs from nothing. -/
def State.leaderDeparts (s : State) (i : StripId) : State :=
  let x := s.strip i
  match x.role, x.gang with
  | .leader, some g =>
    match (s.gang g).activity with
    | some a =>
      match s.membersWithRole g .trimming with
      | new :: _ => s.handOver g a i new (fun _ c => c.update fun x => { x with role := .outside })
      | [] => s.endActivity g i
    | none => s
  | _, _ => s

/-! ### Touch events -/

/-- What a member now TOUCHED does in its gang (R77 step 5, R90, R93). -/
def State.touchGang (s : State) (i : StripId) : State :=
  match (s.strip i).gang with
  | none => s
  | some g =>
    match (s.gang g).activity with
    | none => s.startActivity g i
    | some a => if a.leader = i then s else s.runStrip i Ctx.beginTrimming

/-- TOUCH_ON (R77). -/
def State.touchOn (s : State) (i : StripId) : State :=
  if (s.strip i).state = .off then s
  else
    let t := s.runStrip i Ctx.touchOn
    if (t.strip i).state = .touched then t.touchGang i else t

/-- The release of a strip that is no trimming member (R82 with its step 6): a leader with a trimming member passes
leadership on (R95), one without ends the activity (R96). -/
def State.release (s : State) (i : StripId) : State :=
  let x := s.strip i
  match x.role, x.gang with
  | .leader, some g =>
    match (s.gang g).activity with
    | some a =>
      match s.membersWithRole g .trimming with
      | new :: _ => (s.runStrip i Ctx.releaseHead).handOver g a i new Ctx.followNewLeader
      | [] => (s.runStrip i Ctx.release).endActivity g i
    | none => s.runStrip i Ctx.release
  | _, _ => s.runStrip i Ctx.release

/-- The leader position a trimming member rejoins at (R94); without activity, which no run reaches, its own position. -/
def State.rejoinPosition (s : State) (i : StripId) : Nat :=
  match (s.strip i).gang with
  | some g => ((s.gang g).activity.map (·.pL)).getD (s.strip i).p
  | none => (s.strip i).p

/-- TOUCH_OFF (R81). -/
def State.touchOff (s : State) (i : StripId) : State :=
  let x := s.strip i
  if x.touch = false then s
  else
    match x.state with
    | .uncal | .stalled => s.setStrip i { x with touch := false }
    | .touched => if x.role = .trimming then s.runStrip i (Ctx.rejoin (s.rejoinPosition i)) else s.release i
    | _ => s

/-- GANG_JOIN (R91): no effect when the activity that sent it has ended, at a trimming member or leader, and in an
excluded state. -/
def State.gangJoin (s : State) (i : StripId) (j : JoinArgs) : State :=
  let x := s.strip i
  match (s.gang j.gang).activity with
  | none => s
  | some a =>
    if (s.gang j.gang).serial ≠ j.serial ∨ x.role = .trimming ∨ x.role = .leader ∨ x.state.excluded then s
    else s.runStrip i (Ctx.join (if a.handovers = j.handovers then j.pL else a.pL))

/-- FOLLOW_UPDATE (R92): a member whose role is not follower takes none. -/
def State.followUpdate (s : State) (i : StripId) (pL : Nat) : State :=
  if (s.strip i).role = .follower then s.setStrip i ((s.strip i).followed pL) else s

/-- RE_OFFSET (R95, item 5). One that reaches a strip which is no follower when it is taken, which R95 does not name, has no
effect (DESIGN CHOICE, log 39). -/
def State.reOffset (s : State) (i : StripId) (pL : Nat) : State :=
  if (s.strip i).role = .follower then s.setStrip i { s.strip i with offset := (s.strip i).v - pL } else s

/-- GANG_END (R96). An end event that reaches a strip which is no follower when it is taken (touched meanwhile, and now leading or
trimming, or gone by a STOP), which R96 does not name, has no effect (DESIGN CHOICE, log 39). -/
def State.gangEnd (s : State) (i : StripId) : State :=
  if (s.strip i).role = .follower then s.runStrip i Ctx.activityEnded else s

/-! ### GANG_SET (R88, R89) -/

/-- An outcome and a refused-set word answered to the Cell Sweep. -/
def State.answer (s : State) (o : Outcome) (refused : Word) : State :=
  { s with sweep := { s.sweep with outcome := some o, refused := refused } }

/-- The strips named more than once in a list. -/
def repeated (l : List StripId) : List StripId := allStrips.filter fun i => 2 ≤ l.count i

/-- A strip's gang id after its gang's member list was replaced (R89). -/
def newGangId (g : GangId) (l : List StripId) (i : StripId) (old : Option GangId) : Option GangId :=
  if i ∈ l then some g else if old = some g then none else old

/-- The member list of a gang replaced, in ascending strip order (R89). -/
def State.setMembers (s : State) (g : GangId) (l : List StripId) : State :=
  let t := s.setGang g { s.gang g with members := allStrips.filter (· ∈ l) }
  { t with strips := Vector.ofFn fun i => { s.strip i with gang := newGangId g l i (s.strip i).gang } }

/-- GANG_SET, checked in the order of R88 and carried out by R89. -/
def State.gangSet (s : State) (g : GangId) (count : Word) (entries : List Word) : State :=
  let l := (entries.take (entryCount count)).map entryStrip
  let foreign := allStrips.filter fun i => i ∈ l ∧ (s.strip i).gang ≠ none ∧ (s.strip i).gang ≠ some g
  if entryCount count = 1 then s.answer .badList 0
  else if repeated l ≠ [] then s.answer .badList (stripBits (repeated l))
  else if (s.gang g).activity ≠ none then s.answer .gangBusy 0
  else if foreign ≠ [] then s.answer .inGang (stripBits foreign)
  else (s.setMembers g l).answer (if countTaken count then .clamped else .done) 0

/-! ### The meanings -/

/-- TOUCH_ON, a touch-on event taken at a strip (R77). -/
def execTouchOn (i : StripId) (s : State) : Host.Outcome State Fault Refusal :=
  .next ((s.take (.touchOn i)).touchOn i)

/-- TOUCH_OFF, a touch-off event taken at a strip (R81). -/
def execTouchOff (i : StripId) (s : State) : Host.Outcome State Fault Refusal :=
  .next ((s.take (.touchOff i)).touchOff i)

/-- GANG_JOIN, a join event taken at a member (R91). -/
def execGangJoin (i : StripId) (j : JoinArgs) (s : State) : Host.Outcome State Fault Refusal :=
  .next ((s.take (.gangJoin i j)).gangJoin i j)

/-- FOLLOW_UPDATE, a follow update taken at a follower (R92). -/
def execFollowUpdate (i : StripId) (pL : Nat) (s : State) : Host.Outcome State Fault Refusal :=
  .next ((s.take (.followUpdate i pL)).followUpdate i pL)

/-- RE_OFFSET, a re-offset event taken at a follower (R95). -/
def execReOffset (i : StripId) (pL : Nat) (s : State) : Host.Outcome State Fault Refusal :=
  .next ((s.take (.reOffset i pL)).reOffset i pL)

/-- GANG_END, an end event taken at a follower (R96). -/
def execGangEnd (i : StripId) (s : State) : Host.Outcome State Fault Refusal :=
  .next ((s.take (.gangEnd i)).gangEnd i)

/-- GANG_SET, the group cell command taken at the Gang Table (R88). -/
def execGangSet (g : GangId) (count : Word) (entries : List Word) (s : State) : Host.Outcome State Fault Refusal :=
  .next (s.gangSet g count entries)

end Sys2Proof.Machine
end

