-- ==== Sys2Proof/Machine/Meters.lean ====
section
/-!
DEFINITION. Meter ballistics (chapter 8): levels of words, rise, peak hold, over, decay, the load of the METER
section, the clearing of channels; the meanings of METER_WORD, DECAY_EXPIRY and METER_RESET.
-/
namespace Sys2Proof.Machine

/-! ### The level of a word (R158, R159) -/

/-- A word read as a signed number on the 24-bit scale. -/
def wordSample (w : LinkWord) : Int :=
  match w.len with
  | .w24 => w.value.toInt
  | .w16 => (w.value.truncate 16).toInt * 256

/-- The magnitude of a word; the one value without a positive counterpart saturates. -/
def wordMagnitude (w : LinkWord) : Nat := min 8388607 (wordSample w).natAbs

/-- Whether a magnitude x stands at or above the threshold X_h = round(8388607 × 10^((h − 480) / 80)), a half up:
2x + 1 is above 2 × 8388607 × 10^((h − 480) / 80), told in whole numbers by the 80th powers (log 10). -/
def reachesLevel (x h : Nat) : Bool := (2 * 8388607) ^ 80 < (2 * x + 1) ^ 80 * 10 ^ (480 - h)

/-- The largest level from 1 to `h` whose threshold a magnitude reaches; 0 when there is none. -/
def levelUpTo (x : Nat) : Nat → Nat
  | 0 => 0
  | h + 1 => if reachesLevel x (h + 1) then h + 1 else levelUpTo x h

/-- The level of a word (R159). -/
def wordLevel (w : LinkWord) : Nat := levelUpTo (wordMagnitude w) 480

/-! ### One channel -/

/-- The displayed level, floor(m / 64) lu. -/
def Channel.level (c : Channel) : Nat := c.m / 64

/-- A channel cleared, but for NOFEED, profile and enable (R153, R156). -/
def Channel.clear (c : Channel) : Channel :=
  { c with m := 0, hv := 0, hold := .ms 0, isOver := false, overRun := 0, overTime := .stopped }

/-- A hold timer set to a profile's hold time (R163). -/
def holdFor (ms : Nat) : HoldTimer := if ms = Config.holdForever then .infinite else .ms ms

/-- An over timer set to a profile's over hold (R165). -/
def overFor (ms : Nat) : OverTimer := if ms = 0 then .indefinite else .ms ms

/-- The rise toward a level (R160). -/
def Channel.rise (c : Channel) (b : Ballistics) (h : Nat) : Channel :=
  if c.m < h * 64 then { c with m := c.m + ((h * 64 - c.m) * b.rise + 255) / 256 } else c

/-- The peak hold tested against a level (R163). -/
def Channel.peak (c : Channel) (b : Ballistics) (h : Nat) : Channel :=
  if c.hv < h then { c with hv := h, hold := holdFor b.hold } else c

/-- The over run counted against a level (R165). -/
def Channel.countOver (c : Channel) (b : Ballistics) (h : Nat) : Channel :=
  if b.overLevel ≤ h then
    let n := min Config.overRunMax (c.overRun + 1)
    if b.overCount ≤ n then { c with overRun := n, isOver := true, overTime := overFor b.overHold }
    else { c with overRun := n }
  else { c with overRun := 0 }

/-- A word of level `h` taken at an enabled channel (R157). -/
def Channel.word (c : Channel) (b : Ballistics) (h : Nat) : Channel := ((c.rise b h).peak b h).countOver b h

/-- The hold timer at a decay expiry, after the decay (R164). -/
def Channel.runHold (c : Channel) : Channel :=
  match c.hold with
  | .infinite => c
  | .ms 0 => { c with hv := c.level }
  | .ms (n + 1) => if n = 0 then { c with hold := .ms 0, hv := c.level } else { c with hold := .ms n }

/-- The over timer at a decay expiry (R166). -/
def Channel.runOver (c : Channel) : Channel :=
  match c.overTime with
  | .stopped | .indefinite => c
  | .ms n => if n ≤ 1 then { c with isOver := false, overTime := .stopped } else { c with overTime := .ms (n - 1) }

/-- A decay expiry at an enabled channel (R161, R162). -/
def Channel.decay (c : Channel) (b : Ballistics) : Channel := (({ c with m := c.m - b.decay }).runHold).runOver

/-- METER_RESET at one channel (R168). -/
def Channel.reset_ (c : Channel) : Channel :=
  { c with isOver := false, overRun := 0, overTime := .stopped, hv := c.level, hold := .ms 0 }

/-- A channel's timers held against the values of its profile at a load (R155). -/
def Channel.retime (c : Channel) (b : Ballistics) : Channel :=
  { c with
    hold := if c.hold = .infinite ∧ b.hold < Config.holdForever then .ms b.hold else c.hold
    overTime := if c.overTime = .indefinite ∧ b.overHold ≠ 0 then .ms b.overHold else c.overTime }

/-- A channel's entry adopted (R155, R156): one that loses its enable is cleared. -/
def Channel.load (c : Channel) (profile : Fin 4) (enable : Bool) (b : Ballistics) : Channel :=
  if c.enable && !enable then { c.clear with profile := profile, enable := false }
  else ({ c with profile := profile, enable := enable }).retime b

/-! ### The Meter Engine -/

/-- The profile a channel uses. -/
def Meters.profileOf (m : Meters) (c : ChanId) : Ballistics := m.profiles[m.chans[c].profile]

/-- One channel changed. -/
def State.setChan (s : State) (c : ChanId) (x : Channel) : State :=
  { s with meters := { s.meters with chans := s.meters.chans.set c x } }

/-- Whether a channel takes part in metering: enabled, and below the meter channel count (R156). -/
def State.metered (s : State) (c : ChanId) : Bool :=
  s.meters.chans[c].enable && decide (c.val < s.part.header.channels)

/-- A word event at a channel (R157); a disabled channel discards it (R156), and in HALTED and FAULTED no word reaches a
channel (R153). -/
def State.meterWord (s : State) (c : ChanId) (w : LinkWord) : State :=
  if s.part.state.metering ∧ s.metered c then s.setChan c (s.meters.chans[c].word (s.meters.profileOf c) (wordLevel w)) else s

/-- A decay expiry: every enabled channel is taken (R161); a stopped timer does not expire (log 3). -/
def State.decayExpiry (s : State) : State :=
  if s.meters.decay then
    { s with meters := { s.meters with
        chans := Vector.ofFn fun c =>
          if s.metered c then s.meters.chans[c].decay (s.meters.profileOf c) else s.meters.chans[c] } }
  else s

/-- METER_RESET at one channel it applies to: a disabled channel is left unchanged (R156, R168). -/
def State.resetChan (s : State) (c : ChanId) : State :=
  if s.metered c then s.setChan c s.meters.chans[c].reset_ else s

/-- METER_RESET (R168): count 0 applies to every enabled channel; otherwise the entries are taken in list order, and one
that names a channel at or above the meter channel count is skipped. -/
def State.meterReset (s : State) (count : Word) (entries : List Word) : State :=
  let named := (entries.take (entryCount count)).map entryChan
  let skipped := named.any fun c => decide (s.part.header.channels ≤ c.val)
  if count = 0 then ((List.finRange 64).foldl State.resetChan s).answer .done 0
  else (named.foldl State.resetChan s).answer (if countTaken count || skipped then .clamped else .done) 0

/-- Every channel cleared at START, NOFEED set (R153). -/
def Meters.clearAll (m : Meters) : Meters :=
  { m with chans := m.chans.map fun c => { c.clear with nofeed := true } }

/-- The load of the METER section, adopted at once (R155). -/
def Meters.load (m : Meters) (profiles : Vector Ballistics 4) (entry : ChanId → Fin 4 × Bool) : Meters :=
  { m with
    profiles := profiles
    chans := Vector.ofFn fun c => m.chans[c].load (entry c).1 (entry c).2 profiles[(entry c).1] }

/-! ### The meanings -/

/-- METER_WORD, a word event taken at a channel (R157). -/
def execMeterWord (c : ChanId) (w : LinkWord) (s : State) : Host.Outcome State Fault Refusal :=
  .next ((s.take (.meterWord c w)).meterWord c w)

/-- DECAY_EXPIRY, an expiry of the decay timer (R161). -/
def execDecayExpiry (s : State) : Host.Outcome State Fault Refusal := .next s.decayExpiry

/-- METER_RESET, the group cell command (R168). -/
def execMeterReset (count : Word) (entries : List Word) (s : State) : Host.Outcome State Fault Refusal :=
  .next (s.meterReset count entries)

end Sys2Proof.Machine
end

