-- ==== Sys2Proof/Machine/Bars.lean ====
section
/-!
DEFINITION. The bar display driver (chapter 9): bar content, refreshes and phases, blanking; the meanings of
PHASE_TIMER_EXPIRY and ROW_LIT_END.
-/
namespace Sys2Proof.Machine

/-- The number of thresholds of a scale at or below a level (R174). -/
def Scale.count (t : Scale) (level : Nat) : Nat := (t.toList.filter fun x => decide (x ≤ level)).length

/-- The content of one bar (R174): lamp test, dark bar, or shown bar. -/
def barContent (lampTest : Bool) (chan : Option Channel) (t : Scale) : BarContent :=
  if lampTest then { lit := 40, dot := none, isOver := true }
  else
    match chan with
    | none => BarContent.dark
    | some c =>
      if c.nofeed then BarContent.dark
      else
        let n := Scale.count t c.level
        let k := Scale.count t c.hv
        { lit := n, dot := if n < k then some (k - 1) else none, isOver := c.isOver }

/-- A bar's lamp states, segment 0 to segment 39, then the over lamp (R175). -/
def BarContent.lamps (b : BarContent) : List Bool :=
  (List.range 40).map (fun i => decide (i < b.lit) || b.dot == some i) ++ [b.isOver]

/-- The lamp states of row `j` in bar order (R175). -/
def Bars.rowLamps (b : Bars) (j : Fin 8) : List Bool :=
  (List.range 8).flatMap fun i => (b.snapshot[8 * j.val + i]?.getD BarContent.dark).lamps

/-- A row line alone high. -/
def rowLine (j : Fin 8) : BitVec 8 := 1#8 <<< j.val

/-- The beginning of a phase: BCOL takes the row's lamp states, its row line goes high (R175). -/
def Bars.beginPhase (b : Bars) (j : Fin 8) : Bars :=
  { b with phase := some j, columns := b.rowLamps j, rows := rowLine j }

/-- Staged BARS and SCALE values adopted (R173, step 1). -/
def Bars.adopt (b : Bars) : Bars :=
  { b with
    force := b.barsStaged.getD b.force, scales := b.scalesStaged.getD b.scales
    barsStaged := none, scalesStaged := none }

/-- The snapshot of every bar (R173, step 2). -/
def Bars.snap (b : Bars) (chans : Vector Channel 64) : Bars :=
  { b with snapshot := b.force.map.map fun e =>
      barContent b.force.lampTest (e.chan.map fun c => chans[c]) b.scales[e.table] }

/-- A refresh started: adoption, snapshot, phase 0 (R173, R175). -/
def Bars.refresh (b : Bars) (chans : Vector Channel 64) : Bars := (b.adopt.snap chans).beginPhase 0

/-- An expiry of the phase timer: the next phase, or a new refresh after phase 7 (R175); a stopped timer does not expire
(log 3). -/
def Bars.phaseExpiry (b : Bars) (chans : Vector Channel 64) : Bars :=
  match b.phase with
  | none => b
  | some j => if h : j.val + 1 < 8 then b.beginPhase ⟨j.val + 1, h⟩ else b.refresh chans

/-- The end of a row's lit time: its line goes low for the rest of the phase; at brightness 16 the row is lit for the
whole phase (R175). -/
def Bars.litEnd (b : Bars) : Bars :=
  if b.phase.isSome ∧ b.force.brightness < 16 then { b with rows := 0 } else b

/-- The bars blanked (R176). -/
def Bars.blank (b : Bars) : Bars :=
  { b with
    phase := none, rows := 0, columns := Bars.lampsOff, snapshot := Vector.replicate 64 BarContent.dark }

/-! ### The meanings -/

/-- PHASE_TIMER_EXPIRY, an expiry of the bar phase timer (R175). -/
def execPhaseTimerExpiry (s : State) : Host.Outcome State Fault Refusal :=
  .next { s with bars := s.bars.phaseExpiry s.meters.chans }

/-- ROW_LIT_END, the end of brightness × 62.5 µs of a phase (R175). -/
def execRowLitEnd (s : State) : Host.Outcome State Fault Refusal := .next { s with bars := s.bars.litEnd }

end Sys2Proof.Machine
end

