-- ==== Sys2Proof/Machine/Links.lean ====
section
/-!
DEFINITION. The meter feed links (chapter 7): bits, words and frames, link states, slot maps and receive queues, the
Meter Engine's input and the feed conditions; the meanings of FRAME_SYNC, WORD_COMPLETE, LINK_TIMEOUT and
METER_SERVICE_END.
-/
namespace Sys2Proof.Machine

/-! ### One receiver -/

/-- Staged settings and slot map adopted, and the staged copy removed (R137). -/
def LinkRx.adopt (l : LinkRx) : LinkRx :=
  match l.staged with
  | none => l
  | some (settings, map) => { l with settings := settings, map := map, staged := none }

/-- Entry to ACQUIRING from OFF (R141). -/
def LinkRx.enterAcquiring (l : LinkRx) : LinkRx :=
  { l with
    state := .acquiring, open_ := false, acquired := 0, slot := 0, assembly := [], lastFs := true,
    timeout := some l.settings.timeout }

/-- A link leaving service: OFF, its settings and slot map in force kept (R152). -/
def LinkRx.leave (l : LinkRx) : LinkRx :=
  { l with
    state := .off, open_ := false, assembly := [], slot := 0, acquired := 0, timeout := none, queue := [],
    staged := none }

/-- The judgment of the open frame, if any (R140), with the entry to LOCKED at the fourth complete frame (R142). -/
def LinkRx.judge (l : LinkRx) : LinkRx :=
  if l.open_ then
    if l.settings.slots ≤ l.slot then
      let f := { l with frames := l.frames + 1 }
      if l.state = .acquiring then
        if Config.lockFrames ≤ l.acquired + 1 then { f with state := .locked, acquired := 0 }
        else { f with acquired := l.acquired + 1 }
      else f
    else { l with short := l.short + 1, acquired := if l.state = .acquiring then 0 else l.acquired }
  else l

/-- The frame a sync opens: slot 0, no bit assembled, the timeout timer restarted with the timeout in force (R138, R143). -/
def LinkRx.openFrame (l : LinkRx) : LinkRx :=
  { l with open_ := true, slot := 0, assembly := [], timeout := some l.settings.timeout }

/-- A sync taken in ACQUIRING or LOCKED (R138, steps 1 to 4). -/
def LinkRx.takeSync (l : LinkRx) : LinkRx := l.judge.adopt.openFrame

/-- A sync taken in LOST: ACQUIRING, its first frame opened (R144). -/
def LinkRx.reacquire (l : LinkRx) : LinkRx := ({ l with state := .acquiring, acquired := 0 }).adopt.openFrame

/-- The bits of a word, most significant first, as a number. -/
def bitsValue (bits : List Bool) : Nat := bits.foldl (fun v b => 2 * v + boolBit b) 0

/-- A routed word joining the receive queue, or dropped and counted as an overrun (R147). -/
def LinkRx.enqueue (l : LinkRx) (w : RoutedWord) : LinkRx :=
  if l.queue.length < Config.receiveQueueSize then { l with queue := l.queue ++ [w] }
  else { l with overruns := l.overruns + 1 }

/-- The entry of the slot map in force for a slot (R145). -/
def LinkRx.route (l : LinkRx) (slot : Nat) : Slot := l.map[slot]?.getD .null

/-- A word completed for a slot (R146). -/
def LinkRx.deliverWord (l : LinkRx) (w : LinkWord) : LinkRx :=
  match l.state, l.route l.slot with
  | .locked, .null => l
  | .locked, r => l.enqueue { route := r, word := w }
  | _, _ => l

/-- A word completed (R139): routed, and the slot index counted up, or an excess word. -/
def LinkRx.completeWord (l : LinkRx) (w : LinkWord) : LinkRx :=
  if l.slot < l.settings.slots then { l.deliverWord w with slot := l.slot + 1 }
  else { l with excess := l.excess + 1 }

/-- One bit of the open frame shifted into the word assembly, most significant first (R139). -/
def LinkRx.shiftBit (l : LinkRx) (b : Bool) : LinkRx :=
  let bits := l.assembly ++ [b]
  if bits.length < l.settings.len.bits then { l with assembly := bits }
  else ({ l with assembly := [] }).completeWord { len := l.settings.len, value := BitVec.ofNat 24 (bitsValue bits) }

/-- One rising edge of LKCLK (R138, R139): in OFF nothing; a rise of LKFS is a sync, after which a WORD sync takes the
bit of the same edge; at any other edge the bit belongs to the open frame. The LKDAT sample at a BIT sync's own edge is no
frame's bit: a frame still open there is judged without it (DESIGN CHOICE, log 34). -/
def LinkRx.edge (l : LinkRx) (x : LinkSample) : LinkRx :=
  if l.state = .off then l
  else
    let k := { l with lastFs := x.fs }
    if x.fs && !l.lastFs then
      let opened := if l.state = .lost then k.reacquire else k.takeSync
      if l.settings.sync = .word then opened.shiftBit x.dat else opened
    else if l.open_ && l.state != .lost then k.shiftBit x.dat
    else k

/-- The expiry of the timeout timer (R143). -/
def LinkRx.lose (l : LinkRx) : LinkRx :=
  { l with
    state := .lost, open_ := false, assembly := [], slot := 0, acquired := 0, timeout := none, losses := l.losses + 1 }

/-- A load event at one receiver (R136): with the enable set in OFF the link enters ACQUIRING, but not at START. -/
def LinkRx.load (l : LinkRx) (start : Bool) (settings : LinkSettings) (map : Vector Slot 32) : LinkRx :=
  let adopted := fun (x : LinkRx) => { x with settings := settings, map := map }
  if settings.enable then
    if l.state = .off then (if start then adopted l else (adopted l).enterAcquiring)
    else { l with staged := some (settings, map) }
  else if l.state = .off then adopted l
  else adopted l.leave

/-! ### Feed conditions (R150) -/

/-- Whether a link feeds a channel: LOCKED, with an entry METER(c) at a slot below its slots per frame. -/
def LinkRx.feeds (l : LinkRx) (c : ChanId) : Bool :=
  l.state == .locked && (List.range l.settings.slots).any fun i => l.route i == .meter c

/-- Whether a channel is fed. -/
def State.fed (s : State) (c : ChanId) : Bool :=
  decide (c.val < s.part.header.channels) && (s.links[0].feeds c || s.links[1].feeds c)

/-- The NOFEED conditions derived again and delivered. -/
def State.deriveFeed (s : State) : State :=
  { s with meters := { s.meters with
      chans := Vector.ofFn fun c => { s.meters.chans[c] with nofeed := !s.fed c } } }

/-- Whether a change of a receiver sets the LINK cause: entry to LOCKED, and entry to LOST from LOCKED (R142, R143). -/
def linkNews (before after : LinkRx) : Bool :=
  (before.state != .locked && after.state == .locked) || (before.state == .locked && after.state == .lost)

/-- Whether a change of a receiver has the feed conditions derived again (R150). -/
def feedNews (before after : LinkRx) : Bool :=
  ((before.state == .locked) != (after.state == .locked)) ||
    (after.state == .locked && (before.map != after.map || before.settings.slots != after.settings.slots))

/-- A receiver changed, with what its change means to the Attention Unit and the Meter Engine. -/
def State.setLink (s : State) (k : LinkId) (l : LinkRx) : State :=
  let before := s.links[k]
  let t := { s with links := s.links.set k l }
  let u := if linkNews before l then t.setCause .link else t
  if feedNews before l then u.deriveFeed else u

/-- Both links out of service, with nothing said to the Attention Unit (R152). -/
def State.leaveLinks (s : State) : State :=
  ({ s with links := s.links.map LinkRx.leave } : State).deriveFeed

/-! ### The Meter Engine's input (R148, R149) -/

/-- The queue the input chooses: the only one that holds words, or the one it did not serve last. -/
def State.chosenLink (s : State) : Option LinkId :=
  match s.links[0].queue, s.links[1].queue with
  | [], [] => none
  | _ :: _, [] => some 0
  | [], _ :: _ => some 1
  | _ :: _, _ :: _ => some (if s.input.last = 0 then 1 else 0)

/-- A service begun when the input is free and a queue holds a word (R148). -/
def State.beginService (s : State) : State :=
  match s.input.service, s.chosenLink with
  | none, some k =>
    { s with
      input := { service := s.links[k].queue.head?, last := k }
      links := s.links.set k { s.links[k] with queue := s.links[k].queue.tail } }
  | _, _ => s

/-- A word delivered at the end of its service (R149). -/
def State.deliverRouted (s : State) (w : RoutedWord) : State :=
  match w.route with
  | .meter c => if s.part.state.metering then s.deliver (.meterWord c w.word) else s
  | .strip i => if s.part.state = .running then s.deliver (.streamWord i w.word) else s
  | .null => s

/-- The end of a service (R148): the word is delivered, the input is free, and a new service begins at once if a queue
holds a word. -/
def State.serviceEnd (s : State) : State :=
  match s.input.service with
  | none => s
  | some w =>
    (({ s with input := { s.input with service := none } } : State).deliverRouted w).beginService

/-- One edge at a link (R138, R139), after which the input may begin a service (R148). -/
def State.linkEdge (s : State) (k : LinkId) (x : LinkSample) : State :=
  (s.setLink k (s.links[k].edge x)).beginService

/-- Edges at a link in their order. -/
def State.linkEdges (s : State) (k : LinkId) (xs : List LinkSample) : State := xs.foldl (fun s x => s.linkEdge k x) s

/-- A timeout expiry at a link (R143); a stopped timer does not expire (log 3). -/
def State.linkTimeout (s : State) (k : LinkId) : State :=
  if s.links[k].timeout.isSome then s.setLink k s.links[k].lose else s

/-! ### The meanings -/

/-- FRAME_SYNC: the edges since the last one taken, then the edge at which LKFS is found high (R138, R144). -/
def execFrameSync (k : LinkId) (before : List LinkSample) (dat : Bool) (s : State) :
    Host.Outcome State Fault Refusal :=
  .next ((s.linkEdges k before).linkEdge k { fs := true, dat := dat })

/-- WORD_COMPLETE: the edges up to the one that completes a word (R139, R146, R147). -/
def execWordComplete (k : LinkId) (samples : List LinkSample) (s : State) : Host.Outcome State Fault Refusal :=
  .next (s.linkEdges k samples)

/-- LINK_TIMEOUT, the expiry of a link's timeout timer (R143). -/
def execLinkTimeout (k : LinkId) (s : State) : Host.Outcome State Fault Refusal := .next (s.linkTimeout k)

/-- METER_SERVICE_END, the end of the input's service of a word (R148, R149). -/
def execMeterServiceEnd (s : State) : Host.Outcome State Fault Refusal := .next s.serviceEnd

end Sys2Proof.Machine
end

