-- ==== Sys2Proof/Machine/Stop.lean ====
section
/-!
DEFINITION. The STOP sequence after its entry (R183, steps 3 to 6): it goes on at each event that completes a step of it.
-/
namespace Sys2Proof.Machine

/-- Whether the drain has ended: nothing queued, nothing held, and no GAP record still due in a page (R131). -/
def Writer.drained (w : Writer) : Bool :=
  w.queue.isEmpty && w.held.isEmpty && !(w.state == .filling && w.lost != 0)

/-- The end of the drain (R131): a page with records is handed over, the next owner not read; the writer is STOPPED. -/
def State.endDrain (s : State) : State :=
  let t := if s.writer.state = .filling ∧ s.writer.base ≠ none then s.handPage else s
  { t with
    writer := { t.writer with state := .stopped, hold := none }
    part := { t.part with stop := .awaitReport } }

/-- R183 step 3: the activity drain. -/
def State.stopDrain (s : State) : State :=
  if s.part.stop = .drain ∧ s.writer.drained then s.endDrain else s

/-- R183 step 4: the final report begins when the report being written has ended (R202). -/
def State.stopReport (s : State) : State :=
  if s.part.stop = .awaitReport ∧ s.reporter.run = none then
    let t := s.beginReport.pump
    { t with part := { t.part with stop := .report } }
  else s

/-- R183 step 5: the bars blanked and the links stopped. -/
def State.stopDisplay (s : State) : State :=
  if s.part.stop = .report ∧ s.reporter.run = none then
    let t := s.leaveLinks
    { t with bars := t.bars.blank, part := { t.part with stop := .lastWrites } }
  else s

/-- The STOP sequence going on as far as it can (R183). -/
def State.advanceStop (s : State) : State :=
  if s.part.state = .stopping then s.stopDrain.stopReport.stopDisplay else s

end Sys2Proof.Machine
end

