-- ==== Sys2Proof/Machine/Grants.lean ====
section
/-!
DEFINITION. The Grant Arbiter and the Motor Output Unit (chapter 5): requests, withdrawals, returns and decisions, the
motor supply, the load of the GRANT section, PWM periods and drive expiry; the meanings of GRANT_REQUEST,
GRANT_WITHDRAWAL, GRANT_RETURN, GRANT, SUPPLY_LOW, MSUP_OK_RISE, RECOVERY_TIMER_EXPIRY, PWM_PERIOD_START and DRIVE_EXPIRY.
-/
namespace Sys2Proof.Machine

/-! ### Decisions (R105) -/

/-- The budget a decision uses: a pending full budget when the supply is OK, otherwise the current budget. -/
def Arbiter.decisionBudget (a : Arbiter) : Nat :=
  match a.pendingFull with
  | some g => if a.supply = .ok then g else a.currentBudget
  | none => a.currentBudget

/-- Whether a request is eligible: any while the supply is OK, those above the floor level while it is LOW. -/
def Arbiter.eligible (a : Arbiter) (r : Request) : Bool := a.supply == .ok || decide (a.floor < r.priority.toNat)

/-- Whether a request goes before another: higher priority, then lower strip number. -/
def Request.before (a b : Request) : Bool :=
  decide (b.priority < a.priority) || (a.priority == b.priority && decide (a.strip < b.strip))

/-- The best of a list of requests. -/
def bestRequest : List Request → Option Request
  | [] => none
  | r :: rs =>
    match bestRequest rs with
    | none => some r
    | some b => if b.before r then some b else some r

/-- The record a decision chooses next, if the budget has room. -/
def Arbiter.choice (a : Arbiter) : Option Request :=
  if a.grantSet.length < a.decisionBudget then bestRequest (a.waiting.filter a.eligible) else none

/-- A chosen record leaves the waiting set, and its strip joins the grant set. -/
def Arbiter.issue (a : Arbiter) (r : Request) : Arbiter :=
  { a with waiting := a.waiting.filter (·.strip ≠ r.strip), grantSet := a.grantSet ++ [r.strip] }

/-- A decision's steps, and the strips granted in the order chosen; `n` bounds them. -/
def Arbiter.decideFor : Nat → Arbiter → Arbiter × List StripId
  | 0, a => (a, [])
  | n + 1, a =>
    match a.choice with
    | none => (a, [])
    | some r =>
      let d := Arbiter.decideFor n (a.issue r)
      (d.1, r.strip :: d.2)

/-- A grant decision made by an arbiter, its grant events delivered in the order chosen. -/
def State.grantDecision (s : State) (a : Arbiter) : State :=
  let d := Arbiter.decideFor a.waiting.length a
  { s with arbiter := d.1, inFlight := s.inFlight ++ d.2.map fun i => .grant i }

/-! ### Requests, withdrawals, returns, loads -/

/-- A request taken (R103). -/
def Arbiter.request (a : Arbiter) (i : StripId) (p : Priority) : Arbiter :=
  if i ∈ a.grantSet then a
  else if a.waiting.any (·.strip == i) then
    { a with waiting := a.waiting.map fun r => if r.strip = i then { r with priority := p } else r }
  else { a with waiting := a.waiting ++ [{ strip := i, priority := p }] }

/-- A withdrawal taken (R104). -/
def Arbiter.withdraw (a : Arbiter) (i : StripId) : Arbiter :=
  { a with waiting := a.waiting.filter (·.strip ≠ i) }

/-- A return taken from a holder (R106): a pending full budget is adopted once the holder count is down to
it, at the returns of the STOP sequence too, which R111 both says and denies (DESIGN CHOICE, log 33). -/
def Arbiter.giveBack (a : Arbiter) (i : StripId) : Arbiter :=
  let b := { a with grantSet := a.grantSet.filter (· ≠ i) }
  match b.pendingFull with
  | some g => if b.grantSet.length ≤ g then { b with full := g, pendingFull := none } else b
  | none => b

/-- The GRANT section loaded (R102). -/
def Arbiter.load (a : Arbiter) (v : GrantValues) : Arbiter :=
  let b := { a with low := v.low, floor := v.floor }
  if b.grantSet.length ≤ v.full then { b with full := v.full, pendingFull := none }
  else { b with pendingFull := some v.full }

/-- The load event, with the decision that follows it (R102). -/
def State.loadGrant (s : State) (v : GrantValues) : State := s.grantDecision (s.arbiter.load v)

/-- A request, and its decision (R103). -/
def State.grantRequest (s : State) (i : StripId) (p : Priority) : State := s.grantDecision (s.arbiter.request i p)

/-- A withdrawal (R104). -/
def State.grantWithdrawal (s : State) (i : StripId) : State := { s with arbiter := s.arbiter.withdraw i }

/-- A return (R106): one from a strip outside the grant set has no effect. -/
def State.grantReturn (s : State) (i : StripId) : State :=
  if i ∈ s.arbiter.grantSet then s.grantDecision (s.arbiter.giveBack i) else s

/-! ### The events between strips and arbiter -/

/-- The events between the strips and the arbiter. -/
def grantEvent : Instr → Bool
  | .grantRequest _ _ | .grantWithdrawal _ | .grantReturn _ | .grant _ => true
  | _ => false

/-- Such an event taken: at the arbiter (R103, R104, R106), or a grant at its strip (R31). -/
def State.takeGrantEvent (s : State) : Instr → State
  | .grantRequest i p => s.grantRequest i p
  | .grantWithdrawal i => s.grantWithdrawal i
  | .grantReturn i => s.grantReturn i
  | .grant i => s.runStrip i Ctx.granted
  | _ => s

/-- Such events under way taken, oldest first, with those they bring; `n` bounds them. -/
def State.settleGrantsFor : Nat → State → State
  | 0, s => s
  | n + 1, s =>
    match s.inFlight.find? grantEvent with
    | none => s
    | some e => State.settleGrantsFor n ((s.take e).takeGrantEvent e)

/-- A bound on how many such events can come while no strip is WAITING: an event under way brings at most a request's record, its
grant and the return of that grant, and a record that waits its grant and its return. -/
def State.grantWork (s : State) : Nat := 3 * s.inFlight.length + 2 * s.arbiter.waiting.length

/-- Every event between strips and arbiter under way taken, with those it brings, until none is left (R111; that none is left is
`State.settleGrants_eq` in Laws/Grants.lean). -/
def State.settleGrants (s : State) : State := State.settleGrantsFor s.grantWork s

/-! ### The motor supply (section 5.2) -/

/-- The part states in which the arbiter takes MSUP_OK events (R110). -/
def PartState.takesSupply : PartState → Bool
  | .starting | .running | .stopping => true
  | .halted | .faulted => false

/-- SUPPLY LOW at the arbiter (R108). -/
def State.supplyLow (s : State) : State :=
  let t := { s with msupOk := false }
  if s.part.state.takesSupply then
    match s.arbiter.supply with
    | .ok => ({ t with arbiter := { s.arbiter with supply := .low } } : State).setCause .supply
    | .low => { t with arbiter := { s.arbiter with recovery := none } }
  else t

/-- A rise of MSUP_OK at the arbiter (R109). -/
def State.supplyRise (s : State) : State :=
  let t := { s with msupOk := true }
  if s.part.state.takesSupply ∧ s.arbiter.supply = .low then
    { t with arbiter := { s.arbiter with recovery := some Config.recoveryTime } }
  else t

/-- An expiry of the recovery timer (R109); a stopped timer does not expire (log 3). -/
def State.recoveryExpiry (s : State) : State :=
  if s.arbiter.recovery.isSome then
    (s.setCause .supply).grantDecision { s.arbiter with supply := .ok, recovery := none }
  else s

/-- The level of MSUP_OK read at START (R110). -/
def State.readSupply (s : State) : State :=
  if s.msupOk then { s with arbiter := { s.arbiter with supply := .ok, recovery := none } }
  else ({ s with arbiter := { s.arbiter with supply := .low, recovery := none } } : State).setCause .supply

/-! ### Outputs (section 5.3) -/

/-- The start of a PWM period (R114, R115): the staged prescale is adopted and a pending output taken into use. -/
def MotorChannel.period (m : MotorChannel) (prescale : Nat) : MotorChannel :=
  match m.waiting with
  | some (duty, up) => { m with prescale := prescale, duty := duty, dir := up, waiting := none }
  | none => { m with prescale := prescale }

/-- One output channel changed. -/
def State.setMotor (s : State) (i : StripId) (m : MotorChannel) : State :=
  { s with motors := { s.motors with chans := s.motors.chans.set i m } }

/-- A drive expiry (R116): the channel lapses and the drive-expiry counter counts up; a stopped timer does not expire
(log 3). -/
def State.driveExpiry (s : State) (i : StripId) : State :=
  if s.motors.chans[i].expiry.isSome then
    { s with motors := { s.motors with
        chans := s.motors.chans.set i s.motors.chans[i].zero, expiries := s.motors.expiries + 1 } }
  else s

/-- MOTOR_EN low and every channel at drive 0, the DIR pins kept (R117). -/
def Motors.silence (m : Motors) : Motors := { m with enable := false, chans := m.chans.map MotorChannel.zero }

/-! ### The meanings -/

/-- GRANT_REQUEST, a strip's request taken at the arbiter (R103). -/
def execGrantRequest (i : StripId) (p : Priority) (s : State) : Host.Outcome State Fault Refusal :=
  .next ((s.take (.grantRequest i p)).grantRequest i p)

/-- GRANT_WITHDRAWAL, a strip's withdrawal taken at the arbiter (R104). -/
def execGrantWithdrawal (i : StripId) (s : State) : Host.Outcome State Fault Refusal :=
  .next ((s.take (.grantWithdrawal i)).grantWithdrawal i)

/-- GRANT_RETURN, a strip's return taken at the arbiter (R106). -/
def execGrantReturn (i : StripId) (s : State) : Host.Outcome State Fault Refusal :=
  .next ((s.take (.grantReturn i)).grantReturn i)

/-- GRANT, a grant event taken at a strip (R31). -/
def execGrant (i : StripId) (s : State) : Host.Outcome State Fault Refusal :=
  .next ((s.take (.grant i)).runStrip i Ctx.granted)

/-- SUPPLY_LOW, a fall of MSUP_OK (R108). -/
def execSupplyLow (s : State) : Host.Outcome State Fault Refusal := .next s.supplyLow

/-- MSUP_OK_RISE, a rise of MSUP_OK (R109). -/
def execMsupOkRise (s : State) : Host.Outcome State Fault Refusal := .next s.supplyRise

/-- RECOVERY_TIMER_EXPIRY, the end of 50 ms of MSUP_OK high (R109). -/
def execRecoveryTimerExpiry (s : State) : Host.Outcome State Fault Refusal := .next s.recoveryExpiry

/-- PWM_PERIOD_START, the start of a period of a strip's generator (R114, R115). -/
def execPwmPeriodStart (i : StripId) (s : State) : Host.Outcome State Fault Refusal :=
  .next (s.setMotor i (s.motors.chans[i].period s.motors.prescaleStaged))

/-- DRIVE_EXPIRY, a strip's expiry timer running out (R116). -/
def execDriveExpiry (i : StripId) (s : State) : Host.Outcome State Fault Refusal := .next (s.driveExpiry i)

end Sys2Proof.Machine
end

