-- ==== Sys2Proof/Machine/Entries.lean ====
section
/-!
DEFINITION. What the blocks do at the part's changes of state (section 10.1): the stops they share, entry to RUNNING
(R182), entry to FAULTED and faulting accesses (R187, R190), and the strips' end of work (R27, R100).
-/
namespace Sys2Proof.Machine

/-! ### The stops -/

/-- The converter disabled, the round abandoned and the scan timer stopped (R2, R4, R13). -/
def Scanner.disable (c : Scanner) : Scanner :=
  { c with
    enabled := false, longNext := true, timer := none, round := .idle, warm := false, list := [], position := 0 }

/-- The touch scan timer stopped: every touch state UNTOUCHED, every run counter 0 (R24). -/
def TouchScanner.stop (t : TouchScanner) : TouchScanner :=
  { t with timer := false, chans := Vector.replicate 32 { touched := false, run := 0 } }

/-- The sweep timer stopped, the pass ended and the read-ahead discarded (R183, R187). The period in force is kept, as the
scan period is: R192's 1000 µs is taken to follow the resets alone (DESIGN CHOICE, log 35). -/
def Sweep.stop (w : Sweep) : Sweep := { w with timer := none, pass := none, readAhead := [] }

/-- What leaving service does to every context (R76, R100): no stream target, no part in gang activity. -/
def Strip.detach (x : Strip) : Strip :=
  { x with streamTarget := none, role := .outside, followTarget := none, freeze := false }

/-- What leaving service does to a context beside its entries and its calibration run (R27, R76, R100). R27 speaks of no OFF
strip: one only loses what R76 and R100 take from every strip. -/
def Strip.rest (x : Strip) : Strip :=
  if x.state = .off then x.detach
  else
    { x.detach with
      state := x.restState, touch := false, relatch := false, grantHeld := false, trail := [], trailStep := 0 }

/-- A strip's end of work at entry to STOPPING (R27, R183 step 2). -/
def Ctx.endWork (c : Ctx) : Ctx :=
  if c.strip.state = .off then c.update Strip.rest
  else ((c.endRun .flushed false).flush.letGo).update Strip.rest

/-- A context at entry to FAULTED: its entries and calibration run discarded without records (R27). -/
def Strip.discard (x : Strip) : Strip :=
  { x with
    current := none, queue := [], calRun := none, chainStart := none, restart := false,
    profile := { x.profile with set := false } }.rest

/-- Every gang without activity (R100). -/
def State.endActivities (s : State) : State := { s with gangs := s.gangs.map fun g => { g with activity := none } }

/-- The writer stopped with its queue discarded (R132). -/
def Writer.halt (w : Writer) : Writer :=
  { w with state := .stopped, queue := [], held := [], deadSeek := false, hold := none, lost := 0 }

/-- Every grant released and every request dropped; a pending full budget is kept (R111), the recovery timer stopped
(R110). -/
def Arbiter.empty (a : Arbiter) : Arbiter := { a with grantSet := [], waiting := [], recovery := none }

/-- The report timer stopped and a report being written abandoned (R202). -/
def Reporter.halt (r : Reporter) : Reporter := { r with timer := none, run := none }

/-- Entry to FAULTED (R187). Sample arrivals already delivered stand (R13); no other event stays under way. -/
def State.faultEntry (s : State) (code : FaultCode) : State :=
  let t := s.endActivities.leaveLinks
  let a := (t.attention.flushBoth).set .state
  { t with
    inFlight := t.inFlight.filter isArrival
    posted := []
    part := { t.part with state := .faulted, fault := code, checking := false, sequenceDue := false, stop := .idle }
    sweep := t.sweep.stop
    scanner := t.scanner.disable
    touchScan := t.touchScan.stop
    strips := t.strips.map Strip.discard
    arbiter := t.arbiter.empty
    motors := t.motors.silence
    writer := t.writer.halt
    input := { t.input with service := none }
    meters := { t.meters with decay := false }
    bars := t.bars.blank
    reporter := t.reporter.halt
    attention := a }

/-- Whether the part can have an image access under way (R187): in STARTING, RUNNING and STOPPING, and in HALTED while the
header check is in progress or writes are still posted. -/
def State.accessing (s : State) : Bool :=
  match s.part.state with
  | .starting | .running | .stopping => true
  | .halted => s.part.checking || !s.posted.isEmpty
  | .faulted => false

/-- An access at an image offset that fails: entry to FAULTED with code BUS, its address in PFADR (R187, R190). -/
def State.accessFault (s : State) (offset : Word) : State :=
  let t := s.faultEntry .bus
  { t with part := { t.part with pfadr := s.part.base + offset } }

/-- A bus fault: with no access under way there is none (R187). -/
def State.busFault (s : State) (offset : Word) : State := if s.accessing then s.accessFault offset else s

/-! ### Entry to RUNNING -/

/-- The three header writes at entry to RUNNING: report count 0, the part time, and current bank A (R200). -/
def State.firstHeader (s : State) : List PostedWrite :=
  [{ offset := 40, data := 0, note := .plain }, { offset := 44, data := s.part.time, note := .plain },
   { offset := 36, data := BitVec.ofNat 32 Bank.a.code, note := .plain }]

/-- Entry to RUNNING (R182): MOTOR_EN, the scan, touch scan, sweep and report timers, and the STATE cause. -/
def State.entryRunning (s : State) : State :=
  let t := s.postAll s.firstHeader
  let u : State := { t with
    part := { t.part with state := .running }
    motors := { t.motors with enable := true }
    scanner := { t.scanner with timer := some t.scanner.period }
    touchScan := { t.touchScan with timer := true }
    sweep := { t.sweep with period := t.sweep.periodStaged, timer := some t.sweep.periodStaged }
    reporter := { t.reporter with
      bank := .a, count := 0, period := t.reporter.periodStaged, timer := some t.reporter.periodStaged } }
  u.setCause .state

end Sys2Proof.Machine
end

