-- ==== Sys2Proof/Machine/Journal.lean ====
section
/-!
DEFINITION. The Activity Writer's timers and its flush (R123, R127, R130), and the meanings of its commands and of the Image
Port's write (R124, R189):
RECORD_PLACEMENT, PAGE_OWNER_READ, ACTIVITY_RETRY_EXPIRY, PAGE_HOLD_EXPIRY, ACTIVITY_FLUSH and POSTED_WRITE_ISSUED.
-/
namespace Sys2Proof.Machine

/-- An expiry of the retry timer: the owner of the current page is read again (R123); a stopped timer does not expire
(log 3). -/
def State.retryExpiry (s : State) : State := if s.retryRunning then s.deliver (.pageOwnerRead []) else s

/-- An expiry of the hold timer: the page is closed (R127); a stopped timer does not expire (log 3). -/
def State.holdExpiry (s : State) : State := if s.writer.hold.isSome then s.closePage else s

/-! ### ACTIVITY_FLUSH (R130) -/

/-- The flush placing records: each placement by R124, with the owner of a new page read on the way; it stops when nothing is
due or no page is obtained. With the state come the host's words that are not in memory yet: the first read puts them there.
`n` bounds its actions. -/
def State.flushFor : Nat → List HostWrite → State → State × List HostWrite
  | 0, host, s => (s, host)
  | n + 1, host, s =>
    if s.writer.state = .filling then
      match s.writer.due s.part.time with
      | none => (s, host)
      | some d =>
        if s.writer.fits d then State.flushFor n host (s.place d)
        else State.flushFor n [] (s.handPage.ownerRead host)
    else (s, host)

/-- How many placements and closes a flush can make. -/
def State.flushActions (s : State) : Nat := 2 * s.writer.queue.length + 3

/-- ACTIVITY_FLUSH at the writer (R130): in FILLING every queued record is placed and a page with a record is closed; in
SEEKING it has no effect. The host's words are put into memory also when nothing is read (log 7). -/
def State.flushActivity (s : State) (host : List HostWrite) : State :=
  let r := State.flushFor s.flushActions host s
  let t := r.1.hostWrote r.2
  if t.writer.state = .filling ∧ t.writer.base ≠ none then t.closePage else t

/-- A flush cut by a fault at the owner read after `j` good ones (R123); none when it makes no such read. -/
def State.flushFaultFor : Nat → List HostWrite → State → Nat → Option State
  | 0, _, _, _ => none
  | n + 1, host, s, j =>
    if s.writer.state = .filling then
      match s.writer.due s.part.time with
      | none => none
      | some d =>
        if s.writer.fits d then State.flushFaultFor n host (s.place d) j
        else
          let t := s.handPage
          match j with
          | 0 => some ((t.beforeRead host).accessFault (BitVec.ofNat 32 (t.writer.pageOffset 0)))
          | j + 1 => State.flushFaultFor n [] (t.ownerRead host) j
    else none

/-- ACTIVITY_FLUSH cut by a fault at an owner read. -/
def State.flushFault (s : State) (host : List HostWrite) (j : Nat) : Option State :=
  State.flushFaultFor s.flushActions host s j

/-! ### The meanings -/

/-- RECORD_PLACEMENT, one placement (R124). -/
def execRecordPlacement (s : State) : Host.Outcome State Fault Refusal := .next s.placeRecord.advanceStop

/-- PAGE_OWNER_READ, the result of an owner read in SEEKING (R123). -/
def execPageOwnerRead (host : List HostWrite) (s : State) : Host.Outcome State Fault Refusal :=
  .next ((s.take (.pageOwnerRead [])).ownerRead host).advanceStop

/-- ACTIVITY_RETRY_EXPIRY, an expiry of the retry timer (R123). -/
def execActivityRetryExpiry (s : State) : Host.Outcome State Fault Refusal := .next s.retryExpiry

/-- PAGE_HOLD_EXPIRY, an expiry of an open page's hold timer (R127). -/
def execPageHoldExpiry (s : State) : Host.Outcome State Fault Refusal := .next s.holdExpiry.advanceStop

/-- ACTIVITY_FLUSH, the group cell command (R130), whole or cut by a fault. -/
def execActivityFlush (bus : Bus) (s : State) : Host.Outcome State Fault Refusal :=
  .next ((bus.fault.bind (s.flushFault bus.host)).getD ((s.flushActivity bus.host).answer .done 0))

/-- POSTED_WRITE_ISSUED: the oldest posted write reaches memory (R189). -/
def execPostedWriteIssued (s : State) : Host.Outcome State Fault Refusal := .next s.issueOldest.pump.advanceStop

end Sys2Proof.Machine
end

