-- ==== Sys2Proof/Machine/Moves.lean ====
section
/-!
DEFINITION. The commands of the strip cell (sections 2.5 to 2.7, 3.2), the SCENE and its entries (section 3.3), and
stream words (section 3.5), with their meanings.
-/
namespace Sys2Proof.Machine

/-! ### MOVE, JUMP and SCENE entries -/

/-- The first check of R60 that applies to a MOVE, a JUMP or a SCENE entry at strip `i` with header strip count `n`. -/
def Strip.refusal (x : Strip) (i : StripId) (n : Nat) (isMove : Bool) : Option Outcome :=
  if n ≤ i.val ∨ x.state = .off then some .stripOff
  else if x.state = .uncal ∨ x.calibrationStands then some .notCalibrated
  else if x.state = .stalled then some .stalled
  else if x.settings.source = .link then some .wrongSource
  else if isMove ∧ Config.moveQueueSize ≤ x.queue.length then some .queueFull
  else none

/-- The entry a command creates (R55, R57): its touch-time flag is set when the strip is TOUCHED. -/
def Strip.newEntry (x : Strip) (a : MoveArgs) (o : Origin) : Entry :=
  { tag := a.tag, target := takenTarget a.target, duration := takenDuration a.duration, priority := a.priority,
    origin := o, touchTime := x.state == .touched }

/-- An accepted MOVE placed (R61): the tail of the queue, started at once by R59 on an IDLE strip. -/
def Ctx.placeMove (c : Ctx) (e : Entry) : Ctx := (c.update fun x => { x with queue := x.queue ++ [e] }).startRule

/-- An accepted JUMP placed after its flush (R63). A strip waiting for a stream, or in stream motion, which R61 says cannot be met,
takes it as one waiting to move, or in MOVING (DESIGN CHOICE, log 9). -/
def Ctx.placeJump (c : Ctx) (e : Entry) : Ctx :=
  let asCurrent := c.update fun x => { x with current := some e }
  match c.strip.state with
  | .idle | .waiting .move | .waiting .stream => asCurrent.await .move e.priority
  | .moving => asCurrent
  | .settling => asCurrent.update fun x => { x.clearSettle with state := .moving }
  | _ => c.update fun x => { x with queue := [e] }

/-- The outcome of an accepted command (R55). -/
def acceptedOutcome (clamped : Bool) : Outcome := if clamped then .clamped else .done

/-- A MOVE at a context (R60, R61). -/
def Ctx.move (n : Nat) (a : MoveArgs) (o : Origin) (c : Ctx) : Ctx × Outcome :=
  match c.strip.refusal c.id n true with
  | some r => (c, r)
  | none => (c.placeMove (c.strip.newEntry a o), acceptedOutcome (moveClamped a))

/-- A JUMP at a context (R60, R63). -/
def Ctx.jump (n : Nat) (a : MoveArgs) (o : Origin) (c : Ctx) : Ctx × Outcome :=
  match c.strip.refusal c.id n false with
  | some r => (c, r)
  | none => (c.flush.placeJump (c.strip.newEntry a o), acceptedOutcome (moveClamped a))

/-! ### STOP -/

/-- The settle a STOP begins (R65): no current entry, the guide at the last p, counts 0. -/
def Strip.settleHere (x : Strip) : Strip :=
  { x.clearSettle with state := .settling, profile := { x.profile with guide := x.p } }

/-- The state change of a STOP after its flush (R65). -/
def Ctx.stopState (c : Ctx) : Ctx :=
  match c.strip.state with
  | .waiting .follow => (c.emit .withdraw).update fun x => { x.leaveActivity with state := .idle }
  | .waiting _ => (c.emit .withdraw).update fun x => { x with state := .idle }
  | .moving | .settling => c.update Strip.settleHere
  | .following => c.update fun x => x.leaveActivity.settleHere
  | _ => c

/-- STOP at a context (R64); a strip whose calibration it ends in IDLE makes the start check of R59. -/
def Ctx.stop (n : Nat) (c : Ctx) : Ctx × Outcome :=
  if n ≤ c.id.val ∨ c.strip.state = .off then (c, .stripOff)
  else if c.strip.calibrationStands then
    (((c.letGo.endRun .flushed false).update fun x => { x with state := x.restState }).startRule, .done)
  else (c.flush.stopState.update Strip.setRelatch, .done)

/-! ### CALIBRATE, SET_CAL, CLEAR_STALL, STRIP_OFF, STRIP_ON -/

/-- A calibration run created (R45). -/
def Strip.newRun (x : Strip) (tag : Half) : Strip :=
  { x with calRun := some { tag := tag, phase := .down, newBottom := 0, anchor := none, steady := 0, count := 0 } }

/-- CALIBRATE at a context (R45). -/
def Ctx.calibrate (n : Nat) (tag : Half) (c : Ctx) : Ctx × Outcome :=
  if n ≤ c.id.val ∨ c.strip.state = .off then (c, .stripOff)
  else if c.strip.calibrationStands then (c, .notCalibrated)
  else if c.strip.touch then
    (((c.flush.update (·.newRun tag)).abortCalibration).update Strip.leaveActivity, .done)
  else
    match c.strip.state with
    | .waiting _ =>
      ((c.flush.update fun x => x.leaveActivity.newRun tag).await .calibrate c.strip.settings.priority, .done)
    | .moving | .settling | .following =>
      (c.flush.update fun x => { x.leaveActivity.newRun tag with state := .calibrating }, .done)
    | _ => ((c.update (·.newRun tag)).await .calibrate c.strip.settings.priority, .done)

/-- SET_CAL at a context (R51), with the start check of R59 for an UNCAL strip that it leaves IDLE. -/
def Ctx.setCal (n : Nat) (bottom top : Half) (c : Ctx) : Ctx × Outcome :=
  let b := takenCode bottom
  let t := takenCode top
  let clamped : Bool := 1023 < bottom.toNat || 1023 < top.toNat
  if n ≤ c.id.val ∨ c.strip.state = .off then (c, .stripOff)
  else if c.strip.calibrationStands then (c, .notCalibrated)
  else if t < b + Config.leastSpan then (c, .calSpan)
  else
    let cal : CalRecord := { bottom := b, top := t, valid := true }
    let d := c.update fun x =>
      { x with
        cal := cal
        v := cal.convert x.r
        state := if x.state = .uncal then (if x.touch then .touched else .idle) else x.state }
    (if c.strip.state = .uncal then d.startRule else d, acceptedOutcome clamped)

/-- CLEAR_STALL at a context (R44), with the start check of R59. -/
def Ctx.clearStall (n : Nat) (c : Ctx) : Ctx × Outcome :=
  if n ≤ c.id.val then (c, .stripOff)
  else if c.strip.state = .stalled then
    ((c.update fun x => { x with state := if x.touch then .touched else .idle }).startRule, .done)
  else (c, .done)

/-- STRIP_OFF at a context (R52). -/
def Ctx.stripOff (n : Nat) (c : Ctx) : Ctx × Outcome :=
  if n ≤ c.id.val then (c, .stripOff)
  else if c.strip.state = .off then (c, .done)
  else
    let d := (c.endRun .flushed false).flush.letGo
    (d.update fun x =>
      { x.leaveActivity.clearSettle with
        touch := false, relatch := false, trail := [], trailStep := 0, stallCount := 0, state := .off }, .done)

/-- STRIP_ON at a context (R53). -/
def Ctx.stripOn (n : Nat) (c : Ctx) : Ctx × Outcome :=
  if n ≤ c.id.val then (c, .stripOff)
  else if c.strip.state = .off then (c.update fun x => { x with state := x.restState, pRepSet := false }, .done)
  else (c, .done)

/-! ### Stream words (R70 to R72) -/

/-- The position a stream word carries: its top 12 bits, unsigned (R70). -/
def streamPosition (w : LinkWord) : Nat :=
  match w.len with
  | .w24 => w.value.toNat / 2 ^ 12
  | .w16 => w.value.toNat % 2 ^ 16 / 2 ^ 4

/-- A stream target set, and the stream test of an IDLE strip after the start check (R70, R72). -/
def Ctx.newTarget (t : Nat) (c : Ctx) : Ctx :=
  let d := c.update fun x => { x with streamTarget := some t }
  if d.strip.state = .idle then d.startRule.streamTest else d

/-- A stream word taken at a context (R70, R71). -/
def Ctx.streamWord (t : Nat) (c : Ctx) : Ctx :=
  if c.strip.settings.source = .cells then c
  else if c.strip.relatch then
    if ((t : Int) - c.strip.relatchRef).natAbs < c.strip.servo.deadband then c
    else (c.update fun x => { x with relatch := false }).newTarget t
  else c.newTarget t

/-! ### The commands on the state -/

/-- CALIBRATE: a leader that takes it departs from its gang's activity (R45, R97). -/
def State.calibrate (s : State) (i : StripId) (tag : Half) : State :=
  let t := s.runCommand i (Ctx.calibrate s.stripCount tag)
  if (s.strip i).role = .leader ∧ t.sweep.outcome = some .done then t.leaderDeparts i else t

/-- STRIP_OFF: a leader that takes it departs from its gang's activity (R52, R97). -/
def State.stripOff (s : State) (i : StripId) : State :=
  let t := s.runCommand i (Ctx.stripOff s.stripCount)
  if (s.strip i).role = .leader ∧ (s.strip i).state ≠ .off ∧ t.sweep.outcome = some .done then t.leaderDeparts i else t

/-- A strip's touch channel at UNTOUCHED with counter 0. -/
def TouchScanner.forget (c : TouchScanner) (i : StripId) : TouchScanner :=
  { c with chans := c.chans.set i { touched := false, run := 0 } }

/-- STRIP_ON: a strip that leaves OFF is read from UNTOUCHED with counter 0 (R22, R53), whether or not an expiry of the touch scan
timer has found it OFF, and no event is delivered. -/
def State.stripOn (s : State) (i : StripId) : State :=
  let t := s.runCommand i (Ctx.stripOn s.stripCount)
  if i.val < s.stripCount ∧ (s.strip i).state = .off then { t with touchScan := t.touchScan.forget i } else t

/-- One SCENE entry: a MOVE or a JUMP with origin SCENE (R67). -/
def State.sceneEntry (s : State) (i : StripId) (jump : Bool) (a : MoveArgs) : State :=
  s.runCommand i (if jump then Ctx.jump s.stripCount a .scene else Ctx.move s.stripCount a .scene)

/-- Whether an outcome is a refusal of a MOVE, JUMP or SCENE entry (R67). -/
def Outcome.refuses : Outcome → Bool
  | .done | .clamped => false
  | _ => true

/-- The entries of a SCENE delivered in list order, each taken at its strip's context; the refused-set word gathers
the strips with a refused entry (R67, R68). -/
def State.sceneEntries (a : SceneArgs) : List Word → State × Word → State × Word
  | [], acc => acc
  | w :: ws, (s, refused) =>
    let t := s.sceneEntry (entryStrip w) a.jump (sceneMove a w)
    let bad := match t.sweep.outcome with
      | some o => o.refuses
      | none => false
    State.sceneEntries a ws (t, if bad then refused ||| 1#32 <<< (entryStrip w).val else refused)

/-- SCENE (R66 to R68). -/
def State.scene (s : State) (a : SceneArgs) (entries : List Word) : State :=
  if a.count = 0 then s.answer .badList 0
  else
    let ws := entries.take (entryCount a.count)
    let r := State.sceneEntries a ws (s, 0)
    let clamped := countTaken a.count || decide (16383 < a.duration.toNat) ||
      ws.any fun w => decide (Config.travelTop < (highHalf w).toNat)
    r.1.answer (if r.2 ≠ 0 then .partlyRefused else acceptedOutcome clamped) r.2

/-! ### The meanings -/

/-- MOVE, the strip cell command (R61). -/
def execMove (i : StripId) (a : MoveArgs) (s : State) : Host.Outcome State Fault Refusal :=
  .next (s.runCommand i (Ctx.move s.stripCount a .cell))

/-- JUMP, the strip cell command (R63). -/
def execJump (i : StripId) (a : MoveArgs) (s : State) : Host.Outcome State Fault Refusal :=
  .next (s.runCommand i (Ctx.jump s.stripCount a .cell))

/-- STOP, the strip cell command (R64). -/
def execStop (i : StripId) (s : State) : Host.Outcome State Fault Refusal :=
  .next (s.runCommand i (Ctx.stop s.stripCount))

/-- CALIBRATE, the strip cell command (R45). -/
def execCalibrate (i : StripId) (tag : Half) (s : State) : Host.Outcome State Fault Refusal :=
  .next (s.calibrate i tag)

/-- SET_CAL, the strip cell command (R51). -/
def execSetCal (i : StripId) (bottom top : Half) (s : State) : Host.Outcome State Fault Refusal :=
  .next (s.runCommand i (Ctx.setCal s.stripCount bottom top))

/-- CLEAR_STALL, the strip cell command (R44). -/
def execClearStall (i : StripId) (s : State) : Host.Outcome State Fault Refusal :=
  .next (s.runCommand i (Ctx.clearStall s.stripCount))

/-- STRIP_OFF, the strip cell command (R52). -/
def execStripOff (i : StripId) (s : State) : Host.Outcome State Fault Refusal :=
  .next (s.stripOff i)

/-- STRIP_ON, the strip cell command (R53). -/
def execStripOn (i : StripId) (s : State) : Host.Outcome State Fault Refusal :=
  .next (s.stripOn i)

/-- SCENE, the group cell command (R66). -/
def execScene (a : SceneArgs) (entries : List Word) (s : State) : Host.Outcome State Fault Refusal :=
  .next (s.scene a entries)

/-- SCENE_ENTRY, one SCENE entry taken at a strip's context (R67). -/
def execSceneEntry (i : StripId) (jump : Bool) (a : MoveArgs) (s : State) : Host.Outcome State Fault Refusal :=
  .next (s.sceneEntry i jump a)

/-- STREAM_WORD, a stream-word event taken at a strip (R70). -/
def execStreamWord (i : StripId) (w : LinkWord) (s : State) : Host.Outcome State Fault Refusal :=
  .next ((s.take (.streamWord i w)).runStrip i (Ctx.streamWord (streamPosition w)))

end Sys2Proof.Machine
end

