-- ==== Sys2Proof/Machine/Setup.lean ====
section
/-!
DEFINITION. The setup sections (R195): each read from the setup area, taken into range, and handed to its owner as one
load event, by SETUP_LOAD or by the start sequence, up to a setup word whose read fails; the meaning of SETUP_LOAD.
-/
namespace Sys2Proof.Machine

/-- The SERVO section staged for every context (R28, R29). -/
def State.stageServo (s : State) (ws : List Word) : State :=
  { s with servoLoaded := Vector.ofFn fun c => (takeServoClass ws c.val).1 }

/-- The STRIP section staged for every context (R29). -/
def State.stageStrips (s : State) (ws : List Word) : State :=
  { s with strips := Vector.ofFn fun i => { s.strips[i] with staged := (takeStripEntry ws i.val).1 } }

/-- The LINK section taken by one receiver (R136, R145). -/
def State.loadLink (s : State) (start : Bool) (ws : List Word) (k : LinkId) : State :=
  s.setLink k (s.links[k].load start (takeLinkSettings ws k.val).1 (takeSlotMap s.part.header ws k.val).1)

/-- The ATTN section taken (R205). -/
def State.loadAttn (s : State) (start : Bool) (v : AttnValues) : State :=
  let a := s.attention
  if start then
    { s with attention :=
        (a.loadAtStart .cell v.cellThreshold v.cellHold).loadAtStart .activity v.activityThreshold v.activityHold }
  else
    { s with attention := (a.load .cell v.cellThreshold v.cellHold).load .activity v.activityThreshold v.activityHold }

/-- The REPORT section staged at its three owners (R200, R127, R192). -/
def State.stageReport (s : State) (v : ReportValues) : State :=
  { s with
    reporter := { s.reporter with periodStaged := v.period }
    writer := { s.writer with holdStaged := v.hold }
    sweep := { s.sweep with periodStaged := v.sweep } }

/-- Whether any value of a section was taken into range. -/
def sectionClamped (h : HeaderCounts) (ws : List Word) : SetupSection → Bool
  | .servo => (List.range 4).any fun c => (takeServoClass ws c).2
  | .strip => (List.range 32).any fun i => (takeStripEntry ws i).2
  | .scan => (takeScan ws).2
  | .touch => (takeTouch ws).2
  | .grant => (takeGrant ws).2
  | .drive => (takeDrive ws).2
  | .meter => (List.range 4).any fun k => (takeBallistics ws k).2
  | .scale => (takeScale ws 0).2 || (takeScale ws 1).2
  | .bars => (takeBars ws).2
  | .link => (List.range 2).any fun l => (takeLinkSettings ws l).2 || (takeSlotMap h ws l).2
  | .attn => (takeAttn ws).2
  | .report => (takeReport ws).2

/-- A section handed to its owner as one load event (R195). -/
def State.handSection (s : State) (start : Bool) (ws : List Word) : SetupSection → State
  | .servo => s.stageServo ws
  | .strip => s.stageStrips ws
  | .scan =>
    { s with scanner := { s.scanner with periodStaged := (takeScan ws).1.1, prescaleStaged := (takeScan ws).1.2 } }
  | .touch => { s with touchScan := { s.touchScan with staged := (takeTouch ws).1 } }
  | .grant => s.loadGrant (takeGrant ws).1
  | .drive => { s with motors := { s.motors with prescaleStaged := (takeDrive ws).1 } }
  | .meter =>
    let profiles := Vector.ofFn fun k => (takeBallistics ws k.val).1
    { s with meters := s.meters.load profiles fun c => (channelProfile ws c.val, channelEnable ws c.val) }
  | .scale => { s with bars := { s.bars with scalesStaged := some #v[(takeScale ws 0).1, (takeScale ws 1).1] } }
  | .bars => { s with bars := { s.bars with barsStaged := some (takeBars ws).1 } }
  | .link => (s.loadLink start ws 0).loadLink start ws 1
  | .attn => s.loadAttn start (takeAttn ws).1
  | .report => s.stageReport (takeReport ws).1

/-- The words of a section as they stand in the setup area. -/
def State.sectionWords (s : State) (sec : SetupSection) : List Word := s.readWords sec.offset sec.words

/-- A section read and handed; its bit is gathered when a value of it was clamped (R195). -/
def State.loadSection (start : Bool) (acc : State × Word) (sec : SetupSection) : State × Word :=
  let ws := acc.1.sectionWords sec
  (acc.1.handSection start ws sec,
   if sectionClamped acc.1.part.header ws sec then acc.2 ||| 1#32 <<< sec.bit else acc.2)

/-- Sections read and handed one after another (R195). -/
def State.loadSections (s : State) (start : Bool) (secs : List SetupSection) : State × Word :=
  secs.foldl (State.loadSection start) (s, 0)

/-- Where the read fails that comes after `j` good ones: the sections read whole before it, and the offset of its word; none
when the sections have no more than `j` words. -/
def failingRead : List SetupSection → Nat → Option (List SetupSection × Nat)
  | [], _ => none
  | sec :: rest, j =>
    if j < sec.words then some ([], sec.offset + 4 * j)
    else (failingRead rest (j - sec.words)).map fun r => (sec :: r.1, r.2)

/-- Sections read up to a word whose read fails: the part is FAULTED, and the sections already handed stand (R195, R187). -/
def State.setupFault (s : State) (start : Bool) (secs : List SetupSection) (j : Nat) : Option State :=
  (failingRead secs j).map fun r => (s.loadSections start r.1).1.accessFault (BitVec.ofNat 32 r.2)

/-- The sections a mask selects, in the section order; bits outside the twelve are ignored (R195). -/
def maskedSections (mask : Word) : List SetupSection := SetupSection.all.filter fun sec => mask.getLsbD sec.bit

/-- The sections SETUP_LOAD reads: none with count 0. -/
def setupSections (count mask : Word) : List SetupSection := if count = 0 then [] else maskedSections mask

/-- SETUP_LOAD carried out whole (R195). -/
def State.setupLoad (s : State) (count mask : Word) (host : List HostWrite) : State :=
  if count = 0 then (s.hostWrote host).answer .badList 0
  else if setupSections count mask = [] then (s.hostWrote host).answer .done 0
  else
    let r := (s.beforeRead host).loadSections false (setupSections count mask)
    r.1.answer (if r.2 = 0 then .done else .clamped) r.2

/-- SETUP_LOAD cut by a fault at the read after `j` good ones; none when it makes no such read. -/
def State.setupLoadFault (s : State) (count mask : Word) (host : List HostWrite) (j : Nat) : Option State :=
  (s.beforeRead host).setupFault false (setupSections count mask) j

/-! ### The meaning -/

/-- SETUP_LOAD, the group cell command (R195), whole or cut by a fault. -/
def execSetupLoad (count mask : Word) (bus : Bus) (s : State) : Host.Outcome State Fault Refusal :=
  .next ((bus.fault.bind (s.setupLoadFault count mask bus.host)).getD (s.setupLoad count mask bus.host))

end Sys2Proof.Machine
end

