-- ==== Sys2Proof/Machine/Cells.lean ====
section
/-!
DEFINITION. The Cell Sweep (section 10.3) and COUNTER_CLEAR (R196): passes, visits and the words a visit writes; the
meanings of SWEEP_TIMER_EXPIRY, CELL_VISIT and COUNTER_CLEAR.
-/
namespace Sys2Proof.Machine

/-! ### COUNTER_CLEAR -/

/-- A context's event counters zeroed (R196). -/
def Strip.zeroCounters (x : Strip) : Strip := { x with arrived := 0, cut := 0, flushed := 0, stalls := 0, touches := 0 }

/-- A link's event counters zeroed (R196). -/
def LinkRx.zeroCounters (l : LinkRx) : LinkRx :=
  { l with frames := 0, short := 0, excess := 0, overruns := 0, losses := 0 }

/-- Every 16-bit event counter zeroed at its owner (R196). -/
def State.clearCounters (s : State) : State :=
  { s with
    strips := s.strips.map Strip.zeroCounters
    scanner := { s.scanner with missed := 0, refFailures := 0 }
    motors := { s.motors with expiries := 0 }
    writer := { s.writer with lostCount := 0 }
    links := s.links.map LinkRx.zeroCounters
    sweep := { s.sweep with late := 0 } }

/-- COUNTER_CLEAR, the group cell command (R196). -/
def execCounterClear (s : State) : Host.Outcome State Fault Refusal := .next (s.clearCounters.answer .done 0)

/-! ### Visits -/

/-- The offset of cell `k` of a pass: G0..G3, then S0..S31 (R192, section 10.5). -/
def cellOffset (k : Nat) : Nat := if k < 4 then Config.groupCells + 160 * k else Config.stripCells + 32 * (k - 4)

/-- The last cell of a pass. -/
def lastCell : Nat := 35

/-- The strip of cell `k` of a pass. -/
def cellStrip (k : Nat) : StripId := Fin.ofNat 32 (k - 4)

/-- The state a command leaves. -/
def afterCommand (s : State) : Host.Outcome State Fault Refusal → State
  | .next t => t
  | _ => s

/-- A cell's command delivered to the block that owns it (R193, R194); every other command is no cell's. -/
def State.deliverCommand (s : State) : Instr → State
  | .move i a => afterCommand s (execMove i a s)
  | .jump i a => afterCommand s (execJump i a s)
  | .stop i => afterCommand s (execStop i s)
  | .calibrate i tag => afterCommand s (execCalibrate i tag s)
  | .setCal i b t => afterCommand s (execSetCal i b t s)
  | .clearStall i => afterCommand s (execClearStall i s)
  | .stripOff i => afterCommand s (execStripOff i s)
  | .stripOn i => afterCommand s (execStripOn i s)
  | .scene a entries => afterCommand s (execScene a entries s)
  | .gangSet g count entries => afterCommand s (execGangSet g count entries s)
  | .meterReset count entries => afterCommand s (execMeterReset count entries s)
  | .activityFlush bus => afterCommand s (execActivityFlush bus s)
  | .setupLoad count mask bus => afterCommand s (execSetupLoad count mask bus s)
  | .counterClear => afterCommand s (execCounterClear s)
  | _ => s

/-- The command of cell `k`, from its head and its entry words (R194). -/
def cellCommand (k : Nat) (head entries : List Word) : Option Instr :=
  if k < 4 then groupCommand head entries else stripCommand (cellStrip k) head

/-- The code an outcome word takes; 0, which no visit writes, when nothing was answered. -/
def outcomeCode (o : Option Outcome) : Nat := o.elim 0 Outcome.code

/-- The words a visit hands after its command: the refused-set word of a group cell, the outcome word, and the owner word CP
(R193). -/
def State.visitWrites (s : State) (k : Nat) : List PostedWrite :=
  (if k < 4 then [{ offset := cellOffset k + 12, data := s.sweep.refused, note := .plain }] else []) ++
    [{ offset := cellOffset k + 8, data := BitVec.ofNat 32 (outcomeCode s.sweep.outcome), note := .plain },
     { offset := cellOffset k, data := 0, note := .cellOwner }]

/-- The words read ahead while cell `k` is visited. -/
def aheadWords (k : Nat) : Nat := if k < lastCell then 8 else 0

/-- The entry words read at the visit of cell `k`. -/
def entryWords (k : Nat) (head : List Word) : Nat := if k < 4 then entriesRead head else 0

/-- The next cell's head read ahead while cell `k` is visited (R193). -/
def State.lookAhead (s : State) (k : Nat) (host : List HostWrite) : State :=
  if k < lastCell then
    let t := s.beforeRead host
    { t with sweep := { t.sweep with readAhead := t.readWords (cellOffset (k + 1)) (aheadWords k) } }
  else
    let t := s.hostWrote host
    { t with sweep := { t.sweep with readAhead := [] } }

/-- The entry words of cell `k`: read for the kinds that have them, none for others (R193). -/
def State.readEntries (s : State) (k : Nat) (head : List Word) : List Word :=
  s.readWords (cellOffset k + 32) (entryWords k head)

/-- The command of a cell taken, or BAD_KIND answered (R194). -/
def State.takeCommand (s : State) (k : Nat) (head : List Word) : State :=
  match cellCommand k head (s.readEntries k head) with
  | some c => s.deliverCommand c
  | none => s.answer .badKind 0

/-- The end of a visit: the pass goes on to the next cell, or ends with the sweep count counted up and written to the
header (R192). -/
def State.visitEnd (s : State) (k : Nat) : State :=
  if k < lastCell then { s with sweep := { s.sweep with pass := some (k + 1) } }
  else
    let t : State := { s with sweep := { s.sweep with pass := none, count := s.sweep.count + 1 } }
    t.post { offset := 32, data := t.sweep.count, note := .plain }

/-- The visit of cell `k` (R193). -/
def State.visit (s : State) (k : Nat) (host : List HostWrite) : State :=
  let head := s.sweep.readAhead
  let t := s.lookAhead k host
  if isFZ (wordAt head 0) then
    let u := t.takeCommand k head
    (u.postAll (u.visitWrites k)).visitEnd k
  else t.visitEnd k

/-- A command cut by a fault at the read after `j` good ones of its own; none when it makes no such read. -/
def State.commandFault (s : State) (j : Nat) : Option Instr → Option State
  | some (.activityFlush bus) => s.flushFault bus.host j
  | some (.setupLoad count mask bus) => s.setupLoadFault count mask bus.host j
  | _ => none

/-- The visit of cell `k` cut by a fault at the read after `j` good ones: of the next cell's head, then of the entry words,
then of the command. What the command has done by then stands, and no write is handed (R187); none when the visit makes no such
read. -/
def State.visitFault (s : State) (k : Nat) (host : List HostWrite) (j : Nat) : Option State :=
  let head := s.sweep.readAhead
  let t := s.lookAhead k host
  let a := aheadWords k
  let n := entryWords k head
  if j < a then some ((s.beforeRead host).accessFault (BitVec.ofNat 32 (cellOffset (k + 1) + 4 * j)))
  else if isFZ (wordAt head 0) then
    if j < a + n then some (t.accessFault (BitVec.ofNat 32 (cellOffset k + 32 + 4 * (j - a))))
    else t.commandFault (j - (a + n)) (cellCommand k head (t.readEntries k head))
  else none

/-- CELL_VISIT (R193), whole or cut by a fault; with no pass in progress there is no visit. -/
def State.cellVisit (s : State) (bus : Bus) : State :=
  match s.sweep.pass with
  | some k => (bus.fault.bind (s.visitFault k bus.host)).getD (s.visit k bus.host)
  | none => s.hostWrote bus.host

/-- A sweep timer expiry (R192): a pass is started, the head of G0 read, or sweep-late counts up; a stopped timer does not
expire (log 3). -/
def State.sweepExpiry (s : State) (host : List HostWrite) : State :=
  match s.sweep.timer, s.sweep.pass with
  | none, _ => s.hostWrote host
  | some _, some _ =>
    ({ s with sweep := { s.sweep with late := s.sweep.late + 1, timer := some s.sweep.period } } : State).hostWrote host
  | some _, none =>
    let p := s.sweep.periodStaged
    let t : State := { s with sweep := { s.sweep with period := p, timer := some p, pass := some 0 } }
    let u := t.beforeRead host
    { u with sweep := { u.sweep with readAhead := u.readWords (cellOffset 0) 8 } }

/-! ### The meanings -/

/-- SWEEP_TIMER_EXPIRY, an expiry of the sweep timer (R192). -/
def execSweepTimerExpiry (host : List HostWrite) (s : State) : Host.Outcome State Fault Refusal :=
  .next (s.sweepExpiry host)

/-- CELL_VISIT, the visit of the cell the pass stands at (R193), whole or cut by a fault. -/
def execCellVisit (bus : Bus) (s : State) : Host.Outcome State Fault Refusal := .next (s.cellVisit bus)

end Sys2Proof.Machine
end

