-- ==== Sys2Proof/Machine/Scan.lean ====
section
/-!
DEFINITION. The Position Scanner and the Touch Scanner (chapter 1): rounds, the reference check, the warm round, and the
debouncing of touch; the meanings of SCAN_TIMER_EXPIRY, CONVERSION_COMPLETE and TOUCH_SCAN_TIMER_EXPIRY.
-/
namespace Sys2Proof.Machine

/-! ### Rounds -/

/-- The scan list: the strips below n whose state is not OFF (R5). -/
def State.scanList (s : State) : List StripId :=
  allStrips.filter fun i => i.val < s.stripCount ∧ (s.strip i).state ≠ .off

/-- A round started: staged values adopted, the list latched (R3, R5, R7). -/
def Scanner.startRound (c : Scanner) (list : List StripId) (warm : Bool) : Scanner :=
  { c with
    period := c.periodStaged, prescale := c.prescaleStaged, round := .running, warm := warm, list := list,
    position := 0 }

/-- A round ended. -/
def Scanner.endRound (c : Scanner) : Scanner := { c with round := .idle, warm := false, list := [], position := 0 }

/-- A scan timer expiry (R3, R4, R6); a stopped timer does not expire (log 3). -/
def State.scanExpiry (s : State) : State :=
  if s.scanner.timer.isSome then
    let c := if s.scanner.round = .idle then s.scanner.startRound s.scanList false
      else { s.scanner with missed := s.scanner.missed + 1 }
    { s with scanner := { c with timer := some c.period } }
  else s

/-- The reference check (R9). -/
def referencePasses (hi lo : Nat) : Bool := decide (1008 ≤ hi) && decide (lo ≤ 15)

/-- A failed reference check (R10, R11). -/
def State.referenceFailed (s : State) : State :=
  let c := s.scanner.endRound
  let t := if s.scanner.runCount = 0 then s.setCause .scan else s
  let u := { t with scanner := { c with refFailures := c.refFailures + 1, runCount := c.runCount + 1 } }
  if u.scanner.runCount = Config.referenceFaultRun then u.faultEntry .scan else u

/-- The conversion of REF_LO completed (R3, R8, R9). -/
def State.referenceDone (s : State) (lo : Nat) : State :=
  if s.scanner.warm then { s with scanner := { s.scanner with position := 2 } }
  else if referencePasses s.scanner.refHi lo then
    let c := { s.scanner with runCount := 0 }
    { s with scanner := if c.list = [] then c.endRound else { c with position := 2 } }
  else s.referenceFailed

/-- A strip's conversion completed: a sample arrival delivered, but in the warm round; the round's last one ends it, and the
warm round's end is entry to RUNNING (R3, R8, R12). -/
def State.stripDone (s : State) (i : StripId) (code : Code) : State :=
  let t := if s.scanner.warm then s else s.deliver (.sampleArrival i code)
  if s.scanner.position - 1 < s.scanner.list.length then
    { t with scanner := { t.scanner with position := t.scanner.position + 1 } }
  else
    let u : State := { t with scanner := t.scanner.endRound }
    if s.scanner.warm then u.entryRunning else u

/-- A conversion completed (R1, R3); with the converter disabled or no round running no conversion completes (R2). -/
def State.conversion (s : State) (code : Code) : State :=
  if s.scanner.enabled ∧ s.scanner.round = .running then
    let t := { s with scanner := { s.scanner with longNext := false } }
    match s.scanner.position with
    | 0 => { t with scanner := { t.scanner with refHi := code.toNat, position := 1 } }
    | 1 => t.referenceDone code.toNat
    | k + 2 =>
      match s.scanner.list[k]? with
      | some i => t.stripDone i code
      | none => t
  else s

/-! ### Touch -/

/-- A read in touch state UNTOUCHED (R19): the channel after it, and whether a touch-on comes. -/
def TouchChannel.readUntouched (c : TouchChannel) (read : Bool) (required : Nat) : TouchChannel × Bool :=
  if read then
    let n := min 17 (c.run + 1)
    if required ≤ n then ({ touched := true, run := 0 }, true) else ({ c with run := n }, false)
  else ({ c with run := 0 }, false)

/-- A read in touch state TOUCHED (R20): the channel after it, and whether a touch-off comes. -/
def TouchChannel.readTouched (c : TouchChannel) (read : Bool) (toff : Nat) : TouchChannel × Bool :=
  if read then ({ c with run := 0 }, false)
  else
    let n := min 17 (c.run + 1)
    if toff ≤ n then ({ touched := false, run := 0 }, true) else ({ c with run := n }, false)

/-- The UNTOUCHED channel with counter 0. -/
def TouchChannel.none : TouchChannel := { touched := false, run := 0 }

/-- One strip at a touch scan expiry (R18 to R22): its channel after it, and the event delivered. -/
def State.touchRead (s : State) (v : TouchValues) (read : Bool) (i : StripId) : TouchChannel × Option Instr :=
  let c := s.touchScan.chans[i]
  let x := s.strip i
  if s.stripCount ≤ i.val ∨ x.state = .off then (TouchChannel.none, Option.none)
  else if x.settings.policy = .ignore then
    (TouchChannel.none, if c.touched then some (.touchOff i) else Option.none)
  else if c.touched then
    let r := c.readTouched read v.toff
    (r.1, if r.2 then some (.touchOff i) else Option.none)
  else
    let r := c.readUntouched read (if s.drive i = 0 then v.ton else v.ton + 2)
    (r.1, if r.2 then some (.touchOn i) else Option.none)

/-- A touch scan timer expiry (R18, R23): staged values adopted, then the strips read in ascending order; a stopped timer
does not expire (log 3). -/
def State.touchExpiry (s : State) (tch : BitVec 32) : State :=
  if s.touchScan.timer then
    let v := s.touchScan.staged
    let read := fun i : StripId => s.touchRead v (tch.getLsbD i.val) i
    { s with
      touchScan := { s.touchScan with force := v, chans := Vector.ofFn fun i => (read i).1 }
      inFlight := s.inFlight ++ allStrips.filterMap fun i => (read i).2 }
  else s

/-! ### The meanings -/

/-- SCAN_TIMER_EXPIRY, an expiry of the scan timer (R3, R6). -/
def execScanTimerExpiry (s : State) : Host.Outcome State Fault Refusal := .next s.scanExpiry

/-- CONVERSION_COMPLETE, a conversion yielding a code (R3, R8 to R12). -/
def execConversionComplete (code : Code) (s : State) : Host.Outcome State Fault Refusal := .next (s.conversion code)

/-- TOUCH_SCAN_TIMER_EXPIRY, an expiry of the touch scan timer with the levels of TCH0..TCH31 (R18). -/
def execTouchScanTimerExpiry (tch : BitVec 32) (s : State) : Host.Outcome State Fault Refusal :=
  .next (s.touchExpiry tch)

end Sys2Proof.Machine
end

