-- ==== Sys2Proof/Machine/Control.lean ====
section
/-!
DEFINITION. Part Control (section 10.1), the Report Writer's timer (R201), the Attention Unit's registers and hold timers
(R203, R204) and part time (R188); the meanings of POWER_ON_RESET, START, HEADER_CHECK, START_SEQUENCE, PART_STOP,
STOP_SEQUENCE_END, SOFT_RESET, IBASE_WRITE, ATTN_WRITE, AMASK_WRITE, REGISTER_WRITE, BUS_FAULT, REPORT_TIMER_EXPIRY,
COALESCING_HOLD_EXPIRY and PART_TIME_COUNT.
-/
namespace Sys2Proof.Machine

/-! ### Resets -/

/-- Power-on reset (R186). The commands that wait, memory and the level of MSUP_OK are not the part's own. -/
def State.powerOnReset (s : State) : State :=
  { State.reset with pending := s.pending, memory := s.memory, msupOk := s.msupOk }

/-- A context after SOFT_RESET: the calibration record is kept (R26, R185). -/
def Strip.softReset (x : Strip) : Strip := { Strip.reset with cal := x.cal }

/-- SOFT_RESET (R185): every block at its soft-reset values, IBASE and the calibration records kept; the header counts and
the image base in force stand until the next START (R178, R180). -/
def State.softReset (s : State) : State :=
  { State.reset with
    pending := s.pending, memory := s.memory, msupOk := s.msupOk
    part := { Part.reset with ibase := s.part.ibase, base := s.part.base, header := s.part.header }
    strips := s.strips.map Strip.softReset }

/-! ### START -/

/-- START (R179, R180): in HALTED, with no check in progress, the header check begins on a copy of IBASE; anywhere else it
is refused. -/
def State.start (s : State) : State :=
  if s.part.state = .halted ∧ s.part.checking = false then
    { s with part := { s.part with base := s.part.ibase, checking := true } }
  else { s with part := { s.part with refused := .start } }

/-- The first header field that fails, in the order of the table of R180. -/
def headerFailure (h : HeaderCounts) : Option HeaderField :=
  if h.version ≠ Config.layoutVersion then some .version
  else if h.strips < 1 ∨ 32 < h.strips then some .strips
  else if 64 < h.channels then some .channels
  else if h.pages < 2 ∨ 8 < h.pages then some .pages
  else if h.pageSize < 64 ∨ 256 < h.pageSize then some .pageSize
  else none

/-- The header words as counts. -/
def headerOf (ws : List Word) : HeaderCounts :=
  { version := valueAt ws 0, strips := valueAt ws 1, channels := valueAt ws 2, pages := valueAt ws 3,
    pageSize := valueAt ws 4 }

/-- The start-result word handed to the header (R180, R181, section 10.5). -/
def State.postResult (s : State) : State := s.post { offset := 48, data := s.part.resultWord, note := .plain }

/-- The header check on the five words read (R180). -/
def State.checkHeader (s : State) (h : HeaderCounts) : State :=
  match headerFailure h with
  | some f =>
    let t : State :=
      { s with part := { s.part with checking := false, startResult := .imageInvalid, failing := some f } }
    t.postResult.setCause .state
  | none =>
    { s with part := { s.part with
        checking := false, startResult := .noResult, failing := none, header := h, state := .starting,
        sequenceDue := true, time := 0 } }

/-- HEADER_CHECK: the header words read and checked; with no check in progress there is none (R180). -/
def State.headerCheck (s : State) (host : List HostWrite) : State :=
  if s.part.checking then
    let t := s.beforeRead host
    t.checkHeader (headerOf (t.readWords 0 5))
  else s.hostWrote host

/-- The start result once every section is loaded, and its word handed to the header (R181). -/
def State.startResult (s : State) (clamped : Word) : State :=
  let t : State := { s with part := { s.part with startResult := if clamped = 0 then .ok else .clamped } }
  t.postResult

/-- The writer at START (R122). -/
def Writer.begin (w : Writer) (h : HeaderCounts) : Writer :=
  { w with
    state := .seeking, page := 0, pages := h.pages, pageSize := h.pageSize, holdTime := w.holdStaged, base := none,
    gap := false, hold := none, deadSeek := false }

/-- Step 2: the Activity Writer, the Grant Arbiter and the meter channels (R181). -/
def State.startBlocks (s : State) : State :=
  ({ s with writer := s.writer.begin s.part.header, meters := s.meters.clearAll } : State).readSupply

/-- Step 3: the links and the display (R181). -/
def State.startDisplay (s : State) : State :=
  { s with
    links := s.links.map fun l => if l.settings.enable then l.enterAcquiring else l
    meters := { s.meters with decay := true }
    bars := s.bars.refresh s.meters.chans }

/-- A strip's state at START (R26). -/
def Strip.begin (x : Strip) (below : Bool) : Strip :=
  { x with state := if below then x.restState else .off, pRepSet := false }

/-- Step 4: the strip states (R181). -/
def State.startStrips (s : State) : State :=
  { s with strips := Vector.ofFn fun i => s.strips[i].begin (decide (i.val < s.stripCount)) }

/-- Step 5: the converter enabled and the warm round begun (R181, R8). -/
def State.startConverter (s : State) : State :=
  let list := allStrips.filter fun i => decide (i.val < s.stripCount)
  { s with scanner := { s.scanner.startRound list true with enabled := true, longNext := true, runCount := 0 } }

/-- STOP in STARTING: the start abandoned (R184). -/
def State.abandonStart (s : State) : State :=
  let t := s.leaveLinks
  ({ t with
    inFlight := t.inFlight.filter isArrival
    part := { t.part with state := .halted, sequenceDue := false }
    scanner := t.scanner.disable
    arbiter := { t.arbiter with recovery := none }
    writer := { t.writer with state := .stopped, hold := none, lost := 0 }
    meters := { t.meters with decay := false }
    bars := t.bars.blank } : State).setCause .state

/-- One stage of the start sequence: a section loaded, the start result, or one of steps 2 to 5 (R181). -/
inductive StartStage
  | load (sec : SetupSection)
  | result | blocks | display | strips | converter
  deriving DecidableEq, Repr

/-- The start sequence in its order (R181). -/
def startStages : List StartStage :=
  SetupSection.all.map .load ++ [.result, .blocks, .display, .strips, .converter]

/-- One stage taken, with the sections in which a value was clamped so far. -/
def State.startStage (acc : State × Word) : StartStage → State × Word
  | .load sec => State.loadSection true acc sec
  | .result => (acc.1.startResult acc.2, acc.2)
  | .blocks => (acc.1.startBlocks, acc.2)
  | .display => (acc.1.startDisplay, acc.2)
  | .strips => (acc.1.startStrips, acc.2)
  | .converter => (acc.1.startConverter, acc.2)

/-- Stages taken one after another. -/
def State.startThrough (s : State) (stages : List StartStage) : State := (stages.foldl State.startStage (s, 0)).1

/-- The part as its start sequence begins: part time and sweep count 0, and the writes ahead of its first read issued. -/
def State.startBegun (s : State) (host : List HostWrite) : State :=
  ({ s with
    part := { s.part with sequenceDue := false, time := 0 }
    sweep := { s.sweep with count := 0 } } : State).beforeRead host

/-- The start sequence as far as a cut lets it come (R181): whole without one; up to a STOP, which abandons the start (R184);
or up to a setup word whose read fails, where the part is FAULTED with the sections already loaded standing. A read beyond the
last setup word is none. -/
def State.startCut (s : State) : Option StartCut → State
  | none => s.startThrough startStages
  | some (.stop n) => (s.startThrough (startStages.take n)).abandonStart
  | some (.fault j) => (s.setupFault true SetupSection.all j).getD (s.startThrough startStages)

/-- START_SEQUENCE (R181). -/
def State.startSequence (s : State) (bus : StartBus) : State :=
  if s.part.sequenceDue then (s.startBegun bus.host).startCut bus.cut else s.hostWrote bus.host

/-! ### STOP -/

/-- The events that entry to STOPPING leaves under way: those between strips and arbiter, samples already delivered
(R13), and meter words (R149). -/
def staysInFlight : Instr → Bool
  | .sampleArrival _ _ | .meterWord _ _ => true
  | e => grantEvent e

/-- Whether the STOP sequence has a record to hand. -/
def State.stopHands (s : State) : Bool :=
  (List.finRange 8).any (fun g => (s.gang g).activity.isSome) ||
    allStrips.any fun i =>
      let x := s.strip i
      x.state != .off && (x.current.isSome || !x.queue.isEmpty || x.calRun.isSome)

/-- The blocks stopped at entry to STOPPING (R183, R117, R2, R24, R192, R200). -/
def State.enterStopping (s : State) : State :=
  { s with
    inFlight := s.inFlight.filter staysInFlight
    part := { s.part with state := .stopping, stop := .handing }
    motors := s.motors.silence
    scanner := s.scanner.disable
    touchScan := s.touchScan.stop
    sweep := s.sweep.stop
    reporter := { s.reporter with timer := none } }

/-- A GANG record of event end for a gang with activity (R100). -/
def State.endGang (s : State) (g : GangId) : State :=
  match (s.gang g).activity with
  | some a => s.handRecord (.gang g a.leader .ended)
  | none => s

/-- Steps 1 and 2 of the STOP sequence (R183): the gangs, in ascending id, then the strips, from S0 upward; the returns and
withdrawals they make are taken at the arbiter, and grants decided on the way come back (R111). -/
def State.stopWork (s : State) : State :=
  let t := ((List.finRange 8).foldl State.endGang s).endActivities
  (allStrips.foldl (fun t i => t.runStrip i Ctx.endWork) t).settleGrants

/-- The owner read at the end of the sequence, when the writer is SEEKING with records queued (R131). -/
def State.lastOwnerRead (s : State) : State :=
  if s.writer.state = .seeking ∧ s.writer.queue ≠ [] then s.deliver (.pageOwnerRead []) else s

/-- The last record of the STOP sequence handed: the drain begins (R131). -/
def State.beginDrain (s : State) : State := { s with part := { s.part with stop := .drain } }

/-- STOP in RUNNING (R183). A writer that is SEEKING reads the owner for each record handed (R123), behind the writes ahead
of the read. -/
def State.stopRunning (s : State) (host : List HostWrite) : State :=
  let t := if s.writer.state = .seeking ∧ s.stopHands then s.beforeRead host else s.hostWrote host
  t.enterStopping.stopWork.beginDrain.lastOwnerRead.advanceStop

/-- STOP by part state (R179, R183, R184). -/
def State.partStop (s : State) (host : List HostWrite) : State :=
  match s.part.state with
  | .running => s.stopRunning host
  | .starting => (s.hostWrote host).abandonStart
  | .halted | .stopping | .faulted => ({ s with part := { s.part with refused := .stop } } : State).hostWrote host

/-- The end of the STOP sequence (R183): HALTED, once the last writes have been issued. -/
def State.stopEnd (s : State) : State :=
  if s.part.state = .stopping ∧ s.part.stop = .lastWrites ∧ s.posted = [] then
    { s with
      inFlight := s.inFlight.filter isArrival
      part := { s.part with state := .halted, stop := .idle }
      meters := { s.meters with decay := false }
      writer := { s.writer with lost := 0, deadSeek := false }
      arbiter := { s.arbiter with recovery := none }
      attention := s.attention.flushBoth.set .state }
  else s

/-! ### Registers -/

/-- A write to IBASE (R178). -/
def State.writeIbase (s : State) (w : Word) : State :=
  if s.part.state = .halted then { s with part := { s.part with ibase := w &&& 0xFFFF0000#32 } } else s

/-- A write to ATTN (R203). -/
def State.writeAttn (s : State) (w : Word) : State := { s with attention := s.attention.writeAttn w }

/-- A write to AMASK (R203). -/
def State.writeMask (s : State) (w : Word) : State := { s with attention := s.attention.writeMask w }

/-- A write to PCTL by its code; any other code is ignored (R179). -/
def State.writePctl (s : State) (w : Word) : State :=
  match w.toNat with
  | 1 => s.start
  | 2 => s.partStop []
  | 3 => s.softReset
  | _ => s

/-- A write at a register offset of the slave port (section 10.5). One without a meaning is ignored (R179). -/
def State.writeRegister (s : State) (offset w : Word) : State :=
  match offset.toNat with
  | 0x00 => s.writeIbase w
  | 0x04 => s.writePctl w
  | 0x10 => s.writeAttn w
  | 0x14 => s.writeMask w
  | _ => s

/-! ### Faults, reports, attention and time -/

/-- A report timer expiry (R200, R201): with no report being written one is started, and a staged period adopted; a stopped
timer does not expire (log 3). -/
def State.reportExpiry (s : State) : State :=
  if s.reporter.timer.isSome then
    if s.reporter.run = none then
      let p := s.reporter.periodStaged
      ({ s with reporter := { s.reporter with period := p, timer := some p } } : State).beginReport.pump
    else { s with reporter := { s.reporter with timer := some s.reporter.period } }
  else s

/-- Part time counted up (R188). -/
def State.countTime (s : State) : State :=
  if s.part.state.metering then { s with part := { s.part with time := s.part.time + 1 } } else s

/-! ### The meanings -/

/-- POWER_ON_RESET, a low level of RESETN (R186). -/
def execPowerOnReset (s : State) : Host.Outcome State Fault Refusal := .next s.powerOnReset

/-- START, its code written to PCTL (R180). -/
def execStart (s : State) : Host.Outcome State Fault Refusal := .next s.start

/-- HEADER_CHECK, the header words read (R180). -/
def execHeaderCheck (host : List HostWrite) (s : State) : Host.Outcome State Fault Refusal := .next (s.headerCheck host)

/-- START_SEQUENCE, the start sequence at entry to STARTING (R181). -/
def execStartSequence (bus : StartBus) (s : State) : Host.Outcome State Fault Refusal :=
  .next (s.startSequence bus)

/-- PART_STOP, the STOP code written to PCTL (R183, R184). -/
def execPartStop (host : List HostWrite) (s : State) : Host.Outcome State Fault Refusal := .next (s.partStop host)

/-- STOP_SEQUENCE_END, the end of the STOP sequence (R183). -/
def execStopSequenceEnd (s : State) : Host.Outcome State Fault Refusal := .next s.stopEnd

/-- SOFT_RESET, its code written to PCTL (R185). -/
def execSoftReset (s : State) : Host.Outcome State Fault Refusal := .next s.softReset

/-- IBASE_WRITE, a write to IBASE (R178). -/
def execIbaseWrite (w : Word) (s : State) : Host.Outcome State Fault Refusal := .next (s.writeIbase w)

/-- ATTN_WRITE, a write to ATTN (R203). -/
def execAttnWrite (w : Word) (s : State) : Host.Outcome State Fault Refusal := .next (s.writeAttn w)

/-- AMASK_WRITE, a write to AMASK (R203). -/
def execAmaskWrite (w : Word) (s : State) : Host.Outcome State Fault Refusal := .next (s.writeMask w)

/-- REGISTER_WRITE, a write of the slave port by its offset (R179, section 10.5). -/
def execRegisterWrite (offset w : Word) (s : State) : Host.Outcome State Fault Refusal :=
  .next (s.writeRegister offset w)

/-- BUS_FAULT, an image access that fails (R187, R190). -/
def execBusFault (offset : Word) (s : State) : Host.Outcome State Fault Refusal := .next (s.busFault offset)

/-- REPORT_TIMER_EXPIRY, an expiry of the report timer (R201). -/
def execReportTimerExpiry (s : State) : Host.Outcome State Fault Refusal := .next s.reportExpiry

/-- COALESCING_HOLD_EXPIRY, the expiry of a coalescing hold timer (R204). -/
def execCoalescingHoldExpiry (which : Coalesced) (s : State) : Host.Outcome State Fault Refusal :=
  .next { s with attention := s.attention.holdExpiry which }

/-- PART_TIME_COUNT, one millisecond of part time (R188). -/
def execPartTimeCount (s : State) : Host.Outcome State Fault Refusal := .next s.countTime

end Sys2Proof.Machine
end

