-- ==== Sys2Proof/Machine/Dispatch.lean ====
section
/-!
DEFINITION. One arm per command, each one call of its meaning.
-/
namespace Sys2Proof.Machine

/-- The effect of a command on everything but the queue. -/
def exec (i : Instr) (s : State) : Host.Outcome State Fault Refusal :=
  match i with
  | .powerOnReset => Sys2Proof.Machine.execPowerOnReset s
  | .start => Sys2Proof.Machine.execStart s
  | .headerCheck host => Sys2Proof.Machine.execHeaderCheck host s
  | .startSequence bus => Sys2Proof.Machine.execStartSequence bus s
  | .partStop host => Sys2Proof.Machine.execPartStop host s
  | .stopSequenceEnd => Sys2Proof.Machine.execStopSequenceEnd s
  | .softReset => Sys2Proof.Machine.execSoftReset s
  | .ibaseWrite value => Sys2Proof.Machine.execIbaseWrite value s
  | .attnWrite value => Sys2Proof.Machine.execAttnWrite value s
  | .amaskWrite value => Sys2Proof.Machine.execAmaskWrite value s
  | .registerWrite offset value => Sys2Proof.Machine.execRegisterWrite offset value s
  | .busFault offset => Sys2Proof.Machine.execBusFault offset s
  | .scanTimerExpiry => Sys2Proof.Machine.execScanTimerExpiry s
  | .conversionComplete code => Sys2Proof.Machine.execConversionComplete code s
  | .sampleArrival strip code => Sys2Proof.Machine.execSampleArrival strip code s
  | .touchScanTimerExpiry tch => Sys2Proof.Machine.execTouchScanTimerExpiry tch s
  | .touchOn strip => Sys2Proof.Machine.execTouchOn strip s
  | .touchOff strip => Sys2Proof.Machine.execTouchOff strip s
  | .grantRequest strip priority => Sys2Proof.Machine.execGrantRequest strip priority s
  | .grantWithdrawal strip => Sys2Proof.Machine.execGrantWithdrawal strip s
  | .grantReturn strip => Sys2Proof.Machine.execGrantReturn strip s
  | .grant strip => Sys2Proof.Machine.execGrant strip s
  | .supplyLow => Sys2Proof.Machine.execSupplyLow s
  | .msupOkRise => Sys2Proof.Machine.execMsupOkRise s
  | .recoveryTimerExpiry => Sys2Proof.Machine.execRecoveryTimerExpiry s
  | .pwmPeriodStart strip => Sys2Proof.Machine.execPwmPeriodStart strip s
  | .driveExpiry strip => Sys2Proof.Machine.execDriveExpiry strip s
  | .streamWord strip word => Sys2Proof.Machine.execStreamWord strip word s
  | .gangJoin strip j => Sys2Proof.Machine.execGangJoin strip j s
  | .followUpdate strip pL => Sys2Proof.Machine.execFollowUpdate strip pL s
  | .reOffset strip pL => Sys2Proof.Machine.execReOffset strip pL s
  | .gangEnd strip => Sys2Proof.Machine.execGangEnd strip s
  | .move strip args => Sys2Proof.Machine.execMove strip args s
  | .jump strip args => Sys2Proof.Machine.execJump strip args s
  | .stop strip => Sys2Proof.Machine.execStop strip s
  | .calibrate strip tag => Sys2Proof.Machine.execCalibrate strip tag s
  | .setCal strip bottom top => Sys2Proof.Machine.execSetCal strip bottom top s
  | .clearStall strip => Sys2Proof.Machine.execClearStall strip s
  | .stripOff strip => Sys2Proof.Machine.execStripOff strip s
  | .stripOn strip => Sys2Proof.Machine.execStripOn strip s
  | .scene args entries => Sys2Proof.Machine.execScene args entries s
  | .sceneEntry strip jump args => Sys2Proof.Machine.execSceneEntry strip jump args s
  | .gangSet gang count entries => Sys2Proof.Machine.execGangSet gang count entries s
  | .meterReset count entries => Sys2Proof.Machine.execMeterReset count entries s
  | .activityFlush bus => Sys2Proof.Machine.execActivityFlush bus s
  | .setupLoad count mask bus => Sys2Proof.Machine.execSetupLoad count mask bus s
  | .counterClear => Sys2Proof.Machine.execCounterClear s
  | .sweepTimerExpiry host => Sys2Proof.Machine.execSweepTimerExpiry host s
  | .cellVisit bus => Sys2Proof.Machine.execCellVisit bus s
  | .postedWriteIssued => Sys2Proof.Machine.execPostedWriteIssued s
  | .pageOwnerRead host => Sys2Proof.Machine.execPageOwnerRead host s
  | .recordPlacement => Sys2Proof.Machine.execRecordPlacement s
  | .activityRetryExpiry => Sys2Proof.Machine.execActivityRetryExpiry s
  | .pageHoldExpiry => Sys2Proof.Machine.execPageHoldExpiry s
  | .frameSync link before dat => Sys2Proof.Machine.execFrameSync link before dat s
  | .wordComplete link samples => Sys2Proof.Machine.execWordComplete link samples s
  | .linkTimeout link => Sys2Proof.Machine.execLinkTimeout link s
  | .meterServiceEnd => Sys2Proof.Machine.execMeterServiceEnd s
  | .meterWord chan word => Sys2Proof.Machine.execMeterWord chan word s
  | .decayExpiry => Sys2Proof.Machine.execDecayExpiry s
  | .phaseTimerExpiry => Sys2Proof.Machine.execPhaseTimerExpiry s
  | .rowLitEnd => Sys2Proof.Machine.execRowLitEnd s
  | .reportTimerExpiry => Sys2Proof.Machine.execReportTimerExpiry s
  | .coalescingHoldExpiry which => Sys2Proof.Machine.execCoalescingHoldExpiry which s
  | .partTimeCount => Sys2Proof.Machine.execPartTimeCount s

end Sys2Proof.Machine
end

