-- ==== Sys2Proof/Safety.lean ====
section
/-!
DEFINITION. What holds of every state of a safe run: the laws the manual states of its queues, its meters, its grants, its
positions, MOTOR_EN, its activity pages and its report banks, with what they rest on. Claims are stated in these terms.
-/
namespace Sys2Proof.Machine

/-- Memory has its one canonical form (the model's own law). -/
def State.MemoryOk (s : State) : Prop := s.memory.wf = true

/-- No queue holds more than its places: activity queue 16 (R120), posted-write queue 8 (R189), Move Queues 8 (R56),
receive queues 8 (R147); the lost count does not pass 65535 (R121), nor a pending count 255 (R204). -/
structure State.QueuesOk (s : State) : Prop where
  activity : s.writer.queue.length ≤ Config.activityQueueSize
  posted   : s.posted.length ≤ Config.postedQueueSize
  moves    : ∀ i : StripId, (s.strip i).queue.length ≤ Config.moveQueueSize
  receive  : ∀ k : LinkId, s.links[k].queue.length ≤ Config.receiveQueueSize
  lost     : s.writer.lost ≤ Config.lostMax
  cell     : s.attention.cell.pending ≤ 255
  journal  : s.attention.activity.pending ≤ 255

/-- A channel's meter value lies in 0..30720 fu, its peak hold in 0..480 lu and at or above the level, its over run in
0..16 (R153, R165). -/
structure Channel.Lawful (c : Channel) : Prop where
  value : c.m ≤ 30720
  peak  : c.hv ≤ 480
  order : c.level ≤ c.hv
  run   : c.overRun ≤ Config.overRunMax

/-- Every channel is lawful; the rise fractions do not pass 256 (R154). -/
structure State.MetersOk (s : State) : Prop where
  chans : ∀ c : ChanId, s.meters.chans[c].Lawful
  rises : ∀ k : Fin 4, s.meters.profiles[k].rise ≤ 256

/-- The grant set never holds more strips than the full budget G in force (R105); a strip is granted or waiting at most once
(section 5.1); the low budget, and a pending full budget, do not pass G (R102). -/
structure State.GrantsOk (s : State) : Prop where
  bounded : s.arbiter.grantSet.length ≤ s.arbiter.full
  once    : (s.arbiter.grantSet ++ s.arbiter.waiting.map (·.strip)).Nodup
  low     : s.arbiter.low ≤ s.arbiter.full
  pending : ∀ g, s.arbiter.pendingFull = some g → g ≤ s.arbiter.full ∧ s.arbiter.low ≤ g

/-- A context's travel positions lie in 0..4095, its code in 0..1023 and its virtual position in −4095..8190 (sections
1.5 and 4.4); its calibration record, while valid, spans at least 512 codes (R14). -/
structure Strip.Lawful (x : Strip) : Prop where
  code     : x.r ≤ 1023
  position : x.p ≤ Config.travelTop
  reported : x.pRep ≤ Config.travelTop
  virtual  : Config.virtualLow ≤ x.v ∧ x.v ≤ Config.virtualHigh
  record   : x.cal.valid = true → x.cal.bottom + Config.leastSpan ≤ x.cal.top

/-- Every context is lawful. -/
def State.PositionsOk (s : State) : Prop := ∀ i : StripId, (s.strip i).Lawful

/-- MOTOR_EN is high in RUNNING and low in every other part state (R117); the header check is made in HALTED, the start
sequence in STARTING before it enables the converter (R180, R181), the converter is enabled in STARTING and RUNNING only (R2),
its warm round runs in STARTING (R8), the STOP sequence runs in STOPPING (R183), and the report timer in RUNNING (R200). -/
structure State.ControlOk (s : State) : Prop where
  motors   : s.motors.enable = true ↔ s.part.state = .running
  check    : s.part.checking = true → s.part.state = .halted
  sequence : s.part.sequenceDue = true → s.part.state = .starting ∧ s.scanner.enabled = false
  scan     : s.scanner.enabled = true → s.part.state = .starting ∨ s.part.state = .running
  warm     : s.scanner.enabled = true → s.scanner.warm = true → s.part.state = .starting
  stop     : s.part.stop ≠ .idle → s.part.state = .stopping
  report   : s.reporter.timer ≠ none → s.part.state = .running

/-- The header counts R180 accepts. -/
structure HeaderCounts.Accepted (h : HeaderCounts) : Prop where
  strips   : 1 ≤ h.strips ∧ h.strips ≤ 32
  channels : h.channels ≤ 64
  pages    : 2 ≤ h.pages ∧ h.pages ≤ 8
  size     : 64 ≤ h.pageSize ∧ h.pageSize ≤ 256

/-- The used words of the page in hand never exceed its page size (R124), the writer in service stands at one of its pages
(R122), and the hold timer runs with a page in hand only (R127). -/
structure State.PagesOk (s : State) : Prop where
  used    : s.writer.state = .filling → Config.emptyPage ≤ s.writer.used ∧ s.writer.used ≤ s.writer.pageSize
  service : s.writer.state ≠ .stopped →
    64 ≤ s.writer.pageSize ∧ 2 ≤ s.writer.pages ∧ s.writer.page < s.writer.pages
  hold    : s.writer.hold ≠ none → s.writer.state = .filling
  header  : s.part.sequenceDue = true → s.part.header.Accepted

/-- Nothing but the last of a report's words ends the report. -/
def endsLast : List PostedWrite → Bool
  | [] => true
  | [_] => true
  | w :: ws => w.note != .reportEnd && endsLast ws

/-- The bank being written is never the one the selector names, until word 9 has been handed (R201). No report is being
written in HALTED or STARTING (R200, R202). -/
structure State.ReportOk (s : State) : Prop where
  bank    : ∀ r, s.reporter.run = some r → r.bank ≠ s.reporter.bank ∨ (r.next = 100 ∧ r.words = [])
  records : ∀ r, s.reporter.run = some r → r.next < 100 → ∀ w ∈ r.words, w.note ≠ .reportEnd
  last    : ∀ r, s.reporter.run = some r → endsLast r.words = true ∧ r.next ≤ 100
  idle    : s.part.state = .halted ∨ s.part.state = .starting → s.reporter.run = none
  ended   : s.part.stop = .lastWrites → s.reporter.run = none

end Sys2Proof.Machine
end

