-- ==== Sys2Proof/WellFormed.lean ====
section
/-!
DEFINITION. Which commands can come: the ranges the manual gives the operands that their types do not already bound.
The meanings do not rely on it.
-/
namespace Sys2Proof

/-- A host write lies on a word. -/
def HostWrite.aligned (w : HostWrite) : Bool := w.addr.toNat % 4 == 0

/-- Every host write of a list lies on a word. -/
def hostAligned (ws : List HostWrite) : Bool := ws.all HostWrite.aligned

/-- A 16-bit link word holds 16 bits (R139). -/
def LinkWord.fits (w : LinkWord) : Bool := decide (w.value.toNat < 2 ^ w.len.bits)

/-- A travel position, 0..4095. -/
def onTravel (p : Nat) : Bool := decide (p ≤ Config.travelTop)

/-- The entry words of a group command: count words, a count above 32 taken as 32 (R193). -/
def entriesMatch (count : Word) (entries : List Word) : Bool := entries.length == min 32 count.toNat

/-- The edges before a sync leave LKFS low, so that the next high sample is a rise (R138). -/
def lowBefore (samples : List LinkSample) : Bool := samples.getLast?.all fun x => !x.fs

/-- A cut of the start sequence falls at one of its 708 setup words or after one of its 17 stages but the last (R181). -/
def StartCut.inRange : StartCut → Bool
  | .fault reads => decide (reads < Config.setupWords)
  | .stop stages => decide (stages < Config.startStages)

/-- Whether a command can come. -/
def Instr.wellFormed : Instr → Bool
  | .headerCheck host | .partStop host | .sweepTimerExpiry host | .pageOwnerRead host => hostAligned host
  | .activityFlush bus | .setupLoad _ _ bus | .cellVisit bus => hostAligned bus.host
  | .startSequence bus => hostAligned bus.host && bus.cut.all StartCut.inRange
  | .registerWrite offset _ => offset.toNat % 4 == 0
  | .busFault offset => offset.toNat % 4 == 0 && decide (offset.toNat < 0x8000)
  | .streamWord _ w | .meterWord _ w => w.fits
  | .gangJoin _ j => onTravel j.pL
  | .followUpdate _ pL | .reOffset _ pL => onTravel pL
  | .scene a entries => entriesMatch a.count entries
  | .gangSet _ count entries | .meterReset count entries => entriesMatch count entries
  | .frameSync _ before _ => lowBefore before
  | .wordComplete _ samples => !samples.isEmpty
  | .powerOnReset | .start | .stopSequenceEnd | .softReset | .ibaseWrite _ | .attnWrite _ | .amaskWrite _ => true
  | .scanTimerExpiry | .conversionComplete _ | .sampleArrival _ _ | .touchScanTimerExpiry _ | .touchOn _ => true
  | .touchOff _ | .grantRequest _ _ | .grantWithdrawal _ | .grantReturn _ | .grant _ | .supplyLow => true
  | .msupOkRise | .recoveryTimerExpiry | .pwmPeriodStart _ | .driveExpiry _ | .gangEnd _ | .move _ _ => true
  | .jump _ _ | .stop _ | .calibrate _ _ | .setCal _ _ _ | .clearStall _ | .stripOff _ | .stripOn _ => true
  | .sceneEntry _ _ _ | .counterClear | .postedWriteIssued | .recordPlacement | .activityRetryExpiry => true
  | .pageHoldExpiry | .linkTimeout _ | .meterServiceEnd | .decayExpiry | .phaseTimerExpiry | .rowLitEnd => true
  | .reportTimerExpiry | .coalescingHoldExpiry _ | .partTimeCount => true

end Sys2Proof
end

