-- ==== Sys2Proof/Certificates/Slice0/Obligations.lean ====
section
/-!
DEFINITION. The statements for the provers, chapter by chapter from the manual's numbered rules, then the laws that every
step keeps. A result is stated as the whole next state: what an equation does not name is unchanged.
-/
open Sys2Proof Sys2Proof.Machine

/-! ### The machine -/

/-- A step takes the command at the front of the queue and runs it with the queue's rest; on an empty queue the part idles
(the model's choice, log 1). -/
def Obligations.StepRunsFrontCommand : Prop :=
  (∀ (c : Instr) (rest : List Instr) (s : State),
    step { s with pending := c :: rest } = exec c { s with pending := rest }) ∧
  ∀ s : State, s.pending = [] → step s = .next s

/-- Every command completes, and leaves the commands that wait as they are (section 10.1: the part is stopped by nothing but
its own part states). -/
def Obligations.EveryCommandCompletes : Prop :=
  ∀ (c : Instr) (s : State), ∃ t, exec c s = .next t ∧ t.pending = s.pending

/-! ### Chapter 10: part control -/

/-- The values a reset gives the blocks, where the manual states them: scanner and touch scanner (R1, R4, R23, R24), servo classes
and STRIP entries (R28, R29), gangs (R87), arbiter (R101), outputs (R112), writer (R122, R127), links (R135), the Meter Engine
(R148, R153, R154), bars (R170), sweep (R192), reports (R200) and attention (R203, R205). -/
def Sys2Proof.Machine.AtResetValues (t : State) : Prop :=
  let settings : StripSettings :=
    { servoClass := 0, priority := 4, policy := .active, release := .stay, trail := 0, source := .cells, jitter := 3 }
  let servo : ServoClass :=
    { vmax := 24, kp := 48, umin := 40, deadband := 6, settled := 4, stallErr := 600, limit := 400, calDuty := 120 }
  let touch : TouchValues := { threshold := 8, ton := 2, toff := 6 }
  let coalescing : Coalescing :=
    { pending := 0, timer := none, threshold := 0, hold := 0, thresholdStaged := none, holdStaged := none }
  (t.scanner.enabled = false ∧ t.scanner.timer = none ∧ t.scanner.round = .idle ∧ t.scanner.period = 500 ∧
    t.scanner.periodStaged = 500 ∧ t.scanner.prescale = 16 ∧ t.scanner.prescaleStaged = 16 ∧ t.scanner.list = [] ∧
    t.scanner.runCount = 0 ∧ t.scanner.missed = 0 ∧ t.scanner.refFailures = 0) ∧
  (t.touchScan.timer = false ∧ t.touchScan.force = touch ∧ t.touchScan.staged = touch ∧
    ∀ i : StripId, t.touchScan.chans[i] = { touched := false, run := 0 }) ∧
  ((∀ c : Fin 4, t.servoLoaded[c] = servo) ∧
    ∀ i : StripId, (t.strip i).settings = settings ∧ (t.strip i).staged = settings ∧ (t.strip i).servo = servo) ∧
  (∀ g : GangId, (t.gang g).members = [] ∧ (t.gang g).activity = none) ∧
  t.arbiter = {
    grantSet := [], waiting := [], full := 12, pendingFull := none, low := 4, floor := 3, supply := .ok
    recovery := none } ∧
  (t.motors.enable = false ∧ t.motors.prescaleStaged = 4 ∧ t.motors.expiries = 0 ∧ ∀ i : StripId,
    t.motors.chans[i] = { held := 0, duty := 0, dir := false, waiting := none, expiry := none, prescale := 4 }) ∧
  (t.writer.state = .stopped ∧ t.writer.queue = [] ∧ t.writer.held = [] ∧ t.writer.page = 0 ∧ t.writer.hold = none ∧
    t.writer.holdTime = 20 ∧ t.writer.holdStaged = 20 ∧ t.writer.lost = 0 ∧ t.writer.lostCount = 0) ∧
  (∀ k : LinkId, t.links[k].state = .off ∧ t.links[k].queue = [] ∧ t.links[k].staged = none ∧ t.links[k].timeout = none ∧
    t.links[k].settings = { enable := false, len := .w24, slots := 8, sync := .word, timeout := 5 } ∧
    ∀ j : Fin 32, t.links[k].map[j] = .null) ∧
  (t.input.service = none ∧ t.input.last = 1 ∧ t.meters.decay = false) ∧
  (∀ c : ChanId, t.meters.chans[c] = {
    m := 0, hv := 0, hold := .ms 0, isOver := false, overRun := 0, overTime := .stopped, nofeed := true, profile := 0
    enable := true }) ∧
  (∀ k : Fin 4, t.meters.profiles[k].overLevel = 480 ∧ t.meters.profiles[k].overCount = 3 ∧
    t.meters.profiles[k].overHold = 2000 ∧ (t.meters.profiles[k].rise, t.meters.profiles[k].decay,
      t.meters.profiles[k].hold) = if k = 1 then (256, 10, 1000) else if k = 2 then (4, 1, 0) else (26, 3, 1500)) ∧
  (t.bars.phase = none ∧ t.bars.rows = 0 ∧ t.bars.barsStaged = none ∧ t.bars.scalesStaged = none ∧
    t.bars.force.brightness = 12 ∧ t.bars.force.lampTest = false ∧
    (∀ i : Fin 64, t.bars.force.map[i] = { chan := some i, table := 0 }) ∧
    ∀ j : Fin 40, t.bars.scales[0][j] = 160 + 8 * j.val ∧ t.bars.scales[1][j] = 320 + 4 * j.val) ∧
  (t.sweep.timer = none ∧ t.sweep.period = 1000 ∧ t.sweep.periodStaged = 1000 ∧ t.sweep.pass = none ∧
    t.sweep.readAhead = [] ∧ t.sweep.count = 0 ∧ t.sweep.late = 0) ∧
  t.reporter = { timer := none, period := 10, periodStaged := 10, bank := .a, count := 0, run := none } ∧
  t.attention = { attn := 0, mask := 0, cell := coalescing, activity := coalescing }

/-- Power-on reset (R186): every block at its power-on values, IBASE 0, every calibration record invalid, every counter 0,
HALTED, PSTAT, PFADR, ATTN and AMASK 0, IRQ low, MOTOR_EN and every output low; the image is not accessed. The equation with
State.reset also says three things the model chose: the values that log 5 names (the header counts, the image base in force, and
the like); that no event stays under way, sample arrivals already delivered included, which R13 lets stand elsewhere (log 14,
DEDUCED); and the level of MSUP_OK kept, which is the pin's own (log 28). -/
def Obligations.PowerOnResetValues : Prop :=
  ∀ s : State, ∃ t, exec .powerOnReset s = .next t ∧
    t = { State.reset with pending := s.pending, memory := s.memory, msupOk := s.msupOk } ∧
    t.part.state = .halted ∧ t.part.ibase = 0 ∧ t.part.pstat = 0 ∧ t.part.pfadr = 0 ∧ t.part.time = 0 ∧
    t.attention.attn = 0 ∧ t.attention.mask = 0 ∧ t.attention.irq = false ∧ t.motors.enable = false ∧ t.posted = [] ∧
    (∀ i : StripId, (t.strip i).cal = { bottom := 0, top := 0, valid := false } ∧ (t.strip i).state = .uncal ∧
      (t.strip i).arrived = 0 ∧ (t.strip i).cut = 0 ∧ (t.strip i).flushed = 0 ∧ (t.strip i).stalls = 0 ∧
      (t.strip i).touches = 0) ∧
    (∀ i : StripId, t.motors.chans[i].held = 0 ∧ t.motors.chans[i].duty = 0 ∧ t.motors.chans[i].dir = false) ∧
    (t.scanner.missed = 0 ∧ t.scanner.refFailures = 0 ∧ t.motors.expiries = 0 ∧ t.writer.lostCount = 0 ∧
      t.sweep.late = 0) ∧
    (∀ k : LinkId, t.links[k].frames = 0 ∧ t.links[k].short = 0 ∧ t.links[k].excess = 0 ∧ t.links[k].overruns = 0 ∧
      t.links[k].losses = 0) ∧
    Sys2Proof.Machine.AtResetValues t

/-- SOFT_RESET (R185): MOTOR_EN low and every drive zero, posted writes and read-ahead discarded, IBASE and the calibration
records kept, PSTAT, PFADR, ATTN, AMASK and part time 0, HALTED, no cause set; every block takes its soft-reset values, every
counter 0 and every context but for its record as after power-on (R26). The model chose four things that the equation says
too: the header counts and the image base in force are kept, as deduced from R178 and R180 (log 16); no event stays under way,
sample arrivals already delivered included (log 14); the level of MSUP_OK is kept (log 28); and the values that log 5 names.
-/
def Obligations.SoftResetKeepsBaseAndCalibration : Prop :=
  ∀ s : State, ∃ t, exec .softReset s = .next t ∧
    t.part.state = .halted ∧ t.part.ibase = s.part.ibase ∧ t.part.pstat = 0 ∧ t.part.pfadr = 0 ∧ t.part.time = 0 ∧
    t.attention.attn = 0 ∧ t.attention.mask = 0 ∧ t.attention.irq = false ∧
    t.posted = [] ∧ t.sweep.readAhead = [] ∧ t.memory = s.memory ∧ t.pending = s.pending ∧
    t.motors.enable = false ∧
    (∀ i : StripId, t.motors.chans[i].held = 0 ∧ t.motors.chans[i].duty = 0 ∧ t.motors.chans[i].waiting = none) ∧
    (∀ i : StripId, (t.strip i).cal = (s.strip i).cal ∧ (t.strip i).state = .uncal ∧ (t.strip i).current = none ∧
      (t.strip i).queue = []) ∧
    Sys2Proof.Machine.AtResetValues t ∧
    (∀ i : StripId, t.strip i = { State.reset.strip i with cal := (s.strip i).cal }) ∧
    (∀ k : LinkId, t.links[k] = State.reset.links[k]) ∧
    t = { State.reset with
      pending := s.pending, memory := s.memory, msupOk := s.msupOk, strips := t.strips
      part := { State.reset.part with ibase := s.part.ibase, base := s.part.base, header := s.part.header } }

/-- START (R180, R178) in HALTED with no check in progress takes a copy of IBASE and begins the header check; START anywhere
else, and STOP in HALTED, STOPPING and FAULTED, change nothing but the last-refused field (R179). The posted writes still queued
are not touched: that they keep no base of their own, and so go to the base copied here, is the model's choice (log 41). -/
def Obligations.StartBeginsCheckOrIsRefused : Prop :=
  (∀ s : State, s.part.state = .halted → s.part.checking = false →
    exec .start s = .next { s with part := { s.part with base := s.part.ibase, checking := true } }) ∧
  (∀ s : State, s.part.state ≠ .halted ∨ s.part.checking = true →
    exec .start s = .next { s with part := { s.part with refused := .start } }) ∧
  ∀ s : State, s.part.state = .halted ∨ s.part.state = .stopping ∨ s.part.state = .faulted →
    exec (.partStop []) s = .next { s with part := { s.part with refused := .stop } }

/-- The number of a start result and that of a failing header field, 0 for none, in PSTAT and in header word 12 (section 10.5). -/
def Sys2Proof.Machine.resultNumbers (p : Part) : Nat × Nat :=
  (match p.startResult with
    | .noResult => 0 | .ok => 1 | .clamped => 2 | .imageInvalid => 3,
   match p.failing with
    | none => 0 | some .version => 1 | some .strips => 2 | some .channels => 3 | some .pages => 4 | some .pageSize => 5)

/-- The start-result word of the header, word 12: the start result in bits 7..0, the failing field in bits 15..8 (section 10.5). -/
def Sys2Proof.Machine.startResultWord (p : Part) : Word :=
  BitVec.ofNat 32 ((resultNumbers p).1 + 256 * (resultNumbers p).2)

/-- What the registers read as (section 10.5, R203): IBASE and PFADR their values; PCTL 0; PSTAT the state in bits 2..0, the
fault in 5..4, the start result in 11..8, the failing field in 15..12, the last refused command in 17..16 and every other bit 0;
ATTN and AMASK a bit for each cause, from CELL in bit 0 to STATE in bit 7, and every other bit 0. -/
def Sys2Proof.Machine.RegistersRead (s : State) : Prop :=
  let state := match s.part.state with
    | .halted => 0 | .starting => 1 | .running => 2 | .stopping => 3 | .faulted => 4
  let fault := match s.part.fault with
    | .noFault => 0 | .bus => 1 | .scan => 2
  let refused := match s.part.refused with
    | .noCommand => 0 | .start => 1 | .stop => 2
  let r := resultNumbers s.part
  s.readRegister 0x00 = s.part.ibase ∧ s.readRegister 0x04 = 0 ∧ s.readRegister 0x0C = s.part.pfadr ∧
  s.readRegister 0x08 = BitVec.ofNat 32 (state + 16 * fault + 256 * r.1 + 4096 * r.2 + 65536 * refused) ∧
  (s.readRegister 0x10).toNat = s.attention.attn.toNat ∧ (s.readRegister 0x14).toNat = s.attention.mask.toNat ∧
  ∀ (k : Fin 8) (c : Cause), [Cause.cell, .activity, .report, .strip, .link, .supply, .scan, .state][k.val]? = some c →
    (s.readRegister 0x10).getLsbD k.val = s.attention.has c ∧
    (s.attention.set c).attn = s.attention.attn ||| 1#8 <<< k.val

/-- The header check (R180): the five fields are checked in order; when every one passes they become the header counts, the
start result NONE, part time 0 (R188), and the part enters STARTING; otherwise the start result is IMAGE_INVALID with the first
failing field, STATE is set, and the part stays HALTED, the header's start-result word handed. `u` is the state behind the
writes ahead of the read. -/
def Obligations.HeaderCheckDecides : Prop :=
  ∀ (s : State) (host : List HostWrite), s.part.state = .halted → s.part.checking = true →
    let u := s.beforeRead host
    let w := fun k => (u.readImage (4 * k)).toNat
    let okVersion := w 0 = 1
    let okStrips := 1 ≤ w 1 ∧ w 1 ≤ 32
    let okChannels := w 2 ≤ 64
    let okPages := 2 ≤ w 3 ∧ w 3 ≤ 8
    let okSize := 64 ≤ w 4 ∧ w 4 ≤ 256
    (okVersion ∧ okStrips ∧ okChannels ∧ okPages ∧ okSize →
      exec (.headerCheck host) s = .next { u with part := { u.part with
        checking := false, startResult := .noResult, failing := none, state := .starting, sequenceDue := true, time := 0,
        header := { version := w 0, strips := w 1, channels := w 2, pages := w 3, pageSize := w 4 } } }) ∧
    (∀ f : HeaderField,
      ((f = .version ∧ ¬ okVersion) ∨ (f = .strips ∧ okVersion ∧ ¬ okStrips) ∨
        (f = .channels ∧ okVersion ∧ okStrips ∧ ¬ okChannels) ∨
        (f = .pages ∧ okVersion ∧ okStrips ∧ okChannels ∧ ¬ okPages) ∨
        (f = .pageSize ∧ okVersion ∧ okStrips ∧ okChannels ∧ okPages ∧ ¬ okSize)) →
      ∃ t, exec (.headerCheck host) s = .next t ∧ t.part.state = .halted ∧ t.part.checking = false ∧
        t.part.startResult = .imageInvalid ∧ t.part.failing = some f ∧ t.part.header = s.part.header ∧
        t.attention.has .state = true ∧ t.strips = s.strips ∧ t.motors = s.motors ∧
        t.posted.getLast? = some { offset := 48, data := Sys2Proof.Machine.startResultWord t.part, note := .plain })

/-- A value taken into a range. -/
def Sys2Proof.Machine.within (lo hi x : Nat) : Nat := max lo (min hi x)

/-- Word `k` of the setup section at an offset, and its value. -/
def Sys2Proof.Machine.setupWord (v : State) (at_ k : Nat) : Word := v.readImage (at_ + 4 * k)
/-- The value of that word. -/
def Sys2Proof.Machine.setupValue (v : State) (at_ k : Nat) : Nat := (setupWord v at_ k).toNat

/-- Servo class `c` as the SERVO section gives it (R28). -/
def Sys2Proof.Machine.setupServo (v : State) (c : Nat) : ServoClass :=
  let x := fun k lo hi => within lo hi (setupValue v 0x0800 (8 * c + k))
  { vmax := x 0 4 255, kp := x 1 1 255, umin := x 2 0 255, deadband := x 3 1 63, settled := x 4 1 15
    stallErr := x 5 64 4095, limit := x 6 16 4095, calDuty := x 7 40 255 }

/-- The STRIP entry of strip `i` (R16, R29, section 10.5). -/
def Sys2Proof.Machine.setupStrip (v : State) (i : Nat) : StripSettings :=
  let x := fun k => setupValue v 0x0880 (7 * i + k)
  { servoClass := Fin.ofNat 4 (x 0), priority := BitVec.ofNat 3 (x 1)
    policy := if x 2 % 2 = 1 then .ignore else .active, release := if x 3 % 2 = 1 then .return else .stay
    trail := within 0 255 (x 4), source := if x 5 % 2 = 1 then .link else .cells, jitter := within 0 15 (x 6) }

/-- The SCAN section (R7): the period down to a multiple of 50, the prescale down to a power of two. -/
def Sys2Proof.Machine.setupScan (v : State) : Nat × Nat :=
  (within 250 4000 (setupValue v 0x0C00 0) / 50 * 50, 2 ^ (within 2 128 (setupValue v 0x0C00 1)).log2)

/-- The TOUCH section (R23). -/
def Sys2Proof.Machine.setupTouch (v : State) : TouchValues :=
  let x := fun k => within 1 15 (setupValue v 0x0C08 k)
  { threshold := x 0, ton := x 1, toff := x 2 }

/-- The GRANT section (R102): G, the low budget and the floor level. -/
def Sys2Proof.Machine.setupGrant (v : State) : Nat × Nat × Nat :=
  let g := within 1 32 (setupValue v 0x0C14 0)
  (g, within 0 g (setupValue v 0x0C14 1), within 0 7 (setupValue v 0x0C14 2))

/-- The DRIVE section (R115): the PWM prescale down to a power of two. -/
def Sys2Proof.Machine.setupDrive (v : State) : Nat :=
  let x := setupValue v 0x11D0 0
  if x < 2 then 1 else if x < 4 then 2 else if x < 8 then 4 else 8

/-- Profile `k` of the METER section (R154). -/
def Sys2Proof.Machine.setupProfile (v : State) (k : Nat) : Ballistics :=
  let x := fun j => setupValue v 0x0C20 (6 * k + j)
  { rise := within 1 256 (x 0), decay := within 0 4095 (x 1), hold := x 2 % 65536, overLevel := within 0 480 (x 3)
    overCount := within 1 16 (x 4), overHold := within 0 10000 (x 5) }

/-- The profile number and the enable flag of channel `c` in the METER section (section 10.5). -/
def Sys2Proof.Machine.setupChannel (v : State) (c : Nat) : Fin 4 × Bool :=
  (Fin.ofNat 4 (setupValue v 0x0C20 (24 + 2 * c)), decide (setupValue v 0x0C20 (25 + 2 * c) % 2 = 1))

/-- Scale table `n` (R172): no threshold above 480, none below one before it. -/
def Sys2Proof.Machine.setupScale (v : State) (n : Nat) : List Nat :=
  (List.range 40).map fun i =>
    (List.range (i + 1)).foldl (fun m j => max m (min 480 (setupValue v 0x0E80 (40 * n + j)))) 0

/-- The BARS section (R171): channels 0..63, any other number NONE. -/
def Sys2Proof.Machine.setupBars (v : State) : BarValues :=
  { map := Vector.ofFn fun b =>
      let n := setupValue v 0x0FC0 (2 * b.val) % 256
      { chan := if n < 64 then some (Fin.ofNat 64 n) else none
        table := Fin.ofNat 2 (setupValue v 0x0FC0 (2 * b.val + 1)) }
    brightness := within 1 16 (setupValue v 0x0FC0 128), lampTest := decide (setupValue v 0x0FC0 129 % 2 = 1) }

/-- The settings of link `l` in the LINK section (R136). -/
def Sys2Proof.Machine.setupLink (v : State) (l : Nat) : LinkSettings :=
  let x := fun k => setupValue v 0x1200 (37 * l + k)
  { enable := decide (x 0 % 2 = 1), len := if x 1 = 16 then .w16 else .w24, slots := within 1 32 (x 2)
    sync := if x 3 % 2 = 1 then .word else .bit, timeout := within 1 100 (x 4) }

/-- Entry `i` of the slot map of link `l` (R145): a number at or above the header's counts, and an unknown kind, is NULL. -/
def Sys2Proof.Machine.setupSlot (v : State) (l i : Nat) : Slot :=
  let x := setupValue v 0x1200 (37 * l + 5 + i)
  let n := x % 256
  if x / 256 % 256 = 1 ∧ n < v.part.header.channels ∧ n < 64 then .meter (Fin.ofNat 64 n)
  else if x / 256 % 256 = 2 ∧ n < v.part.header.strips ∧ n < 32 then .strip (Fin.ofNat 32 n)
  else .null

/-- The threshold and the hold time of a cause in the ATTN section (R205). -/
def Sys2Proof.Machine.setupAttn (v : State) : Coalesced → Nat × Nat
  | .cell => (within 0 255 (setupValue v 0x1340 0), within 0 65535 (setupValue v 0x1340 1))
  | .activity => (within 0 255 (setupValue v 0x1340 2), within 0 65535 (setupValue v 0x1340 3))

/-- The REPORT section: report period (R200), activity hold time (R127), sweep period (R192). -/
def Sys2Proof.Machine.setupReport (v : State) : Nat × Nat × Nat :=
  (within 2 100 (setupValue v 0x1350 0), within 1 1000 (setupValue v 0x1350 1),
   within 250 8000 (setupValue v 0x1350 2) / 250 * 250)

/-- Whether every value of a section stands in its range, so that none is taken into it. -/
def Sys2Proof.Machine.SectionClean (v : State) : SetupSection → Prop
  | .servo => ∀ c : Fin 4,
      let k := setupServo v c
      [k.vmax, k.kp, k.umin, k.deadband, k.settled, k.stallErr, k.limit, k.calDuty] =
        (List.range 8).map fun j => setupValue v 0x0800 (8 * c.val + j)
  | .strip => ∀ i : StripId, setupValue v 0x0880 (7 * i.val + 4) ≤ 255 ∧ setupValue v 0x0880 (7 * i.val + 6) ≤ 15
  | .scan => setupScan v = (setupValue v 0x0C00 0, setupValue v 0x0C00 1)
  | .touch => ∀ k : Fin 3, 1 ≤ setupValue v 0x0C08 k ∧ setupValue v 0x0C08 k ≤ 15
  | .grant => setupGrant v = (setupValue v 0x0C14 0, setupValue v 0x0C14 1, setupValue v 0x0C14 2)
  | .drive => setupDrive v = setupValue v 0x11D0 0
  | .meter => ∀ k : Fin 4,
      let b := setupProfile v k
      let x := fun j => setupValue v 0x0C20 (6 * k.val + j)
      [b.rise, b.decay, b.overLevel, b.overCount, b.overHold] = [x 0, x 1, x 3, x 4, x 5]
  | .scale => ∀ n : Fin 2, setupScale v n = (List.range 40).map fun i => setupValue v 0x0E80 (40 * n.val + i)
  | .bars => (setupBars v).brightness = setupValue v 0x0FC0 128 ∧ ∀ b : Fin 64,
      setupValue v 0x0FC0 (2 * b.val) % 256 < 64 ∨ setupValue v 0x0FC0 (2 * b.val) % 256 = 255
  | .link => ∀ l : LinkId,
      let x := fun k => setupValue v 0x1200 (37 * l.val + k)
      (x 1 = 16 ∨ x 1 = 24) ∧ (1 ≤ x 2 ∧ x 2 ≤ 32) ∧ (1 ≤ x 4 ∧ x 4 ≤ 100) ∧
        ∀ i : Fin 32, x (5 + i.val) / 256 % 256 = 0 ∨ setupSlot v l i ≠ .null
  | .attn => ∀ w : Coalesced,
      let at_ := match w with
        | .cell => 0
        | .activity => 2
      setupAttn v w = (setupValue v 0x1340 at_, setupValue v 0x1340 (at_ + 1))
  | .report => setupReport v = (setupValue v 0x1350 0, setupValue v 0x1350 1, setupValue v 0x1350 2)

/-- Section by section, that `t` holds what the setup area of `v` gives: in force, or staged where the owner adopts it later.
Said of the START load, whose links are OFF (R181, R195). -/
def Sys2Proof.Machine.SectionStands (v t : State) : SetupSection → Prop
  | .servo => ∀ c : Fin 4, t.servoLoaded[c] = setupServo v c
  | .strip => ∀ i : StripId, (t.strip i).staged = setupStrip v i
  | .scan => (t.scanner.periodStaged, t.scanner.prescaleStaged) = setupScan v
  | .touch => t.touchScan.staged = setupTouch v
  | .grant => (t.arbiter.low, t.arbiter.floor) = (setupGrant v).2 ∧
      (v.arbiter.grantSet = [] → t.arbiter.full = (setupGrant v).1 ∧ t.arbiter.pendingFull = none)
  | .drive => t.motors.prescaleStaged = setupDrive v
  | .meter => (∀ k : Fin 4, t.meters.profiles[k] = setupProfile v k) ∧
      ∀ c : ChanId, (t.meters.chans[c].profile, t.meters.chans[c].enable) = setupChannel v c
  | .scale => ∀ n : Fin 2, (t.bars.scalesStaged.getD t.bars.scales)[n].toList = setupScale v n
  | .bars => t.bars.barsStaged.getD t.bars.force = setupBars v
  | .link => ∀ k : LinkId, v.links[k].state = .off → t.links[k].settings = setupLink v k ∧
      ∀ i : Fin 32, t.links[k].map[i] = setupSlot v k i
  | .attn => ∀ w : Coalesced,
      ((t.attention.coalescing w).threshold, (t.attention.coalescing w).hold) = setupAttn v w ∧
      (t.attention.coalescing w).thresholdStaged = none ∧ (t.attention.coalescing w).holdStaged = none
  | .report => (t.reporter.periodStaged, t.writer.holdStaged, t.sweep.periodStaged) = setupReport v

/-- Section by section, that `t` holds what `v` held: the section has not been handed. -/
def Sys2Proof.Machine.SectionKept (v t : State) : SetupSection → Prop
  | .servo => t.servoLoaded = v.servoLoaded
  | .strip => ∀ i : StripId, (t.strip i).staged = (v.strip i).staged
  | .scan => (t.scanner.periodStaged, t.scanner.prescaleStaged) = (v.scanner.periodStaged, v.scanner.prescaleStaged)
  | .touch => t.touchScan.staged = v.touchScan.staged
  | .grant => (t.arbiter.full, t.arbiter.pendingFull, t.arbiter.low, t.arbiter.floor) =
      (v.arbiter.full, v.arbiter.pendingFull, v.arbiter.low, v.arbiter.floor)
  | .drive => t.motors.prescaleStaged = v.motors.prescaleStaged
  | .meter => t.meters.profiles = v.meters.profiles ∧ ∀ c : ChanId,
      (t.meters.chans[c].profile, t.meters.chans[c].enable) = (v.meters.chans[c].profile, v.meters.chans[c].enable)
  | .scale => t.bars.scalesStaged.getD t.bars.scales = v.bars.scalesStaged.getD v.bars.scales
  | .bars => t.bars.barsStaged.getD t.bars.force = v.bars.barsStaged.getD v.bars.force
  | .link => ∀ k : LinkId, t.links[k].settings = v.links[k].settings ∧ t.links[k].map = v.links[k].map
  | .attn => ∀ w : Coalesced,
      let a := t.attention.coalescing w
      let b := v.attention.coalescing w
      (a.thresholdStaged.getD a.threshold, a.holdStaged.getD a.hold) =
        (b.thresholdStaged.getD b.threshold, b.holdStaged.getD b.hold)
  | .report => (t.reporter.periodStaged, t.writer.holdStaged, t.sweep.periodStaged) =
      (v.reporter.periodStaged, v.writer.holdStaged, v.sweep.periodStaged)

/-- The start sequence cut short (R181, R184, R187). A setup word whose read fails makes the part FAULTED with code BUS and that
word's address: the sections read before it stand, and no other has been handed. A STOP after `n` of the stages (the twelve
sections, the start result, then steps 2 to 5) leaves the part HALTED with STATE set, the links OFF, the bars blanked and the
writer STOPPED: the sections taken stand, and the strips stand as step 4 sets them if it was taken. `v` is the state behind the
writes ahead of the first read. -/
def Sys2Proof.Machine.StartCutShort (s v : State) (host : List HostWrite) : Prop :=
  (∀ (sec : SetupSection) (k : Nat), k < sec.words →
    let j := ((SetupSection.all.filter fun x => decide (x.bit < sec.bit)).map (·.words)).sum + k
    ∃ t, exec (.startSequence { host := host, cut := some (.fault j) }) s = .next t ∧
      t.part.state = .faulted ∧ t.part.fault = .bus ∧
      t.part.pfadr = s.part.base + BitVec.ofNat 32 (sec.offset + 4 * k) ∧ t.part.startResult = s.part.startResult ∧
      t.posted = [] ∧ t.memory = v.memory ∧ t.attention.has .state = true ∧
      (∀ x : SetupSection, x.bit < sec.bit → SectionStands v t x) ∧
      ∀ x : SetupSection, sec.bit ≤ x.bit → SectionKept v t x) ∧
  ∀ n : Nat, n ≤ 16 → ∃ t, exec (.startSequence { host := host, cut := some (.stop n) }) s = .next t ∧
    t.part.state = .halted ∧ t.part.sequenceDue = false ∧ t.attention.has .state = true ∧ t.scanner.enabled = false ∧
    (∀ k : LinkId, t.links[k].state = .off) ∧ t.bars.phase = none ∧ t.bars.rows = 0 ∧ t.meters.decay = false ∧
    t.writer.state = .stopped ∧ (t.part.startResult = s.part.startResult ∨ 13 ≤ n) ∧
    (∀ x : SetupSection, x.bit < n → SectionStands v t x) ∧ (∀ x : SetupSection, n ≤ x.bit → SectionKept v t x) ∧
    ∀ i : StripId, (t.strip i).cal = (s.strip i).cal ∧
      (t.strip i).state = if n < 16 then (s.strip i).state
        else if i.val < s.part.header.strips then (if (s.strip i).cal.valid then .idle else .uncal) else .off

/-- The start sequence (R181): part time 0 again, whatever was counted since the header check entered STARTING (the model's
deduction, log 24), every section loaded, each value as the setup area gives it or taken into its range and the
start result OK if all stood in range, else CLAMPED; the writer SEEKING at page 0 with the header's pages, every channel cleared
with NOFEED set, every enabled link ACQUIRING, the decay and phase timers started, each strip below n IDLE or UNCAL by its record
and each other OFF, every p_rep set flag clear, and the converter enabled in the warm round; or cut short as StartCutShort says.
That the sequence is one command, with nothing else between its stages, is the model's choice (log 29); host words land as log 7
says, and a PWM, period or scale value above the nearest one allowed counts as CLAMPED by log 17. -/
def Obligations.StartSequenceBringsUp : Prop :=
  ∀ (s : State) (host : List HostWrite), s.part.sequenceDue = true →
    let v : State := ({ s with
      part := { s.part with sequenceDue := false, time := 0 }, sweep := { s.sweep with count := 0 } } : State).beforeRead host
    Sys2Proof.Machine.StartCutShort s v host ∧
    ∃ t, exec (.startSequence { host := host, cut := none }) s = .next t ∧
      (∀ x : SetupSection, Sys2Proof.Machine.SectionStands v t x) ∧
      (t.part.startResult = .ok ↔ ∀ x : SetupSection, Sys2Proof.Machine.SectionClean v x) ∧
      t.part.state = s.part.state ∧ t.part.sequenceDue = false ∧ t.part.time = 0 ∧ t.sweep.count = 0 ∧
      (t.part.startResult = .ok ∨ t.part.startResult = .clamped) ∧
      t.posted.getLast? = some { offset := 48, data := Sys2Proof.Machine.startResultWord t.part, note := .plain } ∧
      t.writer.state = .seeking ∧ t.writer.page = 0 ∧ t.writer.pages = s.part.header.pages ∧
      t.writer.pageSize = s.part.header.pageSize ∧ t.writer.holdTime = t.writer.holdStaged ∧
      t.arbiter.supply = (if s.msupOk then .ok else .low) ∧
      (∀ c : ChanId, t.meters.chans[c].m = 0 ∧ t.meters.chans[c].hv = 0 ∧ t.meters.chans[c].isOver = false ∧
        t.meters.chans[c].nofeed = true) ∧
      (∀ k : LinkId, t.links[k].settings.enable = true → t.links[k].state = .acquiring) ∧
      t.meters.decay = true ∧ t.bars.phase = some 0 ∧ t.bars.barsStaged = none ∧ t.bars.scalesStaged = none ∧
      (∀ i : StripId, (t.strip i).pRepSet = false ∧ (t.strip i).cal = (s.strip i).cal ∧
        (t.strip i).state = if i.val < s.part.header.strips then
          (if (s.strip i).cal.valid then .idle else .uncal) else .off) ∧
      t.scanner.enabled = true ∧ t.scanner.warm = true ∧ t.scanner.round = .running ∧ t.scanner.longNext = true ∧
      t.scanner.runCount = 0 ∧ t.scanner.period = t.scanner.periodStaged ∧ t.scanner.prescale = t.scanner.prescaleStaged ∧
      t.scanner.list = allStrips.filter fun i => decide (i.val < s.part.header.strips)

/-- A page handed over (R126, steps 1 to 4), without the read of the next owner: its base time, its gap flag and, last, the owner CP
with its used words are handed to the posted-write queue, an ACTIVITY event is made, and the writer is SEEKING at the next page. -/
def Sys2Proof.Machine.pageHanded (s : State) : State :=
  let w := s.writer
  let page := 0x2800 + 4 * w.pageSize * w.page
  let word := fun (at_ : Nat) (d : Word) => ({ offset := at_, data := d, note := .plain } : PostedWrite)
  let t := s.postAll [word (page + 4) (w.base.getD 0), word (page + 8) (if w.gap then 1 else 0),
    word page (BitVec.ofNat 32 (w.used % 65536 * 65536))]
  { t with
    attention := t.attention.event .activity
    writer := { w with hold := none, state := .seeking, page := if w.page + 1 < w.pages then w.page + 1 else 0 } }

/-- The end of the drain (R183 step 3, R131): a page with records is handed over, its next owner not read, and the writer is
STOPPED. -/
def Sys2Proof.Machine.drainEnds (u : State) : State :=
  let v := if u.writer.state = .filling ∧ u.writer.base ≠ none then pageHanded u else u
  { v with writer := { v.writer with state := .stopped, hold := none }, part := { v.part with stop := .awaitReport } }

/-- The final report begins (R183 step 4, R202) in the bank not named: as many words of its first two records are handed as the
posted-write queue has places, their values taken then (log 12). -/
def Sys2Proof.Machine.finalReportBegins (u : State) : State :=
  let bank : Bank := match u.reporter.bank with
    | .a => .b
    | .b => .a
  let at_ := match bank with
    | .a => 0x1800
    | .b => 0x2000
  let part := layWords at_ (u.reportRecord 0).2
  let both := part ++ layWords (at_ + 16) (u.reportRecord 1).2
  let n := 8 - u.posted.length
  let run : ReportRun :=
    { bank := bank, next := if n = 0 then 0 else if n ≤ 4 then 1 else 2
      words := if n = 0 then [] else if n ≤ 4 then part.drop n else both.drop n }
  { u with
    posted := u.posted ++ both.take n
    part := { u.part with stop := .report }
    reporter := { u.reporter with run := some run } }

/-- The bars blanked and the links out of service (R183 step 5, R152, R170), every channel without a feed. -/
def Sys2Proof.Machine.displayStops (u : State) : State :=
  { u with
    links := u.links.map fun l => { l with
      state := .off, open_ := false, assembly := [], slot := 0, acquired := 0, timeout := none, queue := [], staged := none }
    meters := { u.meters with chans := u.meters.chans.map fun c => { c with nofeed := true } }
    bars := { u.bars with
      phase := none, rows := 0, columns := Bars.lampsOff
      snapshot := Vector.replicate 64 { lit := 0, dot := none, isOver := false } }
    part := { u.part with stop := .lastWrites } }

/-- The STOP sequence going on (R183 steps 3 to 5): the drain ends with nothing queued, nothing held and no GAP record due in a
page; then, with no report being written, the final report begins; and with it written the display stops. -/
def Sys2Proof.Machine.stopGoesOn (u : State) : State :=
  let a := if u.part.stop = .drain ∧ u.writer.queue = [] ∧ u.writer.held = [] ∧
    ¬ (u.writer.state = .filling ∧ u.writer.lost ≠ 0) then drainEnds u else u
  let b := if a.part.stop = .awaitReport ∧ a.reporter.run = none then finalReportBegins a else a
  if b.part.stop = .report ∧ b.reporter.run = none then displayStops b else b

/-- What a command of STOPPING leaves once the STOP sequence has gone on; in any other part state it leaves `u` as it is. -/
def Sys2Proof.Machine.stopWatched (u : State) : State := if u.part.state = .stopping then stopGoesOn u else u

/-- The records the STOP sequence hands, in its order (R183 steps 1 and 2, R100): a GANG record of event end for each gang with
activity, in ascending id; then, from S0 on, for each strip that is not OFF the FINISH records, FLUSHED, of its calibration run, of
its queued entries, oldest first, and of its current entry. -/
def Sys2Proof.Machine.stopRecords (s : State) : List Rec :=
  ((List.finRange 8).filterMap fun g => (s.gang g).activity.map fun a => Rec.gang g a.leader .ended) ++
    allStrips.flatMap fun i =>
      let x := s.strip i
      if x.state = .off then [] else
        (x.calRun.toList.map fun r => Rec.finish i .flushed r.tag .cell x.p) ++
          (x.queue ++ x.current.toList).map fun e => Rec.finish i .flushed e.tag e.origin x.p

/-- What ties the grant set to the strips (R31, R32): a strip that holds a grant drives on it, or has the grant or its return under
way. -/
def Sys2Proof.Machine.HoldersGiveBack (s : State) : Prop :=
  ∀ i : StripId, i ∈ s.arbiter.grantSet →
    (s.strip i).state.driving = true ∨ Instr.grant i ∈ s.inFlight ∨ Instr.grantReturn i ∈ s.inFlight

/-- What ties the requests to the strips (R30): of a strip that is not WAITING the last request or withdrawal under way is a
withdrawal, or there is neither and it has no record in the waiting set. -/
def Sys2Proof.Machine.RequestersWithdraw (s : State) : Prop :=
  ∀ i : StripId,
    let last := (s.inFlight.filter fun e => match e with
      | .grantRequest j _ => decide (j = i)
      | .grantWithdrawal j => decide (j = i)
      | _ => false).getLast?
    (s.strip i).state.isWaiting = true ∨ last = some (.grantWithdrawal i) ∨
      (last = none ∧ i ∉ s.arbiter.waiting.map (·.strip))

/-- STOP in RUNNING (R183, R27, R100): the part enters STOPPING; MOTOR_EN is low and every drive value 0 with DIR kept;
the converter is disabled and the scan, touch scan, sweep and report timers stopped; no gang has activity; every strip that
is not OFF holds no entry, no calibration run, no grant and no touch, and is IDLE or UNCAL by its record, which is kept, its flushed
counter up by its run and its entries; every strip, an OFF one too, loses its stream target (R76), its role, its follower target and
its freeze flag (R100). The records of all these, the gangs' first, are handed one after another, as stopRecords
lists them; no event between strips and arbiter stays under way (R111), and no strip holds a grant or waits for one, where the grant
set and the requests stood as HoldersGiveBack and RequestersWithdraw say, in which a full budget that was pending is in force (the
model's choice, log 33). Then the sequence goes on as far as it can: the drain, the
final report, the display. When the owner is read while records are handed, and how the rest goes on, is the model's choice (log
13); the host's words land as log 7 says, and log 14 says which events stay under way. That the sweep period in force and the one
staged are kept (log 35), and that a pass the STOP ends is not counted (log 11), is the model's choice too. -/
def Obligations.StopEndsTheStripsWork : Prop :=
  ∀ (s : State) (host : List HostWrite), s.part.state = .running →
    let records := Sys2Proof.Machine.stopRecords s
    let h := if s.writer.state = .seeking ∧ records ≠ [] then s.beforeRead host else s.hostWrote host
    let begun : State := { h with part := { s.part with state := .stopping, stop := .handing } }
    let w := (records.foldl State.handRecord begun).writer
    ∃ t, exec (.partStop host) s = .next t ∧
      t = Sys2Proof.Machine.stopGoesOn { h with
        part := { s.part with state := .stopping, stop := .drain }, writer := w
        inFlight := (s.inFlight.filter fun e => match e with
          | .sampleArrival _ _ | .meterWord _ _ => true
          | _ => false) ++ (if w.state = .seeking ∧ w.queue ≠ [] then [.pageOwnerRead []] else [])
        reporter := { h.reporter with timer := none }, strips := t.strips, gangs := t.gangs, arbiter := t.arbiter
        motors := t.motors, scanner := t.scanner, touchScan := t.touchScan, sweep := t.sweep } ∧
      t.part.state = .stopping ∧
      t.motors = { s.motors with enable := false, chans := t.motors.chans } ∧
      (∀ i : StripId, t.motors.chans[i] = { s.motors.chans[i] with held := 0, duty := 0, waiting := none, expiry := none }) ∧
      t.scanner = { s.scanner with
        enabled := false, longNext := true, timer := none, round := .idle, warm := false, list := [], position := 0 } ∧
      t.touchScan = { s.touchScan with timer := false, chans := Vector.replicate 32 { touched := false, run := 0 } } ∧
      t.sweep = { s.sweep with timer := none, pass := none, readAhead := [] } ∧ t.reporter.timer = none ∧
      (t.arbiter.supply, t.arbiter.recovery, t.arbiter.low, t.arbiter.floor) =
        (s.arbiter.supply, s.arbiter.recovery, s.arbiter.low, s.arbiter.floor) ∧
      (s.arbiter.pendingFull = none → t.arbiter.full = s.arbiter.full ∧ t.arbiter.pendingFull = none) ∧
      (Sys2Proof.Machine.HoldersGiveBack s → t.arbiter.grantSet = [] ∧
        ∀ b, s.arbiter.grantSet ≠ [] → s.arbiter.pendingFull = some b →
          t.arbiter.full = b ∧ t.arbiter.pendingFull = none) ∧
      (Sys2Proof.Machine.RequestersWithdraw s → t.arbiter.waiting = []) ∧
      (∀ g : GangId, t.gang g = { s.gang g with activity := none }) ∧
      ∀ i : StripId,
        let x := s.strip i
        (x.state = .off → t.strip i = { x with
          streamTarget := none, role := .outside, followTarget := none, freeze := false }) ∧
        (x.state ≠ .off → t.strip i = { x with
          state := if x.cal.valid then .idle else .uncal, current := none, queue := [], calRun := none, grantHeld := false
          touch := false, relatch := false, streamTarget := none, trail := [], trailStep := 0, role := .outside
          followTarget := none, freeze := false, restart := false, chainStart := none
          profile := { x.profile with set := false }
          flushed := x.flushed + BitVec.ofNat 16 (x.queue.length + (if x.current = none then 0 else 1) +
            (if x.calRun = none then 0 else 1)) })

/-- STOP in STARTING abandons the start (R184): the converter disabled, the links OFF, the bars blanked, the decay timer
stopped, the writer STOPPED, HALTED with STATE set; setup values and strip states stay, every one, as the equation with `s` and
those of the scanner, the links, the meters and the bars say. Sample arrivals already delivered stand and no other event stays
under way (R13, log 14); the host's words land as log 7 says. -/
def Obligations.StopAbandonsStart : Prop :=
  ∀ (s : State) (host : List HostWrite), s.part.state = .starting →
    ∃ t, exec (.partStop host) s = .next t ∧
      t = { s with
        memory := s.memory.hostWrites host, inFlight := t.inFlight, scanner := t.scanner, links := t.links
        meters := t.meters, bars := t.bars
        part := { s.part with state := .halted, sequenceDue := false }
        arbiter := { s.arbiter with recovery := none }
        writer := { s.writer with state := .stopped, hold := none, lost := 0 }
        attention := s.attention.set .state } ∧
      t.inFlight = (s.inFlight.filter fun e => match e with
        | .sampleArrival _ _ => true
        | _ => false) ∧
      t.scanner = { s.scanner with
        enabled := false, longNext := true, timer := none, round := .idle, warm := false, list := [], position := 0 } ∧
      (∀ k : LinkId, t.links[k] = { s.links[k] with
        state := .off, open_ := false, assembly := [], slot := 0, acquired := 0, timeout := none, queue := [],
        staged := none }) ∧
      t.meters.profiles = s.meters.profiles ∧
      (∀ c : ChanId, t.meters.chans[c] = { s.meters.chans[c] with nofeed := true }) ∧
      t.bars = { s.bars with
        phase := none, rows := 0, columns := Bars.lampsOff
        snapshot := Vector.replicate 64 { lit := 0, dot := none, isOver := false } } ∧
      t.part.state = .halted ∧ t.scanner.enabled = false ∧
      t.scanner.round = .idle ∧ (∀ k : LinkId, t.links[k].state = .off ∧ t.links[k].settings = s.links[k].settings) ∧
      t.bars.phase = none ∧ t.bars.rows = 0 ∧ t.bars.columns = Bars.lampsOff ∧ t.meters.decay = false ∧
      t.writer.state = .stopped ∧ t.writer.queue = s.writer.queue ∧ t.attention = s.attention.set .state ∧
      t.strips = s.strips ∧ t.posted = s.posted ∧ t.reporter = s.reporter

/-- The end of the STOP sequence (R183): with the last writes issued the part enters HALTED, the decay timer stops, part time is
held, STATE is set, the lost count is 0 (R131), each pending coalesced cause is set and staged thresholds and hold times are
adopted (R205; with a pending count of 0 too, the model's choice, log 42), and sample arrivals already delivered stand, no other
event staying under way (R13, log 14). Before that nothing happens (the model's choice of when the command comes, log 3). -/
def Obligations.StopSequenceEndHalts : Prop :=
  (∀ s : State, s.part.state = .stopping → s.part.stop = .lastWrites → s.posted = [] →
    exec .stopSequenceEnd s = .next { s with
      inFlight := s.inFlight.filter fun e => match e with
        | .sampleArrival _ _ => true
        | _ => false
      part := { s.part with state := .halted, stop := .idle }
      meters := { s.meters with decay := false }
      writer := { s.writer with lost := 0, deadSeek := false }
      arbiter := { s.arbiter with recovery := none }
      attention := (s.attention.flushBoth).set .state }) ∧
  ∀ s : State, ¬ (s.part.state = .stopping ∧ s.part.stop = .lastWrites ∧ s.posted = []) →
    exec .stopSequenceEnd s = .next s

/-- Slave-port reads are RegistersRead. Slave-port writes: IBASE in HALTED takes the value with its low 16 bits 0 and is ignored
elsewhere (R178); ATTN clears the causes written 1 and AMASK takes the value, bits 8..31 without effect, in every part state,
IRQ following (R203). By its offset (section 10.5) a write acts as the command of its register, PCTL by its three codes; a write
of any other code to PCTL is ignored and recorded nowhere (R179). That REGISTER_WRITE acts as those commands, and that a write
to a read-only register or to any other offset is ignored too, is the model's reading (log 22). -/
def Obligations.RegisterWritesTakeEffect : Prop :=
  (∀ s : State, Sys2Proof.Machine.RegistersRead s) ∧
  (∀ (s : State) (w : Word), exec (.ibaseWrite w) s = .next
    (if s.part.state = .halted then { s with part := { s.part with ibase := w &&& 0xFFFF0000#32 } } else s)) ∧
  (∀ (s : State) (w : Word), ∃ t, exec (.attnWrite w) s = .next t ∧
    t = { s with attention := { s.attention with attn := s.attention.attn &&& ~~~(w.truncate 8) } } ∧
    t.attention.irq = (s.attention.attn &&& ~~~(w.truncate 8) &&& s.attention.mask != 0#8)) ∧
  (∀ (s : State) (w : Word), ∃ t, exec (.amaskWrite w) s = .next t ∧
    t = { s with attention := { s.attention with mask := w.truncate 8 } } ∧
    t.attention.irq = (s.attention.attn &&& w.truncate 8 != 0#8) ∧
    t.readRegister 0x14 = (w.truncate 8 : BitVec 8).zeroExtend 32) ∧
  (∀ (s : State) (w : Word), exec (.registerWrite 0x00 w) s = exec (.ibaseWrite w) s ∧
    exec (.registerWrite 0x10 w) s = exec (.attnWrite w) s ∧
    exec (.registerWrite 0x14 w) s = exec (.amaskWrite w) s) ∧
  (∀ s : State, exec (.registerWrite 0x04 1) s = exec .start s ∧
    exec (.registerWrite 0x04 2) s = exec (.partStop []) s ∧ exec (.registerWrite 0x04 3) s = exec .softReset s) ∧
  (∀ (s : State) (w : Word), w ≠ 1 → w ≠ 2 → w ≠ 3 → exec (.registerWrite 0x04 w) s = .next s) ∧
  ∀ (s : State) (offset w : Word), offset ≠ 0x00 → offset ≠ 0x04 → offset ≠ 0x10 → offset ≠ 0x14 →
    exec (.registerWrite offset w) s = .next s

/-- Entry to FAULTED with a fault code, from `s` to `t` (R187, R27, R100, R205): read-ahead and posted writes are discarded;
MOTOR_EN is low and every drive 0, DIR kept; grants and requests are gone, a pending full budget kept (R111); the converter is
disabled and the scan, touch scan, sweep, report, decay and phase timers stopped; the links are OFF, every channel without a
feed, the bars dark; the writer is STOPPED with its queue discarded, and a report being written abandoned; no gang has activity,
and every strip, an OFF one too, has role none, no follower or stream target and its freeze flag clear; any other context is
left by R27 without records; each pending coalesced cause is set, staged thresholds and hold times are adopted (with a pending
count of 0 too, the model's choice, log 42), and STATE is set. Nothing else changes. Sample arrivals already delivered stand,
and no other event stays under way (R13, log 14); that the sweep periods are kept (log 35), that a pass so ended is not counted
(log 11) and that the Meter Engine's input is free at once (log 30) is the model's own. -/
def Sys2Proof.Machine.FaultEntered (s : State) (code : FaultCode) (pfadr : Word) (t : State) : Prop :=
  t = { s with
    inFlight := s.inFlight.filter fun e => match e with
      | .sampleArrival _ _ => true
      | _ => false
    posted := []
    part := { s.part with
      state := .faulted, fault := code, pfadr := pfadr, checking := false, sequenceDue := false, stop := .idle }
    sweep := { s.sweep with timer := none, pass := none, readAhead := [] }
    scanner := { s.scanner with
      enabled := false, longNext := true, timer := none, round := .idle, warm := false, list := [], position := 0 }
    touchScan := { s.touchScan with timer := false, chans := Vector.replicate 32 { touched := false, run := 0 } }
    arbiter := { s.arbiter with grantSet := [], waiting := [], recovery := none }
    writer := { s.writer with state := .stopped, queue := [], held := [], deadSeek := false, hold := none, lost := 0 }
    input := { s.input with service := none }
    bars := { s.bars with
      phase := none, rows := 0, columns := Bars.lampsOff
      snapshot := Vector.replicate 64 { lit := 0, dot := none, isOver := false } }
    reporter := { s.reporter with timer := none, run := none }
    attention := (s.attention.flushBoth).set .state
    strips := t.strips, gangs := t.gangs, motors := t.motors, links := t.links, meters := t.meters } ∧
  t.motors = { s.motors with enable := false, chans := t.motors.chans } ∧
  (∀ i : StripId, t.motors.chans[i] = { s.motors.chans[i] with held := 0, duty := 0, waiting := none, expiry := none }) ∧
  (∀ k : LinkId, t.links[k] = { s.links[k] with
    state := .off, open_ := false, assembly := [], slot := 0, acquired := 0, timeout := none, queue := [], staged := none }) ∧
  t.meters = { s.meters with decay := false, chans := t.meters.chans } ∧
  (∀ c : ChanId, t.meters.chans[c] = { s.meters.chans[c] with nofeed := true }) ∧
  (∀ g : GangId, t.gang g = { s.gang g with activity := none }) ∧
  t.attention.has .state = true ∧
  ∀ i : StripId,
    let x := s.strip i
    let y := t.strip i
    (x.state = .off → y = { x with
      streamTarget := none, role := .outside, followTarget := none, freeze := false
      current := y.current, queue := y.queue, calRun := y.calRun, restart := y.restart, chainStart := y.chainStart
      profile := y.profile }) ∧
    (x.state ≠ .off → y = { x with
      state := if x.cal.valid then .idle else .uncal, current := none, queue := [], calRun := none, grantHeld := false
      touch := false, relatch := false, streamTarget := none, trail := [], trailStep := 0, role := .outside
      followTarget := none, freeze := false, restart := false, chainStart := none
      profile := { x.profile with set := false } })

/-- A bus fault (R187, R190): the part enters FAULTED with code BUS, and PFADR is the image base plus the offset; all that entry to
FAULTED does is FaultEntered. That the fault can come in HALTED while writes are still posted, which R187's list of states does not
name, is the model's deduction (log 27). -/
def Obligations.BusFaultEntersFaulted : Prop :=
  ∀ (s : State) (offset : Word),
    s.part.state = .starting ∨ s.part.state = .running ∨ s.part.state = .stopping ∨
      (s.part.state = .halted ∧ (s.part.checking = true ∨ s.posted ≠ [])) →
    ∃ t, exec (.busFault offset) s = .next t ∧ Sys2Proof.Machine.FaultEntered s .bus (s.part.base + offset) t

/-! ### Chapter 1: sensing -/

/-- A scan timer expiry (R3 to R7): with the round state IDLE a round starts, the staged period and prescale adopted, the list
the strips below n that are not OFF, the timer reloaded with the adopted period; with a round RUNNING the missed-round counter
counts up and the timer is reloaded. That the command has no effect while the timer is stopped is the model's choice (log 3). -/
def Obligations.ScanTimerExpiryStartsOrMisses : Prop :=
  ∀ s : State,
    (s.scanner.timer ≠ none → s.scanner.round = .idle →
      exec .scanTimerExpiry s = .next { s with scanner := { s.scanner with
        period := s.scanner.periodStaged, prescale := s.scanner.prescaleStaged, timer := some s.scanner.periodStaged,
        round := .running, warm := false, position := 0,
        list := allStrips.filter fun i => i.val < s.part.header.strips ∧ (s.strip i).state ≠ .off } }) ∧
    (s.scanner.timer ≠ none → s.scanner.round = .running →
      exec .scanTimerExpiry s = .next { s with scanner := { s.scanner with
        missed := s.scanner.missed + 1, timer := some s.scanner.period } }) ∧
    (s.scanner.timer = none → exec .scanTimerExpiry s = .next s)

/-- The reference conversions of a round (R3, R8 to R11): REF_HI's code is kept for the check. In the warm round no check is
made at REF_LO, and the strips follow. In any other round the check passes at 1008 or above and 15 or below, the run count is 0
and the strips follow, or an empty round ends; a failed check ends the round, counts a failure and the run, sets SCAN at the
run's first failure, and at the sixteenth in a row makes the part FAULTED with code SCAN, PFADR kept, and all that FaultEntered
says. -/
def Obligations.ReferenceCheckDecides : Prop :=
  ∀ (s : State) (code : Code), s.scanner.enabled = true → s.scanner.round = .running →
    (s.scanner.position = 0 → exec (.conversionComplete code) s = .next { s with scanner := { s.scanner with
      longNext := false, refHi := code.toNat, position := 1 } }) ∧
    (s.scanner.position = 1 → s.scanner.warm = true → exec (.conversionComplete code) s = .next { s with
      scanner := { s.scanner with longNext := false, position := 2 } }) ∧
    (s.scanner.position = 1 → s.scanner.warm = false →
      (1008 ≤ s.scanner.refHi ∧ code.toNat ≤ 15 →
        (s.scanner.list ≠ [] → exec (.conversionComplete code) s = .next { s with scanner := { s.scanner with
          longNext := false, runCount := 0, position := 2 } }) ∧
        (s.scanner.list = [] → exec (.conversionComplete code) s = .next { s with scanner := { s.scanner with
          longNext := false, runCount := 0, round := .idle, warm := false, list := [], position := 0 } })) ∧
      (¬ (1008 ≤ s.scanner.refHi ∧ code.toNat ≤ 15) →
        (s.scanner.runCount + 1 ≠ 16 → exec (.conversionComplete code) s = .next { s with
          scanner := { s.scanner with
            longNext := false, runCount := s.scanner.runCount + 1, refFailures := s.scanner.refFailures + 1,
            round := .idle, warm := false, list := [], position := 0 }
          attention := if s.scanner.runCount = 0 then s.attention.set .scan else s.attention }) ∧
        (s.scanner.runCount + 1 = 16 → ∃ t, exec (.conversionComplete code) s = .next t ∧
          Sys2Proof.Machine.FaultEntered
            { s with scanner := { s.scanner with runCount := 16, refFailures := s.scanner.refFailures + 1 } }
            .scan s.part.pfadr t)))

/-- A strip's conversion (R3, R8, R12): in a passed round it delivers a sample arrival with the code; the round's last
conversion ends it, any other goes on; the warm round delivers none, and its last conversion is entry to RUNNING (R182):
the three header words of R200 handed (report count 0, the part time and bank A), MOTOR_EN high, the scan, touch scan, sweep and
report timers started with the periods loaded, bank A and report count 0, STATE set. -/
def Obligations.StripConversionDelivers : Prop :=
  ∀ (s : State) (code : Code) (k : Nat) (i : StripId), s.scanner.enabled = true → s.scanner.round = .running →
    s.scanner.position = k + 2 → s.scanner.list[k]? = some i →
    (s.scanner.warm = false → k + 1 < s.scanner.list.length →
      exec (.conversionComplete code) s = .next { s with
        inFlight := s.inFlight ++ [.sampleArrival i code]
        scanner := { s.scanner with longNext := false, position := k + 3 } }) ∧
    (s.scanner.warm = false → k + 1 = s.scanner.list.length →
      exec (.conversionComplete code) s = .next { s with
        inFlight := s.inFlight ++ [.sampleArrival i code]
        scanner := { s.scanner with longNext := false, round := .idle, list := [], position := 0 } }) ∧
    (s.scanner.warm = true → k + 1 < s.scanner.list.length →
      exec (.conversionComplete code) s = .next { s with
        scanner := { s.scanner with longNext := false, position := k + 3 } }) ∧
    (s.scanner.warm = true → k + 1 = s.scanner.list.length →
      let header : List PostedWrite := [{ offset := 40, data := 0, note := .plain },
        { offset := 44, data := s.part.time, note := .plain }, { offset := 36, data := 0, note := .plain }]
      let u := s.postAll header
      exec (.conversionComplete code) s = .next { u with
        part := { s.part with state := .running }
        motors := { s.motors with enable := true }
        scanner := { s.scanner with
          longNext := false, round := .idle, warm := false, list := [], position := 0, timer := some s.scanner.period }
        touchScan := { s.touchScan with timer := true }
        sweep := { s.sweep with period := s.sweep.periodStaged, timer := some s.sweep.periodStaged }
        reporter := { u.reporter with
          bank := .a, count := 0, period := s.reporter.periodStaged, timer := some s.reporter.periodStaged }
        attention := u.attention.set .state } ∧
      u.inFlight = s.inFlight ∧ u.strips = s.strips ∧
      (s.reporter.run = none → s.posted.length ≤ 5 → u.posted = s.posted ++ header ∧ u.memory = s.memory))

/-- The travel position of a code by a calibration record, as R15 tables it. -/
def Sys2Proof.Machine.travelOf (c : CalRecord) (r : Nat) : Nat :=
  if r ≤ c.bottom then 0 else if c.top ≤ r then 4095
  else ((r - c.bottom) * 8190 + (c.top - c.bottom)) / (2 * (c.top - c.bottom))

/-- A strip once an arrival's staged values are adopted: its settings and its class (R29), and, where its source changes from
LINK to CELLS, the stream target removed, the relatch flag cleared, stream motion turned into a settle with its counts 0, and a
wait for a stream into IDLE (R75). -/
def Sys2Proof.Machine.adopted (s : State) (i : StripId) : Strip :=
  let x := s.strip i
  let y := { x with settings := x.staged, servo := s.servoLoaded[x.staged.servoClass] }
  let z := { y with streamTarget := none, relatch := false }
  if x.settings.source = .link ∧ x.staged.source = .cells then
    if x.state = .moving ∧ x.current = none then { z with state := .settling, settleCount := 0, settleTime := 0 }
    else if x.state = .waiting .stream then { z with state := .idle }
    else z
  else y

/-- The withdrawal that R75 makes of a strip waiting for a stream. -/
def Sys2Proof.Machine.adoptionEffects (s : State) (i : StripId) : List Effect :=
  let x := s.strip i
  if x.settings.source = .link ∧ x.staged.source = .cells ∧ x.state = .waiting .stream then [.withdraw] else []

/-- What an arrival senses at the adopted strip: r and p (R12, R15; 0 in UNCAL and without a valid record, log 8), p_rep (R16) and
v (R86), by the state in which the arrival is taken. -/
def Sys2Proof.Machine.sensed (s : State) (i : StripId) (code : Code) : Strip :=
  let y := adopted s i
  let p := if y.state = .uncal ∨ y.cal.valid = false then 0 else travelOf y.cal code.toNat
  let driving := y.state = .moving ∨ y.state = .settling ∨ y.state = .following ∨ y.state = .calibrating
  let vTakes := y.state = .moving ∨ (y.state = .settling ∧ y.current ≠ none) ∨ y.state = .touched
  { y with
    r := code.toNat, p := p
    pRep := if y.pRepSet = false ∨ driving ∨ y.settings.jitter ≤ ((p : Int) - y.pRep).natAbs then p else y.pRep
    pRepSet := true
    v := if y.pRepSet = false ∨ vTakes then (p : Int) else y.v }

/-- The leader's arrival at the Gang Table (R92): p_L takes the leader's p, and a follow update carrying it goes to each follower
in the order of the member list. Any other strip's arrival does nothing there. -/
def Sys2Proof.Machine.leaderTells (t : State) (i : StripId) : State :=
  let x := t.strip i
  match x.role, x.gang with
  | .leader, some g =>
    match (t.gang g).activity with
    | some a =>
      { t with
        gangs := t.gangs.set g { t.gang g with activity := some { a with pL := x.p } }
        inFlight := t.inFlight ++ ((t.gang g).members.filter fun j => decide ((t.strip j).role = .follower)).map
          fun j => .followUpdate j x.p }
    | none => t
  | _, _ => t

/-- A sample arrival leaves its strip as `z`, has the effects `es` in that order, and is told to the Gang Table if the strip leads;
everything else is as it was. -/
def Sys2Proof.Machine.ArrivalGives (s : State) (i : StripId) (code : Code) (z : Strip) (es : List Effect) : Prop :=
  exec (.sampleArrival i code) s = .next (leaderTells
    ((({ s with inFlight := s.inFlight.erase (.sampleArrival i code) } : State).setStrip i z).effects i es) i)

/-- A FINISH record of an entry, with a position (R69). -/
def Sys2Proof.Machine.finishOf (i : StripId) (k : FinishKind) (e : Entry) (p : Nat) : Effect :=
  .record (.finish i k e.tag e.origin p)

/-- A strip that has become IDLE makes the start check (R59): its first queued entry becomes current and is requested, where none is
current and the queue is not frozen. -/
def Sys2Proof.Machine.startChecked (x : Strip) : Strip × List Effect :=
  match x.queue with
  | e :: rest =>
    if x.current = none ∧ x.freeze = false then
      ({ x with queue := rest, current := some e, restart := false, state := .waiting .move }, [.request e.priority])
    else (x, [])
  | [] => (x, [])

/-- An arrival taken in a state that does not drive. In UNCAL, WAITING and STALLED nothing follows. In IDLE the first queued entry
starts where none is current and the queue is not frozen (R59); otherwise the stream test is made (R72). In TOUCHED the trail is
sampled at its interval, and a buffer of 8 positions is written and emptied (R79, R80). -/
def Sys2Proof.Machine.RestingArrival (s : State) (i : StripId) (code : Code) : Prop :=
  let y := sensed s i code
  let w := adoptionEffects s i
  let far := ∃ t, y.streamTarget = some t ∧ y.settings.source = .link ∧ y.relatch = false ∧
    y.servo.deadband < ((t : Int) - y.p).natAbs
  let n := y.trailStep + 1
  let ps := y.trail ++ [y.p]
  (y.state = .uncal ∨ y.state.isWaiting = true ∨ y.state = .stalled → ArrivalGives s i code y []) ∧
  (∀ e rest, y.state = .idle → y.queue = e :: rest → y.current = none → y.freeze = false → ArrivalGives s i code
    { y with queue := rest, current := some e, restart := false, state := .waiting .move }
    (w ++ [.request e.priority])) ∧
  (y.state = .idle → y.queue = [] ∨ y.current ≠ none ∨ y.freeze = true →
    (far → ArrivalGives s i code { y with state := .waiting .stream } (w ++ [.request y.settings.priority])) ∧
    (¬ far → ArrivalGives s i code y w)) ∧
  (y.state = .touched →
    (y.settings.trail = 0 → ArrivalGives s i code y []) ∧
    (n < y.settings.trail → ArrivalGives s i code { y with trailStep := n } []) ∧
    (y.settings.trail ≠ 0 → y.settings.trail ≤ n →
      (ps.length < 8 → ArrivalGives s i code { y with trailStep := 0, trail := ps } []) ∧
      (8 ≤ ps.length → ArrivalGives s i code { y with trailStep := 0, trail := [] } [.record (.trail i ps)])))

/-- A sample arrival (R12, R15, R16, R29, R75, R86): in OFF it is discarded; in any other state the staged STRIP and SERVO values
are adopted, with what a change of source does (the state as the arrival is taken decides, also for a strip turned OFF and ON again
within one round, the model's choice, log 40), r takes the code and p the position (0 in UNCAL and without a valid record, log
8), and p_rep is set and updated, and v with it; every other context, every gang's member list, and everything but the blocks a
context writes to is as it was. What follows in the states at rest is stated whole by RestingArrival; the driving states are
stated below. -/
def Obligations.SampleArrivalSenses : Prop :=
  ∀ (s : State) (i : StripId) (code : Code),
    ((s.strip i).state = .off →
      exec (.sampleArrival i code) s = .next { s with inFlight := s.inFlight.erase (.sampleArrival i code) }) ∧
    ((s.strip i).state ≠ .off → ∃ t, exec (.sampleArrival i code) s = .next t ∧
      t = { s with
        strips := t.strips, gangs := t.gangs, writer := t.writer, inFlight := t.inFlight, motors := t.motors,
        attention := t.attention } ∧
      (t.strip i).r = code.toNat ∧
      (t.strip i).p = (if (s.strip i).state = .uncal ∨ (s.strip i).cal.valid = false then 0
        else Sys2Proof.Machine.travelOf (s.strip i).cal code.toNat) ∧
      (t.strip i).pRepSet = true ∧
      ((s.strip i).pRepSet = false → (t.strip i).pRep = (t.strip i).p) ∧
      (t.strip i).settings = (s.strip i).staged ∧
      (t.strip i).servo = s.servoLoaded[(s.strip i).staged.servoClass] ∧
      (t.strip i).pRep = (Sys2Proof.Machine.sensed s i code).pRep ∧
      (t.strip i).streamTarget = (Sys2Proof.Machine.sensed s i code).streamTarget ∧
      (t.strip i).relatch = (Sys2Proof.Machine.sensed s i code).relatch ∧
      ((s.strip i).state ≠ .calibrating → (t.strip i).v = (Sys2Proof.Machine.sensed s i code).v) ∧
      (∀ j : StripId, j ≠ i → t.strip j = s.strip j) ∧
      ∀ g : GangId, (t.gang g).members = (s.gang g).members) ∧
    ((s.strip i).state ≠ .off → Sys2Proof.Machine.RestingArrival s i code)

/-- The drive law (R36) of an error in a class. -/
def Sys2Proof.Machine.driveOf (k : ServoClass) (e : Int) : Int :=
  let t := e.natAbs * k.kp / 64
  let mag : Int := (min 255 (if t ≠ 0 ∧ t < k.umin then k.umin else t) : Nat)
  if e.natAbs ≤ k.deadband then 0 else if 0 ≤ e then mag else -mag

/-- A guide moved toward an aim by at most Vmax (R40). -/
def Sys2Proof.Machine.chased (vmax g aim : Nat) : Nat :=
  if ((aim : Int) - g).natAbs ≤ vmax then aim else if g < aim then g + vmax else g - vmax

/-- A strip that has left its gang's activity (R98): a follower or trimming member with role none, no follower target and its queue
not frozen. -/
def Sys2Proof.Machine.outOfActivity (x : Strip) : Strip :=
  if x.role = .follower ∨ x.role = .trimming then { x with role := .outside, followTarget := none, freeze := false } else x

/-- A strip after a stall (R43, R98): no entry left, the finishes counted, the grant given up, every count 0. -/
def Sys2Proof.Machine.stripStalled (x : Strip) : Strip :=
  { outOfActivity x with
    state := .stalled, current := none, queue := [], chainStart := none, grantHeld := false, settleCount := 0
    settleTime := 0, stallCount := 0, restart := if x.current = none then x.restart else false
    stalls := x.stalls + (if x.current = none then 0 else 1), flushed := x.flushed + BitVec.ofNat 16 x.queue.length }

/-- What a stall does beside the context (R43): its finishes, the current entry's first, drive 0, the grant returned, a FAULT record
and the STRIP cause. -/
def Sys2Proof.Machine.stallEffects (i : StripId) (x : Strip) : List Effect :=
  (x.current.toList.map fun e => finishOf i .stalled e x.p) ++ (x.queue.map fun e => finishOf i .flushed e x.p) ++
    [.drive 0, .giveBack, .record (.fault i .stall), .cause .strip]

/-- An arrival in MOVING with an entry (R33 to R37, R41, R43): the profile computed where none is set, the guide's step, the drive
value and the stall count; at L the strip stalls; at the last step it chains to a queued entry that may start, or settles. -/
def Sys2Proof.Machine.MovingArrival (s : State) (i : StripId) (code : Code) : Prop :=
  let y := sensed s i code
  ∀ e, y.state = .moving → y.current = some e →
    let g0 := y.chainStart.getD y.p
    let d : Int := (e.target : Int) - g0
    let nd := ((if y.restart then 0 else e.duration) * 1000 + s.scanner.period - 1) / s.scanner.period
    let nv := (d.natAbs + y.servo.vmax - 1) / y.servo.vmax
    let q := if y.profile.set then y.profile else
      { set := true, start := g0, dist := d, steps := max (max nd nv) 1, k := 0, guide := g0 }
    let off := (2 * q.dist.natAbs * (q.k + 1) + q.steps) / (2 * q.steps)
    let g := ((q.start : Int) + (if 0 ≤ q.dist then (off : Int) else -(off : Int))).toNat
    let err := (g : Int) - y.p
    let stall := if y.servo.stallErr < err.natAbs then (if y.profile.set then y.stallCount else 0) + 1 else 0
    let z := { y with
      profile := { q with k := q.k + 1, guide := g }, stallCount := stall
      chainStart := if y.profile.set then y.chainStart else none }
    let u := Effect.drive (driveOf y.servo err)
    (y.servo.limit ≤ stall → ArrivalGives s i code (stripStalled z) (stallEffects i z)) ∧
    (stall < y.servo.limit → q.k + 1 ≠ q.steps → ArrivalGives s i code z [u]) ∧
    (stall < y.servo.limit → q.k + 1 = q.steps →
      (∀ e' rest, y.queue = e' :: rest → y.freeze = false → ArrivalGives s i code
        { z with
          current := some e', queue := rest, restart := false, chainStart := some e.target, arrived := y.arrived + 1
          profile := { z.profile with set := false } }
        [u, finishOf i .arrived e y.p]) ∧
      (y.queue = [] ∨ y.freeze = true → ArrivalGives s i code
        { z with state := .settling, settleCount := 0, settleTime := 0 } [u]))

/-- An arrival in FOLLOWING, and in stream motion (R40, R41, R43, R73): the guide moved toward its aim, from p where the profile set
flag is clear; the drive value and the stall count; and in stream motion the count of arrivals at rest on the target, with the
motion's end at S, in IDLE with the start check (R59). -/
def Sys2Proof.Machine.ChasingArrival (s : State) (i : StripId) (code : Code) : Prop :=
  let y := sensed s i code
  ∀ aim,
    let g := chased y.servo.vmax (if y.profile.set then y.profile.guide else y.p) aim
    let err := (g : Int) - y.p
    let stall := if y.servo.stallErr < err.natAbs then y.stallCount + 1 else 0
    let z := { y with profile := { y.profile with set := true, guide := g }, stallCount := stall }
    let u := Effect.drive (driveOf y.servo err)
    let n := if g = aim ∧ err.natAbs ≤ y.servo.deadband then y.settleCount + 1 else 0
    let streams := y.state = .moving ∧ y.current = none ∧ y.streamTarget = some aim
    ((y.state = .following ∧ y.followTarget = some aim) ∨ streams → y.servo.limit ≤ stall →
      ArrivalGives s i code (stripStalled z) (stallEffects i z)) ∧
    (y.state = .following → y.followTarget = some aim → stall < y.servo.limit → ArrivalGives s i code z [u]) ∧
    (streams → stall < y.servo.limit →
      (n < y.servo.settled → ArrivalGives s i code { z with settleCount := n } [u]) ∧
      (y.servo.settled ≤ n →
        let r := startChecked { z with settleCount := 0, state := .idle, grantHeld := false }
        ArrivalGives s i code r.1 ([u, .drive 0, .giveBack] ++ r.2)))

/-- An arrival in SETTLING (R38, R39): the counts; at S inside the deadband the settle ends, an entry finishing ARRIVED and a queued
entry that may start becoming current; past L it stalls; otherwise the drive value is written. -/
def Sys2Proof.Machine.SettlingArrival (s : State) (i : StripId) (code : Code) : Prop :=
  let y := sensed s i code
  let err := (y.profile.guide : Int) - y.p
  let n := if err.natAbs ≤ y.servo.deadband then y.settleCount + 1 else 0
  let z := { y with settleCount := n, settleTime := y.settleTime + 1 }
  let ended := { z with
    state := .idle, current := none, grantHeld := false, restart := if y.current = none then y.restart else false
    arrived := y.arrived + (if y.current = none then 0 else 1) }
  let es := (y.current.toList.map fun e => finishOf i .arrived e y.p) ++ [.drive 0, .giveBack]
  y.state = .settling →
    (n < y.servo.settled → y.settleTime + 1 ≤ y.servo.limit → ArrivalGives s i code z [.drive (driveOf y.servo err)]) ∧
    (n < y.servo.settled → y.servo.limit < y.settleTime + 1 →
      ArrivalGives s i code (stripStalled z) (stallEffects i z)) ∧
    (y.servo.settled ≤ n → y.queue = [] ∨ y.freeze = true → ArrivalGives s i code ended es) ∧
    (∀ e rest, y.servo.settled ≤ n → y.queue = e :: rest → y.freeze = false → ArrivalGives s i code
      { ended with queue := rest, current := some e, restart := false, state := .waiting .move }
      (es ++ [.request e.priority]))

/-- The servo step in MOVING (R33, R35, R36, R41) of a strip with nothing newly staged, its profile planned, not at its last
step and not stalling: k counts up, the guide is g0 plus D × k / N rounded half away from zero, the stall count follows the
error, and the drive written is 0 inside the deadband, otherwise |e| × Kp / 64 raised to Umin unless 0, kept to 255, with the
sign of e; the MOVING state and the entry stay. The whole step of every MOVING, FOLLOWING and SETTLING strip, stream motion
included, stands in MovingArrival, ChasingArrival and SettlingArrival. -/
def Obligations.ServoStepDrives : Prop :=
  (∀ (s : State) (i : StripId) (code : Code), (s.strip i).state ≠ .off →
    Sys2Proof.Machine.MovingArrival s i code ∧ Sys2Proof.Machine.ChasingArrival s i code ∧
      Sys2Proof.Machine.SettlingArrival s i code) ∧
  ∀ (s : State) (i : StripId) (code : Code) (e : Entry),
    let x := s.strip i
    let q := x.profile
    let p := if x.cal.valid = false then 0 else Sys2Proof.Machine.travelOf x.cal code.toNat
    let off := (2 * q.dist.natAbs * (q.k + 1) + q.steps) / (2 * q.steps)
    let g := ((q.start : Int) + (if 0 ≤ q.dist then (off : Int) else -(off : Int))).toNat
    let err := (g : Int) - p
    let stall := if x.servo.stallErr < err.natAbs then x.stallCount + 1 else 0
    let t0 := err.natAbs * x.servo.kp / 64
    let mag := min 255 (if t0 ≠ 0 ∧ t0 < x.servo.umin then x.servo.umin else t0)
    x.state = .moving → x.current = some e → x.staged = x.settings → x.servo = s.servoLoaded[x.settings.servoClass] →
    q.set = true → q.k + 1 < q.steps → stall < x.servo.limit → x.role ≠ .leader →
    ∃ t, exec (.sampleArrival i code) s = .next t ∧
      (t.strip i).profile = { q with k := q.k + 1, guide := g } ∧ (t.strip i).stallCount = stall ∧
      (t.strip i).state = .moving ∧ (t.strip i).current = some e ∧ (t.strip i).pRep = p ∧ (t.strip i).v = p ∧
      t.drive i = (if err.natAbs ≤ x.servo.deadband then 0 else if 0 ≤ err then (mag : Int) else -(mag : Int)) ∧
      (∀ j : StripId, j ≠ i → t.drive j = s.drive j) ∧
      t.writer = s.writer ∧ t.attention = s.attention ∧ t.gangs = s.gangs

/-- A touch scan timer expiry (R18 to R23): staged values are adopted; each strip below n that is neither OFF nor under IGNORE
is read and debounced with Ton (Ton + 2 while its drive is not zero) and Toff, a full run delivering touch-on or touch-off; an
IGNORE strip goes UNTOUCHED, with a touch-off if it was TOUCHED; events come in ascending strip number. That any other strip, OFF
ones under IGNORE included, goes UNTOUCHED with no event is DEDUCED (log 18), and that the command has no effect while the timer is
stopped is the model's choice (log 3). -/
def Obligations.TouchScanDebounces : Prop :=
  ∀ (s : State) (tch : BitVec 32),
    (s.touchScan.timer = false → exec (.touchScanTimerExpiry tch) s = .next s) ∧
    (s.touchScan.timer = true → ∃ (t : State) (event : StripId → Option Instr),
      exec (.touchScanTimerExpiry tch) s = .next t ∧
      t = { s with touchScan := t.touchScan, inFlight := s.inFlight ++ allStrips.filterMap event } ∧
      t.touchScan.timer = true ∧ t.touchScan.force = s.touchScan.staged ∧
      ∀ i : StripId,
        let c := s.touchScan.chans[i]
        let n := min 17 (c.run + 1)
        let need := if s.drive i = 0 then s.touchScan.staged.ton else s.touchScan.staged.ton + 2
        let here := i.val < s.part.header.strips ∧ (s.strip i).state ≠ .off
        let read := here ∧ (s.strip i).settings.policy = .active
        let touched := tch.getLsbD i.val = true
        (¬ here → t.touchScan.chans[i] = { touched := false, run := 0 } ∧ event i = none) ∧
        (here → (s.strip i).settings.policy = .ignore → t.touchScan.chans[i] = { touched := false, run := 0 } ∧
          event i = if c.touched then some (.touchOff i) else none) ∧
        (read → c.touched = false → touched → need ≤ n →
          t.touchScan.chans[i] = { touched := true, run := 0 } ∧ event i = some (.touchOn i)) ∧
        (read → c.touched = false → touched → n < need →
          t.touchScan.chans[i] = { touched := false, run := n } ∧ event i = none) ∧
        (read → c.touched = true → ¬ touched → s.touchScan.staged.toff ≤ n →
          t.touchScan.chans[i] = { touched := false, run := 0 } ∧ event i = some (.touchOff i)) ∧
        (read → c.touched = true → ¬ touched → n < s.touchScan.staged.toff →
          t.touchScan.chans[i] = { touched := true, run := n } ∧ event i = none) ∧
        (read → (c.touched = true ↔ touched) → t.touchScan.chans[i] = { touched := c.touched, run := 0 } ∧
          event i = none))

/-! ### Chapter 4: the hand on the fader -/

/-- A strip after a touch-on that leaves it TOUCHED, UNCAL or STALLED with no calibration run ended (R77, R78): counted, its touch
flag set, and, in the rows that lead to TOUCHED, its grant given up, its profile and counts cleared and its trail empty. One that
is TOUCHED already keeps all that (log 9), and one in UNCAL or STALLED keeps the positions a CALIBRATE abort left in its trail
buffer (log 32). -/
def Sys2Proof.Machine.touchedStrip (x : Strip) : Strip :=
  let y := { x with touches := x.touches + 1, touch := true }
  if x.state = .touched ∨ x.state = .uncal ∨ x.state = .stalled then y
  else { y with
    state := .touched, grantHeld := if x.state.driving then false else x.grantHeld
    chainStart := if x.state = .moving then none else x.chainStart, profile := { x.profile with set := false }
    settleCount := 0, settleTime := 0, trail := [], trailStep := 0 }

/-- What such a touch-on does beside the context (R77, R78): the TOUCH record with the last p, drive 0, and the grant returned
or the request withdrawn. -/
def Sys2Proof.Machine.touchEffects (i : StripId) (x : Strip) : List Effect :=
  [.record (.touch i x.p), .drive 0] ++
    (if x.state.driving then [.giveBack] else if x.state.isWaiting then [.withdraw] else [])

/-- A strip after a touch-on that ends its calibration (R50, R77, R78): counted, its touch flag set, its grant given up, the run
cut and its record no longer valid, in UNCAL. It keeps its trail buffer (log 32). -/
def Sys2Proof.Machine.calibrationTouched (x : Strip) : Strip :=
  let y := { x with
    touches := x.touches + 1, touch := true, state := .uncal
    grantHeld := if x.state = .calibrating then false else x.grantHeld }
  match x.calRun with
  | some _ => { y with calRun := none, cut := x.cut + 1, cal := { x.cal with valid := false } }
  | none => y

/-- What such a touch-on does beside the context, in its order: the TOUCH record with the last p and drive 0 (R77); drive 0 and the
grant returned, or the request withdrawn; and the run's FINISH record of kind CUT under its tag, with the last p (R50). -/
def Sys2Proof.Machine.calibrationTouchEffects (i : StripId) (x : Strip) : List Effect :=
  [.record (.touch i x.p), .drive 0] ++ (if x.state = .calibrating then [.drive 0, .giveBack] else [.withdraw]) ++
    x.calRun.toList.map fun r => .record (.finish i .cut r.tag .cell x.p)

/-- A touch-on (R77, R78): discarded in OFF; otherwise the touches counter counts, the touch flag is set, the drive is 0, and
the state becomes UNCAL from CALIBRATING or waiting to calibrate, the run finishing CUT, counted by the CUT counter, and the valid
flag cleared (R50), stays UNCAL or STALLED, and is TOUCHED from every other; that a TOUCHED strip stays so (log 9), and that a strip
left UNCAL or STALLED keeps its trail buffer (log 32), is the model's choice. Said of a strip in no gang, of one that does
not become TOUCHED, and of a leader, the TOUCH record carries the last p, and where no calibration ends it is the one record
handed; the entries stay; other contexts and every gang are as they were. -/
def Obligations.TouchOnChangesState : Prop :=
  ∀ (s : State) (i : StripId),
    ((s.strip i).state = .off →
      exec (.touchOn i) s = .next { s with inFlight := s.inFlight.erase (.touchOn i) }) ∧
    ((s.strip i).state ≠ .off →
        ((s.strip i).gang = none ∨ (s.strip i).state = .uncal ∨ (s.strip i).state = .stalled ∨
          (s.strip i).state = .calibrating ∨ (s.strip i).state = .waiting .calibrate ∨
          ∃ g a, (s.strip i).gang = some g ∧ (s.gang g).activity = some a ∧ a.leader = i) →
        ∃ t, exec (.touchOn i) s = .next t ∧
      let x := s.strip i
      let y := t.strip i
      let ending := x.state = .calibrating ∨ x.state = .waiting .calibrate
      y.touches = x.touches + 1 ∧ y.touch = true ∧ t.drive i = 0 ∧ y.current = x.current ∧ y.queue = x.queue ∧
      y.state = (if ending ∨ x.state = .uncal then StripState.uncal
        else if x.state = .stalled then StripState.stalled else StripState.touched) ∧
      (ending → x.calRun ≠ none → y.cal = { x.cal with valid := false } ∧ y.calRun = none) ∧
      (¬ ending → y.cal = x.cal ∧
        t.writer = (s.handRecord (.touch i x.p)).writer) ∧
      (x.state.driving = true → y.grantHeld = false ∧ Instr.grantReturn i ∈ t.inFlight) ∧
      (x.state.isWaiting = true → Instr.grantWithdrawal i ∈ t.inFlight) ∧
      (¬ ending → t = (({ s with inFlight := s.inFlight.erase (.touchOn i) } : State).setStrip i
        (Sys2Proof.Machine.touchedStrip x)).effects i (Sys2Proof.Machine.touchEffects i x)) ∧
      (ending → t = (({ s with inFlight := s.inFlight.erase (.touchOn i) } : State).setStrip i
        (Sys2Proof.Machine.calibrationTouched x)).effects i (Sys2Proof.Machine.calibrationTouchEffects i x)) ∧
      (ending → ∀ r, x.calRun = some r → y.cut = x.cut + 1) ∧
      (∀ j : StripId, j ≠ i → t.strip j = s.strip j ∧ t.drive j = s.drive j) ∧ t.gangs = s.gangs ∧
      t = { s with
        strips := t.strips, writer := t.writer, inFlight := t.inFlight, motors := t.motors, attention := t.attention })

/-- Gang activity begins (R90) at a touch-on that leaves a member TOUCHED while its gang has none: the strip leads, v takes its
p, the gang's activity names it and p_L its p, and one join goes to each other member that is not in an excluded state, in the
order of the member list, carrying p_L and the activity's fresh serial number, the model's own (log 25); nothing else is sent, and
every other context is as it was. In a gang with activity (R93) the strip, unless it
leads, is trimming and has no follower target; one that had not entered yet enters now: its current entry finishes GANGED and its
queue is frozen. That a strip TOUCHED already takes part as any other is the model's choice (log 9). -/
def Obligations.TouchOnStartsGangActivity : Prop :=
  (∀ (s : State) (i : StripId) (g : GangId) (a : Activity),
    let x := s.strip i
    let entering := x.role = .outside ∧ x.freeze = false
    let z := Sys2Proof.Machine.touchedStrip x
    let u : State := { s with inFlight := s.inFlight.erase (.touchOn i) }
    x.gang = some g → (s.gang g).activity = some a → a.leader ≠ i →
    x.state ≠ .off → x.state ≠ .uncal → x.state ≠ .stalled → x.state ≠ .calibrating → x.state ≠ .waiting .calibrate →
    (¬ entering → exec (.touchOn i) s = .next ((u.setStrip i { z with role := .trimming, followTarget := none }).effects i
      (Sys2Proof.Machine.touchEffects i x))) ∧
    (entering → exec (.touchOn i) s = .next ((u.setStrip i { z with
      role := .trimming, followTarget := none, freeze := true, current := none, restart := false, chainStart := none
      }).effects i (Sys2Proof.Machine.touchEffects i x ++
        x.current.toList.map fun e => Sys2Proof.Machine.finishOf i .ganged e x.p)))) ∧
  ∀ (s : State) (i : StripId) (g : GangId), (s.strip i).gang = some g → (s.gang g).activity = none →
    (s.strip i).state ≠ .off → (s.strip i).state ≠ .uncal → (s.strip i).state ≠ .stalled →
    (s.strip i).state ≠ .calibrating → (s.strip i).state ≠ .waiting .calibrate →
    let x := s.strip i
    let v := ((({ s with inFlight := s.inFlight.erase (.touchOn i) } : State).setStrip i
      { Sys2Proof.Machine.touchedStrip x with role := .leader, v := x.p, freeze := false, followTarget := none }).effects i
        (Sys2Proof.Machine.touchEffects i x)).handRecord (.gang g i .start)
    let join : JoinArgs := { gang := g, serial := (s.gang g).serial + 1, handovers := 0, pL := x.p }
    ∃ t, exec (.touchOn i) s = .next t ∧
      t = { v with
        gangs := t.gangs
        inFlight := v.inFlight ++ ((s.gang g).members.filter fun j => j ≠ i ∧ (s.strip j).state ≠ .off ∧
          (s.strip j).state ≠ .uncal ∧ (s.strip j).state ≠ .stalled ∧ (s.strip j).state ≠ .calibrating ∧
          (s.strip j).state ≠ .waiting .calibrate).map fun j => .gangJoin j join } ∧
      (t.strip i).state = .touched ∧ (t.strip i).role = .leader ∧ (t.strip i).v = x.p ∧
      (t.strip i).freeze = false ∧ (t.strip i).touch = true ∧ t.drive i = 0 ∧
      t.gang g = { s.gang g with
        activity := some { leader := i, pL := x.p, handovers := 0 }, serial := (s.gang g).serial + 1 } ∧
      (∀ j : StripId, j ≠ i → t.strip j = s.strip j) ∧ (∀ k : GangId, k ≠ g → t.gang k = s.gang k)

/-- A gang's activity ended at a leader's departure (R96): no activity, the leader's role none, a GANG record of event end, and an
end event to each follower in the order of the member list. -/
def Sys2Proof.Machine.activityEnds (v : State) (g : GangId) (i : StripId) : State :=
  let w := ((v.setGang g { v.gang g with activity := none }).setStrip i { v.strip i with role := .outside }).handRecord
    (.gang g i .ended)
  { w with inFlight := w.inFlight ++
      ((v.gang g).members.filter fun j => decide (j ≠ i ∧ (v.strip j).role = .follower)).map .gangEnd }

/-- Leadership passed from `i` to the trimming member `new` (R95): the Gang Table names it with its p as p_L, a GANG record of event
leader, its role, v and freeze flag (items 1 to 3); then what `old` does to the departing strip (item 4); then a re-offset event to
each other follower in the order of the member list (item 5). -/
def Sys2Proof.Machine.leadershipPasses (v : State) (g : GangId) (a : Activity) (i new : StripId)
    (old : State → Nat → State) : State :=
  let p := (v.strip new).p
  let w := old (((v.setGang g
      { v.gang g with activity := some { leader := new, pL := p, handovers := a.handovers + 1 } }).setStrip new
      { v.strip new with role := .leader, v := p, freeze := false }).handRecord (.gang g new .leader)) p
  { w with inFlight := w.inFlight ++
      ((v.gang g).members.filter fun j => decide (j ≠ i ∧ (v.strip j).role = .follower)).map fun j => .reOffset j p }

/-- The trimming members of a gang, in the order of its member list. -/
def Sys2Proof.Machine.trimmers (v : State) (g : GangId) : List StripId :=
  (v.gang g).members.filter fun j => decide ((v.strip j).role = .trimming)

/-- A strip after steps 1 to 3 and 5 of a release (R82): the trail empty, the touch flag clear, v its last p, and no entry with its
touch-time flag set. -/
def Sys2Proof.Machine.letGoOf (x : Strip) : Strip :=
  { x with
    trail := [], trailStep := 0, touch := false, v := x.p
    current := x.current.map fun e => { e with touchTime := false }
    queue := x.queue.map fun e => { e with touchTime := false } }

/-- The records of steps 1 and 3 of a release (R82): a TRAIL record where the buffer holds positions, and the RELEASE record. -/
def Sys2Proof.Machine.releaseEffects (i : StripId) (x : Strip) : List Effect :=
  (if x.trail = [] then [] else [.record (.trail i x.trail)]) ++ [.record (.release i x.p)]

/-- A release whole (R82 to R84) as the strip and its effects. In STAY the current entry finishes CUT and each queued entry without
the touch-time flag FLUSHED, the relatch flag is set under LINK with the target held (R71), and the strip is IDLE; in RETURN a
current entry is marked for a restart and requested, and without one the strip is IDLE. An IDLE strip makes the start check. -/
def Sys2Proof.Machine.released (i : StripId) (x : Strip) : Strip × List Effect :=
  let y := letGoOf x
  let es := releaseEffects i x
  match x.settings.release, x.current with
  | .stay, _ =>
    let out := x.queue.filter fun e => !e.touchTime
    let z := { y with
      state := .idle, current := none, restart := false, cut := x.cut + (if x.current = none then 0 else 1)
      queue := (x.queue.filter (·.touchTime)).map fun e => { e with touchTime := false }
      flushed := x.flushed + BitVec.ofNat 16 out.length
      relatch := if x.settings.source = .link ∧ x.streamTarget ≠ none then true else x.relatch
      relatchRef := if x.settings.source = .link then x.streamTarget.getD x.relatchRef else x.relatchRef }
    let r := startChecked z
    (r.1, es ++ (x.current.toList.map fun e => finishOf i .cut e x.p) ++
      (out.map fun e => finishOf i .flushed e x.p) ++ r.2)
  | .return, some e =>
    ({ y with state := .waiting .move, restart := true, chainStart := none, profile := { x.profile with set := false } },
      es ++ [.request e.priority])
  | .return, none =>
    let r := startChecked { y with state := .idle }
    (r.1, es ++ r.2)

/-- A touch-off (R81 to R84) of a strip that is not trimming: with the touch flag clear nothing happens, nor in a state for
which R81 has no row (with the touch flag set there, which no run reaches, the model's choice, log 9); in UNCAL and STALLED the
flag is cleared; in TOUCHED the strip is released, as `released` says: in STAY a current entry finishes CUT and with no entry
waiting the strip is IDLE; in RETURN a current entry is kept with the restart mark and requested again, and without one the
strip is IDLE. A leader's release ends its gang's activity (R96), or passes leadership to the first trimming member and makes
the old leader a follower of it (R95). A trimming member rejoins where the hand left it (R94). R81 has no row for a TOUCHED
strip of role follower: that it is released as one that neither leads nor trims is the model's choice (log 37). -/
def Obligations.TouchOffReleases : Prop :=
  ∀ (s : State) (i : StripId),
    let x := s.strip i
    (x.touch = false → exec (.touchOff i) s = .next { s with inFlight := s.inFlight.erase (.touchOff i) }) ∧
    (x.touch = true → x.state = .uncal ∨ x.state = .stalled →
      exec (.touchOff i) s = .next { s with
        inFlight := s.inFlight.erase (.touchOff i), strips := s.strips.set i { x with touch := false } }) ∧
    (x.state ≠ .uncal → x.state ≠ .stalled → x.state ≠ .touched →
      exec (.touchOff i) s = .next { s with inFlight := s.inFlight.erase (.touchOff i) }) ∧
    (x.touch = true → x.state = .touched →
      let u : State := { s with inFlight := s.inFlight.erase (.touchOff i) }
      let r := Sys2Proof.Machine.released i x
      let done := (u.setStrip i r.1).effects i r.2
      let y := Sys2Proof.Machine.letGoOf x
      (x.role = .outside ∨ x.role = .follower → exec (.touchOff i) s = .next done) ∧
      ∀ g a, x.gang = some g → (s.gang g).activity = some a →
        (x.role = .leader → Sys2Proof.Machine.trimmers s g = [] →
          exec (.touchOff i) s = .next (Sys2Proof.Machine.activityEnds done g i)) ∧
        (∀ new others, x.role = .leader → Sys2Proof.Machine.trimmers s g = new :: others →
          exec (.touchOff i) s = .next (Sys2Proof.Machine.leadershipPasses
            ((u.setStrip i y).effects i (Sys2Proof.Machine.releaseEffects i x)) g a i new fun v pL =>
              (v.setStrip i { y with
                current := none, restart := false, chainStart := none, freeze := true, role := .follower
                offset := (x.p : Int) - pL, followTarget := some (min 4095 x.p), state := .waiting .follow
                }).effects i ((x.current.toList.map fun e => Sys2Proof.Machine.finishOf i .ganged e x.p) ++
                  [.request x.settings.priority]))) ∧
        (x.role = .trimming → exec (.touchOff i) s = .next ((u.setStrip i { y with
            current := x.current, offset := (x.p : Int) - a.pL, followTarget := some (min 4095 x.p), role := .follower
            state := .waiting .follow }).effects i
              (Sys2Proof.Machine.releaseEffects i x ++ [.request x.settings.priority])))) ∧
    (x.touch = true → x.state = .touched → x.role = .outside → x.queue = [] → ∃ t, exec (.touchOff i) s = .next t ∧
      let y := t.strip i
      y.touch = false ∧ y.v = x.p ∧ y.trail = [] ∧ y.trailStep = 0 ∧ y.queue = [] ∧
      (x.settings.release = .stay → y.state = .idle ∧ y.current = none ∧ y.restart = false ∧
        y.cut = x.cut + (if x.current.isSome then 1 else 0)) ∧
      (x.settings.release = .return → x.current = none → y.state = .idle ∧ y.current = none ∧ y.cut = x.cut) ∧
      (∀ e, x.settings.release = .return → x.current = some e → y.state = .waiting .move ∧
        y.current = some { e with touchTime := false } ∧ y.restart = true ∧ y.chainStart = none ∧
        y.profile.set = false ∧ y.cut = x.cut ∧ Instr.grantRequest i e.priority ∈ t.inFlight) ∧
      (∀ j : StripId, j ≠ i → t.strip j = s.strip j) ∧
      t = { s with strips := t.strips, writer := t.writer, inFlight := t.inFlight })

/-- A join (R91): no effect when its activity has ended, at a leader or trimming member, and in an excluded state; otherwise
the current entry finishes GANGED and is removed, the queue is frozen, the offset is v less the leader position, the target v
taken into the travel, and the role follower, or trimming under a hand; an IDLE strip, and one waiting to move or for a stream,
waits to follow at its default priority; MOVING and SETTLING become FOLLOWING; TOUCHED stays. A strip in FOLLOWING or waiting to
follow, for which R91 has no row, keeps its state: the model's choice (log 9). -/
def Obligations.GangJoinMakesFollower : Prop :=
  ∀ (s : State) (i : StripId) (j : JoinArgs),
    let x := s.strip i
    let live := (s.gang j.gang).activity ≠ none ∧ (s.gang j.gang).serial = j.serial ∧ x.role ≠ .trimming ∧
      x.role ≠ .leader ∧ x.state ≠ .off ∧ x.state ≠ .uncal ∧ x.state ≠ .stalled ∧ x.state ≠ .calibrating ∧
      x.state ≠ .waiting .calibrate
    (¬ live → exec (.gangJoin i j) s = .next { s with inFlight := s.inFlight.erase (.gangJoin i j) }) ∧
    (live → ∃ (t : State) (a : Activity), exec (.gangJoin i j) s = .next t ∧ (s.gang j.gang).activity = some a ∧
      let pL := if a.handovers = j.handovers then j.pL else a.pL
      let y := t.strip i
      y.current = none ∧ y.restart = false ∧ y.chainStart = none ∧ y.freeze = true ∧ y.queue = x.queue ∧ y.v = x.v ∧
      y.offset = x.v - pL ∧ y.followTarget = some (max 0 (min 4095 x.v)).toNat ∧
      y.role = (if x.touch then .trimming else .follower) ∧
      (x.state = .idle ∨ x.state = .waiting .move ∨ x.state = .waiting .stream →
        y.state = .waiting .follow ∧ Instr.grantRequest i x.settings.priority ∈ t.inFlight) ∧
      (x.state = .moving ∨ x.state = .settling → y.state = .following ∧ y.profile.set = false ∧ y.stallCount = 0) ∧
      (x.state = .settling → y.settleCount = 0 ∧ y.settleTime = 0) ∧
      (x.state = .touched ∨ x.state = .following ∨ x.state = .waiting .follow → y.state = x.state) ∧
      (let z := { x with
          current := none, restart := false, chainStart := none, freeze := true, offset := y.offset
          followTarget := y.followTarget, role := y.role, state := y.state, profile := y.profile
          stallCount := y.stallCount, settleCount := y.settleCount, settleTime := y.settleTime };
        t = (({ s with inFlight := s.inFlight.erase (.gangJoin i j) } : State).setStrip i z).effects i
          ((x.current.toList.map fun e => Sys2Proof.Machine.finishOf i .ganged e x.p) ++
            if x.state = .idle ∨ x.state = .waiting .move ∨ x.state = .waiting .stream then
              [.request x.settings.priority] else [])) ∧
      (∀ k : StripId, k ≠ i → t.strip k = s.strip k) ∧
      t = { s with strips := t.strips, writer := t.writer, inFlight := t.inFlight })

/-- A leader's arrival, a follow update (R92), a re-offset (R95) and an end event (R96). At an arrival of the leader p_L takes
its p and a follow update goes to each follower, in the order of the member list. A follower's v is the leader position plus
its offset taken into −4095..8190, and its target v taken into the travel; after a handover its offset is v less the new
leader position. At the end of the activity a follower in FOLLOWING settles toward its target with its counts 0, and one
waiting to follow withdraws and is IDLE when no entry waits, or starts the first one that waits (R59); in both the role is
none, the target removed and the freeze flag clear. In any other state, for which R96 has no row, a follower leaves the
activity too and keeps its state (the model's choice, log 37), and one in IDLE makes the start check (R59). A member with another
role takes no follow update (R92); that it takes no re-offset and no end event either is the model's choice (log 39). -/
def Obligations.FollowersFollowUntilTheEnd : Prop :=
  (∀ (s : State) (i : StripId) (code : Code) (g : GangId) (a : Activity), (s.strip i).state ≠ .off →
    (s.strip i).role = .leader → (s.strip i).gang = some g → (s.gang g).activity = some a →
    ∃ t before, exec (.sampleArrival i code) s = .next t ∧
      t.inFlight = before ++ ((s.gang g).members.filter fun j => decide ((s.strip j).role = .follower)).map
        (fun j => .followUpdate j (t.strip i).p) ∧
      t.gangs = s.gangs.set g { s.gang g with activity := some { a with pL := (t.strip i).p } } ∧
      (t.strip i).role = .leader) ∧
  ∀ (s : State) (i : StripId) (pL : Nat),
    let x := s.strip i
    let v := max (-4095) (min 8190 ((pL : Int) + x.offset))
    (x.role = .follower →
      exec (.followUpdate i pL) s = .next { s with
        inFlight := s.inFlight.erase (.followUpdate i pL)
        strips := s.strips.set i { x with v := v, followTarget := some (max 0 (min 4095 v)).toNat } } ∧
      exec (.reOffset i pL) s = .next { s with
        inFlight := s.inFlight.erase (.reOffset i pL), strips := s.strips.set i { x with offset := x.v - pL } }) ∧
    (x.role ≠ .follower →
      exec (.followUpdate i pL) s = .next { s with inFlight := s.inFlight.erase (.followUpdate i pL) } ∧
      exec (.reOffset i pL) s = .next { s with inFlight := s.inFlight.erase (.reOffset i pL) } ∧
      exec (.gangEnd i) s = .next { s with inFlight := s.inFlight.erase (.gangEnd i) }) ∧
    (x.role = .follower → x.state = .following →
      exec (.gangEnd i) s = .next { s with
        inFlight := s.inFlight.erase (.gangEnd i)
        strips := s.strips.set i { x with
          state := .settling, settleCount := 0, settleTime := 0, role := .outside, followTarget := none,
          freeze := false, profile := { x.profile with guide := x.followTarget.getD x.profile.guide } } }) ∧
    (∀ e rest, x.role = .follower → x.state = .waiting .follow → x.queue = e :: rest → x.current = none →
      exec (.gangEnd i) s = .next { s with
        inFlight := s.inFlight.erase (.gangEnd i) ++ [.grantWithdrawal i, .grantRequest i e.priority]
        strips := s.strips.set i { x with
          state := .waiting .move, role := .outside, followTarget := none, freeze := false, queue := rest
          current := some e, restart := false } }) ∧
    (x.role = .follower → x.state = .waiting .follow → x.queue = [] ∨ x.current ≠ none →
      exec (.gangEnd i) s = .next { s with
        inFlight := s.inFlight.erase (.gangEnd i) ++ [.grantWithdrawal i]
        strips := s.strips.set i { x with
          state := .idle, role := .outside, followTarget := none, freeze := false } }) ∧
    (x.role = .follower → x.state ≠ .following → x.state ≠ .waiting .follow →
      let left := { x with role := .outside, followTarget := none, freeze := false }
      let r := if x.state = .idle then Sys2Proof.Machine.startChecked left else (left, [])
      exec (.gangEnd i) s = .next
        ((({ s with inFlight := s.inFlight.erase (.gangEnd i) } : State).setStrip i r.1).effects i r.2))

/-- GANG_SET (R88, R89), in the order of its checks: a list of one strip, or one that names a strip twice, is BAD_LIST, the
refused set naming the strips named twice; a gang with activity GANG_BUSY; a strip of another gang IN_GANG, the refused set
naming those; otherwise the member list is replaced in ascending order, the strips named take the gang's id, those it no
longer names take none, and the outcome is DONE, or CLAMPED for a count above 32. A refusal changes nothing but the answer. -/
def Obligations.GangSetReplacesMembers : Prop :=
  ∀ (s : State) (g : GangId) (count : Word) (entries : List Word),
    let l := (entries.take (min 32 count.toNat)).map fun w => (BitVec.toFin (w.truncate 5) : StripId)
    let answered := fun (u : State) (o : Outcome) (r : Word) =>
      { u with sweep := { u.sweep with outcome := some o, refused := r } }
    let foreign := fun i : StripId => i ∈ l ∧ (s.strip i).gang ≠ none ∧ (s.strip i).gang ≠ some g
    (min 32 count.toNat = 1 → exec (.gangSet g count entries) s = .next (answered s .badList 0)) ∧
    (min 32 count.toNat ≠ 1 → ¬ l.Nodup → ∃ r, exec (.gangSet g count entries) s = .next (answered s .badList r) ∧
      ∀ i : StripId, r.getLsbD i.val = decide (2 ≤ l.count i)) ∧
    (min 32 count.toNat ≠ 1 → l.Nodup → (s.gang g).activity ≠ none →
      exec (.gangSet g count entries) s = .next (answered s .gangBusy 0)) ∧
    (min 32 count.toNat ≠ 1 → l.Nodup → (s.gang g).activity = none → (∃ i, foreign i) →
      ∃ r, exec (.gangSet g count entries) s = .next (answered s .inGang r) ∧
        ∀ i : StripId, r.getLsbD i.val = decide (foreign i)) ∧
    (min 32 count.toNat ≠ 1 → l.Nodup → (s.gang g).activity = none → (¬ ∃ i, foreign i) →
      ∃ t, exec (.gangSet g count entries) s = .next t ∧
        t = { s with gangs := t.gangs, strips := t.strips, sweep := t.sweep } ∧
        t.sweep = { s.sweep with outcome := some (if 32 < count.toNat then .clamped else .done), refused := 0 } ∧
        (t.gang g).members = allStrips.filter (fun i => decide (i ∈ l)) ∧ (t.gang g).activity = none ∧
        (∀ k : GangId, k ≠ g → t.gang k = s.gang k) ∧
        ∀ i : StripId,
          let x := s.strip i
          t.strip i = { x with gang := if i ∈ l then some g else if x.gang = some g then none else x.gang })

/-! ### Chapters 2 and 3: the commands of a cell -/

/-- The checks of MOVE, JUMP and a SCENE entry, in their order (R60, R67): a strip at or above n or OFF, one that is UNCAL or
calibrates, one that is STALLED, one under LINK, and for a MOVE a full Move Queue. The first that applies refuses the command,
which then changes nothing but its answer; a command that passes every check is DONE, or CLAMPED when its target or duration was
taken down. -/
def Obligations.MoveRefusalOrder : Prop :=
  ∀ (s : State) (i : StripId) (a : MoveArgs) (jump : Bool) (o : Outcome),
    let x := s.strip i
    let off := s.part.header.strips ≤ i.val ∨ x.state = .off
    let uncal := x.state = .uncal ∨ x.state = .calibrating ∨ x.state = .waiting .calibrate
    let stalled := x.state = .stalled
    let link := x.settings.source = .link
    ((o = .stripOff ∧ off) ∨ (o = .notCalibrated ∧ ¬ off ∧ uncal) ∨ (o = .stalled ∧ ¬ off ∧ ¬ uncal ∧ stalled) ∨
        (o = .wrongSource ∧ ¬ off ∧ ¬ uncal ∧ ¬ stalled ∧ link) →
      exec (.move i a) s = .next (s.answer o 0) ∧ exec (.jump i a) s = .next (s.answer o 0) ∧
      exec (.sceneEntry i jump a) s = .next (s.answer o 0)) ∧
    (¬ off → ¬ uncal → ¬ stalled → ¬ link → 8 ≤ x.queue.length →
      exec (.move i a) s = .next (s.answer .queueFull 0) ∧
      exec (.sceneEntry i false a) s = .next (s.answer .queueFull 0)) ∧
    (¬ off → ¬ uncal → ¬ stalled → ¬ link →
      let done := some (if 4095 < a.target.toNat ∨ 16383 < a.duration.toNat then Outcome.clamped else Outcome.done)
      (∃ t, exec (.jump i a) s = .next t ∧ t.sweep.outcome = done) ∧
      (∃ t, exec (.sceneEntry i true a) s = .next t ∧ t.sweep.outcome = done) ∧
      (x.queue.length < 8 → (∃ t, exec (.move i a) s = .next t ∧ t.sweep.outcome = done) ∧
        ∃ t, exec (.sceneEntry i false a) s = .next t ∧ t.sweep.outcome = done))

/-- An accepted MOVE, from a cell or as a SCENE entry (R55, R57, R59, R61): its entry, with the target taken into 4095 and the
duration into 16383, its origin, and the touch-time flag of a TOUCHED strip, joins the tail of the Move Queue; an IDLE strip with
none current and its queue not frozen then starts its first queued entry, which becomes current, with its request made: this one
where nothing is ahead. The outcome is CLAMPED when a field was taken down. -/
def Obligations.MoveQueuesOrStarts : Prop :=
  ∀ (s : State) (i : StripId) (a : MoveArgs) (origin : Origin),
    let x := s.strip i
    let c := match origin with
      | .cell => Instr.move i a
      | .scene => Instr.sceneEntry i false a
    let e : Entry :=
      { tag := a.tag, target := min 4095 a.target.toNat, duration := min 16383 a.duration.toNat, priority := a.priority,
        origin := origin, touchTime := decide (x.state = .touched) }
    let o := if 4095 < a.target.toNat ∨ 16383 < a.duration.toNat then Outcome.clamped else Outcome.done
    let starts := x.state = .idle ∧ x.current = none ∧ x.freeze = false
    i.val < s.part.header.strips → x.state ≠ .off → x.state ≠ .uncal → x.state ≠ .calibrating →
    x.state ≠ .waiting .calibrate → x.state ≠ .stalled → x.settings.source = .cells → x.queue.length < 8 →
    (¬ starts → exec c s = .next ((s.setStrip i { x with queue := x.queue ++ [e] }).answer o 0)) ∧
    (starts → x.queue = [] → exec c s = .next
      (((s.setStrip i { x with current := some e, restart := false, state := .waiting .move }).deliver
        (.grantRequest i a.priority)).answer o 0)) ∧
    (∀ q rest, starts → x.queue = q :: rest → exec c s = .next
      (((s.setStrip i
        { x with queue := rest ++ [e], current := some q, restart := false, state := .waiting .move }).deliver
        (.grantRequest i q.priority)).answer o 0))

/-- The FINISH records of a flush (R62): the queued entries, oldest first, then the current one. -/
def Sys2Proof.Machine.flushEffects (i : StripId) (x : Strip) : List Effect :=
  (x.queue.map fun e => finishOf i .flushed e x.p) ++ x.current.toList.map fun e => finishOf i .flushed e x.p

/-- A flushed strip (R62): no entry left, each finish counted, chain start, restart mark and profile set flag cleared. -/
def Sys2Proof.Machine.flushedStrip (x : Strip) : Strip :=
  { x with
    queue := [], current := none, restart := false, chainStart := none, profile := { x.profile with set := false }
    flushed := x.flushed + BitVec.ofNat 16 (x.queue.length + (if x.current = none then 0 else 1)) }

/-- An accepted JUMP, from a cell or as a SCENE entry (R62, R63): every queued entry and the current entry finish FLUSHED, and
its entry replaces them: current with its request made on an IDLE strip and on one waiting to move; current in
MOVING, and in SETTLING, which becomes MOVING with its counts 0; alone in the queue in every other state. The chain start, the
restart mark and the profile are cleared. A strip waiting for a stream, or in stream motion, cannot meet an accepted JUMP (R61);
that it is taken there as one waiting to move, or in MOVING, is the model's choice (log 9). -/
def Obligations.JumpReplacesEntries : Prop :=
  ∀ (s : State) (i : StripId) (a : MoveArgs) (origin : Origin),
    let x := s.strip i
    let c := match origin with
      | .cell => Instr.jump i a
      | .scene => Instr.sceneEntry i true a
    let e : Entry :=
      { tag := a.tag, target := min 4095 a.target.toNat, duration := min 16383 a.duration.toNat, priority := a.priority,
        origin := origin, touchTime := decide (x.state = .touched) }
    let o := if 4095 < a.target.toNat ∨ 16383 < a.duration.toNat then Outcome.clamped else Outcome.done
    let f := Sys2Proof.Machine.flushedStrip x
    let gives := fun (z : Strip) (es : List Effect) => exec c s = .next
      (((s.setStrip i z).effects i (Sys2Proof.Machine.flushEffects i x ++ es)).answer o 0)
    i.val < s.part.header.strips → x.state ≠ .off → x.state ≠ .uncal → x.state ≠ .calibrating →
    x.state ≠ .waiting .calibrate → x.state ≠ .stalled → x.settings.source = .cells →
    (x.state = .idle ∨ x.state = .waiting .move ∨ x.state = .waiting .stream →
      gives { f with state := .waiting .move, current := some e } [.request a.priority]) ∧
    (x.state = .moving → gives { f with current := some e } []) ∧
    (x.state = .settling → gives { f with state := .moving, current := some e, settleCount := 0, settleTime := 0 } []) ∧
    (x.state = .following ∨ x.state = .waiting .follow ∨ x.state = .touched → gives { f with queue := [e] } [])

/-- STOP (R64, R65, R71): STRIP_OFF at or above n and in OFF; while a calibration stands its grant or its request is given up,
its run finishes FLUSHED and the strip rests by its record, which is kept, and in IDLE makes the start check (R59); otherwise
the entries finish FLUSHED, a waiting strip withdraws and is IDLE, a moving or settling one settles at its position on the grant
it holds, a following one leaves its activity and settles, and any other keeps its state; under LINK a held stream target
becomes the reference of the relatch flag. -/
def Obligations.StopEndsMotion : Prop :=
  ∀ (s : State) (i : StripId),
    let x := s.strip i
    let off := s.part.header.strips ≤ i.val ∨ x.state = .off
    let gives := fun (z : Strip) (es : List Effect) =>
      exec (.stop i) s = .next (((s.setStrip i z).effects i es).answer .done 0)
    let ended := { x with
      calRun := none, state := if x.cal.valid then .idle else .uncal
      flushed := x.flushed + (if x.calRun = none then 0 else 1) }
    let finish := x.calRun.toList.map fun r => Effect.record (.finish i .flushed r.tag .cell x.p)
    let rests := fun (z : Strip) (es : List Effect) =>
      let r := if x.cal.valid then Sys2Proof.Machine.startChecked z else (z, [])
      gives r.1 (es ++ r.2)
    let f := { Sys2Proof.Machine.flushedStrip x with
      relatch := if x.settings.source = .link ∧ x.streamTarget ≠ none then true else x.relatch
      relatchRef := if x.settings.source = .link then x.streamTarget.getD x.relatchRef else x.relatchRef }
    let here := fun z : Strip => { z with
      state := .settling, settleCount := 0, settleTime := 0, profile := { z.profile with guide := x.p } }
    let es := Sys2Proof.Machine.flushEffects i x
    (off → exec (.stop i) s = .next (s.answer .stripOff 0)) ∧
    (¬ off →
      (x.state = .calibrating → rests { ended with grantHeld := false } ([.drive 0, .giveBack] ++ finish)) ∧
      (x.state = .waiting .calibrate → rests ended ([.withdraw] ++ finish)) ∧
      (x.state = .waiting .move ∨ x.state = .waiting .stream → gives { f with state := .idle } (es ++ [.withdraw])) ∧
      (x.state = .waiting .follow →
        gives { Sys2Proof.Machine.outOfActivity f with state := .idle } (es ++ [.withdraw])) ∧
      (x.state = .moving ∨ x.state = .settling → gives (here f) es) ∧
      (x.state = .following → gives (here (Sys2Proof.Machine.outOfActivity f)) es) ∧
      (x.state = .idle ∨ x.state = .uncal ∨ x.state = .touched ∨ x.state = .stalled → gives f es))

/-- A leader's departure by a command (R97), once the command's own effects are made: to the first trimming member, the departing
strip taking role none (R95), or with the activity's end (R96). -/
def Sys2Proof.Machine.leaderDeparted (v : State) (g : GangId) (a : Activity) (i : StripId) : State :=
  match trimmers v g with
  | new :: _ => leadershipPasses v g a i new fun w _ => w.setStrip i { w.strip i with role := .outside }
  | [] => activityEnds v g i

/-- An arrival in CALIBRATING (R46 to R48): the phase's arrivals and the steady ones are counted against the anchor; at 40
steady ones the phase ends, DOWN into UP, and UP with the record taken and the start check (R59) or, below a span of 512, a failure;
at 4000 arrivals it fails; otherwise the phase's drive is written. -/
def Sys2Proof.Machine.CalibratingArrival (s : State) (i : StripId) (code : Code) : Prop :=
  let y := sensed s i code
  let r := code.toNat
  ∀ c, y.state = .calibrating → y.calRun = some c →
    let moved := ∀ a, c.anchor = some a → 1 < ((r : Int) - a).natAbs
    let run := { c with
      count := c.count + 1, anchor := if moved then some r else c.anchor, steady := if moved then 0 else c.steady + 1 }
    let failed := { y with grantHeld := false, cal := { y.cal with valid := false }, calRun := none, state := .uncal }
    let failure := fun k : FaultKind => [.drive 0, .giveBack, .record (.finish i .failed c.tag .cell y.p),
      .record (.fault i k), Effect.cause .strip]
    (40 ≤ run.steady → c.phase = .down → ArrivalGives s i code
      { y with calRun := some { c with phase := .up, newBottom := r, anchor := none, steady := 0, count := 0 } }
      [.drive y.servo.calDuty]) ∧
    (40 ≤ run.steady → c.phase = .up → c.newBottom + 512 ≤ r →
      let z := startChecked { y with
        grantHeld := false, cal := { bottom := c.newBottom, top := r, valid := true }, calRun := none, state := .idle
        v := 4095, arrived := y.arrived + 1 }
      ArrivalGives s i code z.1 ([.drive 0, .giveBack, .record (.finish i .arrived c.tag .cell y.p)] ++ z.2)) ∧
    (40 ≤ run.steady → c.phase = .up → r < c.newBottom + 512 → ArrivalGives s i code failed (failure .calSpan)) ∧
    (run.steady < 40 → 4000 ≤ run.count → ArrivalGives s i code failed (failure .calTimeout)) ∧
    (run.steady < 40 → run.count < 4000 → ArrivalGives s i code { y with calRun := some run }
      [.drive (if c.phase = .down then -(y.servo.calDuty : Int) else (y.servo.calDuty : Int))])

/-- CALIBRATE leaves its strip as `z`, with the effects `es` in that order, and is answered DONE; a leader then departs from
its gang's activity (R97). -/
def Sys2Proof.Machine.CalibrateGives (s : State) (i : StripId) (tag : Half) (z : Strip) (es : List Effect) : Prop :=
  let x := s.strip i
  let v := (s.setStrip i z).effects i es
  (x.role ≠ .leader → exec (.calibrate i tag) s = .next (v.answer .done 0)) ∧
  ∀ g a, x.role = .leader → x.gang = some g → (s.gang g).activity = some a →
    exec (.calibrate i tag) s = .next ((leaderDeparted v g a i).answer .done 0)

/-- CALIBRATE (R45, R50) and the calibration it begins: STRIP_OFF at or above n and in OFF, NOT_CALIBRATED while a calibration
stands; otherwise a run is created. At rest the strip waits to calibrate and requests at its default priority; a waiting
strip, its entries flushed, requests again to calibrate; a driving strip, its entries flushed, calibrates at once on the grant
it holds; under a hand its entries are flushed, its grant or its request is given up, and the run ends CUT at once, the record
invalid, in UNCAL. A follower or trimming member leaves its activity (R98), and a leader departs from it (R97). A strip
TOUCHED with its touch flag clear, which no run reaches, is taken as one at rest (log 9). An arrival in CALIBRATING is
CalibratingArrival. -/
def Obligations.CalibrateBeginsRun : Prop :=
  ∀ (s : State) (i : StripId) (tag : Half),
    let x := s.strip i
    let off := s.part.header.strips ≤ i.val ∨ x.state = .off
    let stands := x.state = .calibrating ∨ x.state = .waiting .calibrate
    let run : CalRun := { tag := tag, phase := .down, newBottom := 0, anchor := none, steady := 0, count := 0 }
    let f := Sys2Proof.Machine.outOfActivity (Sys2Proof.Machine.flushedStrip x)
    let es := Sys2Proof.Machine.flushEffects i x
    let gives := Sys2Proof.Machine.CalibrateGives s i tag
    (∀ code, x.state ≠ .off → Sys2Proof.Machine.CalibratingArrival s i code) ∧
    (off → exec (.calibrate i tag) s = .next (s.answer .stripOff 0)) ∧
    (¬ off → stands → exec (.calibrate i tag) s = .next (s.answer .notCalibrated 0)) ∧
    (¬ off → ¬ stands →
      (x.touch = true → gives
        { f with
          state := .uncal, calRun := none, cut := x.cut + 1, cal := { x.cal with valid := false }
          grantHeld := if x.state.driving then false else x.grantHeld }
        (es ++ (if x.state.driving then [.drive 0, .giveBack] else if x.state.isWaiting then [.withdraw] else []) ++
          [.record (.finish i .cut tag .cell x.p)])) ∧
      (x.touch = false →
        (x.state = .idle ∨ x.state = .uncal ∨ x.state = .stalled ∨ x.state = .touched → gives
          { x with calRun := some run, state := .waiting .calibrate } [.request x.settings.priority]) ∧
        (x.state = .waiting .move ∨ x.state = .waiting .follow ∨ x.state = .waiting .stream → gives
          { f with calRun := some run, state := .waiting .calibrate } (es ++ [.request x.settings.priority])) ∧
        (x.state = .moving ∨ x.state = .settling ∨ x.state = .following → gives
          { f with calRun := some run, state := .calibrating } es)))

/-- SET_CAL (R51): STRIP_OFF at or above n and in OFF, NOT_CALIBRATED while a calibration stands, CAL_SPAN when the codes, taken
into 1023, span less than 512; otherwise the record becomes the codes, valid, v the position of the last code by it, and an
UNCAL strip IDLE, with the start check of R59, or TOUCHED under a hand. The outcome is CLAMPED when a code was taken down. -/
def Obligations.SetCalReplacesRecord : Prop :=
  ∀ (s : State) (i : StripId) (bottom top : Half),
    let x := s.strip i
    let off := s.part.header.strips ≤ i.val ∨ x.state = .off
    let stands := x.state = .calibrating ∨ x.state = .waiting .calibrate
    let cal : CalRecord := { bottom := min 1023 bottom.toNat, top := min 1023 top.toNat, valid := true }
    (off → exec (.setCal i bottom top) s = .next (s.answer .stripOff 0)) ∧
    (¬ off → stands → exec (.setCal i bottom top) s = .next (s.answer .notCalibrated 0)) ∧
    (¬ off → ¬ stands → cal.top < cal.bottom + 512 → exec (.setCal i bottom top) s = .next (s.answer .calSpan 0)) ∧
    (¬ off → ¬ stands → cal.bottom + 512 ≤ cal.top →
      let y := { x with
        cal := cal, v := Sys2Proof.Machine.travelOf cal x.r
        state := if x.state = .uncal then (if x.touch then .touched else .idle) else x.state }
      let r := if x.state = .uncal ∧ x.touch = false then Sys2Proof.Machine.startChecked y else (y, [])
      exec (.setCal i bottom top) s = .next (((s.setStrip i r.1).effects i r.2).answer
        (if 1023 < bottom.toNat ∨ 1023 < top.toNat then .clamped else .done) 0))

/-- CLEAR_STALL (R44), STRIP_OFF (R52) and STRIP_ON (R53): at or above n each is answered STRIP_OFF. CLEAR_STALL leaves a
STALLED strip TOUCHED under a hand and IDLE without one, where it makes the start check (R59). STRIP_OFF flushes a strip's run
and its entries, gives up its drive, its grant or its request, leaves its activity and is OFF, the record kept; a leader departs
from its gang's activity (R97). STRIP_ON leaves an OFF strip by its record with its p_rep unset, and its touch channel UNTOUCHED
with counter 0, from which the next touch scan reads it (R22; that the command itself clears the channel, and not the next touch
scan expiry, is the model's deduction, log 18). In every other state each is DONE without effect. -/
def Obligations.StallAndServiceCommands : Prop :=
  ∀ (s : State) (i : StripId),
    let x := s.strip i
    let n := s.part.header.strips
    (n ≤ i.val → exec (.clearStall i) s = .next (s.answer .stripOff 0) ∧
      exec (.stripOff i) s = .next (s.answer .stripOff 0) ∧ exec (.stripOn i) s = .next (s.answer .stripOff 0)) ∧
    (i.val < n → x.state ≠ .stalled → exec (.clearStall i) s = .next (s.answer .done 0)) ∧
    (i.val < n → x.state = .stalled →
      let y := { x with state := if x.touch then .touched else .idle }
      let r := if x.touch then (y, []) else Sys2Proof.Machine.startChecked y
      exec (.clearStall i) s = .next (((s.setStrip i r.1).effects i r.2).answer .done 0)) ∧
    (i.val < n → x.state = .off → exec (.stripOff i) s = .next (s.answer .done 0)) ∧
    (i.val < n → x.state ≠ .off → exec (.stripOn i) s = .next (s.answer .done 0)) ∧
    (i.val < n → x.state = .off → exec (.stripOn i) s = .next
      { (s.setStrip i { x with state := if x.cal.valid then .idle else .uncal, pRepSet := false }).answer .done 0 with
        touchScan := { s.touchScan with chans := s.touchScan.chans.set i { touched := false, run := 0 } } }) ∧
    (i.val < n → x.state ≠ .off →
      let z := { Sys2Proof.Machine.outOfActivity (Sys2Proof.Machine.flushedStrip x) with
        state := .off, calRun := none, touch := false, relatch := false, trail := [], trailStep := 0, settleCount := 0
        settleTime := 0, stallCount := 0, grantHeld := if x.state.driving then false else x.grantHeld
        flushed := x.flushed + BitVec.ofNat 16 (x.queue.length + (if x.current = none then 0 else 1) +
          (if x.calRun = none then 0 else 1)) }
      let es := (x.calRun.toList.map fun r => Effect.record (.finish i .flushed r.tag .cell x.p)) ++
        Sys2Proof.Machine.flushEffects i x ++
        (if x.state.driving then [.drive 0, .giveBack] else if x.state.isWaiting then [.withdraw] else [])
      let v := (s.setStrip i z).effects i es
      (x.role ≠ .leader → exec (.stripOff i) s = .next (v.answer .done 0)) ∧
      ∀ g a, x.role = .leader → x.gang = some g → (s.gang g).activity = some a → exec (.stripOff i) s =
        .next ((Sys2Proof.Machine.leaderDeparted v g a i).answer .done 0)) ∧
    (i.val < n → x.state ≠ .off → x.role ≠ .leader → ∃ t, exec (.stripOff i) s = .next t ∧
      let y := t.strip i
      y.state = .off ∧ y.cal = x.cal ∧ y.current = none ∧ y.queue = [] ∧ y.calRun = none ∧ y.touch = false ∧
      y.relatch = false ∧ y.trail = [] ∧ y.streamTarget = x.streamTarget ∧ y.role = .outside ∧
      y.flushed = x.flushed + BitVec.ofNat 16 (x.queue.length + (if x.current.isSome then 1 else 0) +
        (if x.calRun.isSome then 1 else 0)) ∧
      (x.state.driving = true → t.drive i = 0 ∧ y.grantHeld = false ∧ Instr.grantReturn i ∈ t.inFlight) ∧
      (x.state.isWaiting = true → Instr.grantWithdrawal i ∈ t.inFlight) ∧
      (∀ j : StripId, j ≠ i → t.strip j = s.strip j) ∧
      t = { s with
        strips := t.strips, writer := t.writer, inFlight := t.inFlight, motors := t.motors
        sweep := { s.sweep with outcome := some .done, refused := 0 } })

/-- SCENE (R66 to R68), its entries taken inside the one command (the model's choice, log 29): count 0 is BAD_LIST; otherwise the
entries, count taken into 32, are taken in list order at their strips, each as SCENE_ENTRY with the shared tag, duration and
priority and its own target; the refused-set word names the strips with a refused entry, and the outcome is PARTIAL, CLAMPED when
a value was taken down, or DONE. -/
def Obligations.SceneTakesEntriesInOrder : Prop :=
  ∀ (s : State) (a : SceneArgs) (entries : List Word),
    let ws := entries.take (min 32 a.count.toNat)
    let target := fun w : Word => ((w >>> 16).truncate 16 : Half)
    let strip := fun w : Word => (BitVec.toFin (w.truncate 5) : StripId)
    let r := ws.foldl
      (fun (acc : State × Word) w =>
        let t := afterCommand acc.1 (exec (.sceneEntry (strip w) a.jump
          { tag := a.tag, target := target w, duration := a.duration, priority := a.priority }) acc.1)
        (t, if t.sweep.outcome = some .done ∨ t.sweep.outcome = some .clamped then acc.2
          else acc.2 ||| 1#32 <<< (strip w).val))
      (s, 0#32)
    (a.count = 0 → exec (.scene a entries) s = .next (s.answer .badList 0)) ∧
    (a.count ≠ 0 → exec (.scene a entries) s = .next (r.1.answer
      (if r.2 ≠ 0 then .partlyRefused
        else if 32 < a.count.toNat ∨ 16383 < a.duration.toNat ∨ ∃ w ∈ ws, 4095 < (target w).toNat then .clamped
        else .done) r.2))

/-- A stream word (R70 to R72; the arrivals that follow it stand in RestingArrival and ChasingArrival): under CELLS it is discarded;
under LINK its top 12 bits become the stream target, unless the relatch flag is set and the word lies within less than the
deadband of the reference; a word at the deadband or beyond clears the flag. An IDLE strip then starts its first queued entry, if
none is current and the queue is not frozen (R59), and otherwise waits for stream motion when the target lies beyond the deadband
from p. -/
def Obligations.StreamWordSetsTarget : Prop :=
  ∀ (s : State) (i : StripId) (w : LinkWord),
    let x := s.strip i
    let u : State := { s with inFlight := s.inFlight.erase (.streamWord i w) }
    let v : Nat := match w.len with
      | .w24 => w.value.toNat / 4096
      | .w16 => w.value.toNat % 65536 / 16
    let held := x.relatch = true ∧ ((v : Int) - x.relatchRef).natAbs < x.servo.deadband
    let far := x.servo.deadband < ((v : Int) - x.p).natAbs
    let rests := x.queue = [] ∨ x.current ≠ none ∨ x.freeze = true
    (x.settings.source = .cells ∨ held → exec (.streamWord i w) s = .next u) ∧
    (x.settings.source = .link → ¬ held → x.state ≠ .idle ∨ (rests ∧ ¬ far) →
      exec (.streamWord i w) s = .next (u.setStrip i { x with streamTarget := some v, relatch := false })) ∧
    (x.settings.source = .link → ¬ held → x.state = .idle → rests → far →
      exec (.streamWord i w) s = .next ((u.setStrip i { x with
        streamTarget := some v, relatch := false, state := .waiting .stream }).deliver
          (.grantRequest i x.settings.priority))) ∧
    (∀ e rest, x.settings.source = .link → ¬ held → x.state = .idle → x.queue = e :: rest → x.current = none →
      x.freeze = false → exec (.streamWord i w) s = .next ((u.setStrip i { x with
        streamTarget := some v, relatch := false, queue := rest, current := some e, restart := false
        state := .waiting .move }).deliver (.grantRequest i e.priority)))

/-! ### Chapter 5: grants, supply and motors -/

/-- What a grant decision does (R105): `l` are the strips granted, in order, from the waiting set of `a`. Each was eligible (any
request while the supply is OK, one above the floor level while it is LOW), none is granted beyond the budget, none eligible is
left while the budget has room, and those granted are in order of priority and then of strip number, with no eligible record left
that goes before one of them. -/
def Sys2Proof.Machine.Decided (a b : Arbiter) (l : List StripId) : Prop :=
  let now := if a.supply = .ok then a.full else a.low
  let budget := if a.supply = .ok then a.pendingFull.getD now else now
  let eligible := fun r : Request => a.supply = .ok ∨ a.floor < r.priority.toNat
  b = { a with grantSet := a.grantSet ++ l, waiting := a.waiting.filter fun r => decide (r.strip ∉ l) } ∧
  (l ≠ [] → b.grantSet.length ≤ budget) ∧
  (b.grantSet.length < budget → ∀ r ∈ b.waiting, ¬ eligible r) ∧
  ∃ chosen : List Request, chosen.map (·.strip) = l ∧
    chosen.Pairwise (fun r q => q.priority < r.priority ∨ (q.priority = r.priority ∧ r.strip < q.strip)) ∧
    ∀ r ∈ chosen, r ∈ a.waiting ∧ eligible r ∧
      ∀ w ∈ b.waiting, eligible w → w.priority < r.priority ∨ (w.priority = r.priority ∧ r.strip < w.strip)

/-- Requests, withdrawals and returns at the arbiter (R103 to R106): a request of a strip that holds a grant adds no record, of a
waiting strip replaces its record's priority, of any other adds one; a withdrawal removes the record; a return removes the
holder, with a pending full budget adopted once the holders are down to it; a request and a return are followed by a decision,
whose grants are delivered in the order chosen; a return from a strip outside the grant set has no effect. -/
def Obligations.GrantEventsDecide : Prop :=
  ∀ (s : State) (i : StripId) (p : Priority),
    let a := s.arbiter
    let asked : Arbiter :=
      if i ∈ a.grantSet then a
      else if ∃ r ∈ a.waiting, r.strip = i then
        { a with waiting := a.waiting.map fun r => if r.strip = i then { r with priority := p } else r }
      else { a with waiting := a.waiting ++ [{ strip := i, priority := p }] }
    let left := a.grantSet.filter fun j => decide (j ≠ i)
    let back : Arbiter :=
      match a.pendingFull with
      | some g => if left.length ≤ g then { a with grantSet := left, full := g, pendingFull := none }
        else { a with grantSet := left }
      | none => { a with grantSet := left }
    (∃ b l, Sys2Proof.Machine.Decided asked b l ∧ exec (.grantRequest i p) s = .next { s with
      arbiter := b, inFlight := s.inFlight.erase (.grantRequest i p) ++ l.map .grant }) ∧
    exec (.grantWithdrawal i) s = .next { s with
      arbiter := { a with waiting := a.waiting.filter fun r => decide (r.strip ≠ i) }
      inFlight := s.inFlight.erase (.grantWithdrawal i) } ∧
    (i ∈ a.grantSet → ∃ b l, Sys2Proof.Machine.Decided back b l ∧ exec (.grantReturn i) s = .next { s with
      arbiter := b, inFlight := s.inFlight.erase (.grantReturn i) ++ l.map .grant }) ∧
    (i ∉ a.grantSet →
      exec (.grantReturn i) s = .next { s with inFlight := s.inFlight.erase (.grantReturn i) })

/-- A grant taken at a strip (R31): in WAITING the motion starts by purpose, MOVE and STREAM in MOVING, CALIBRATE in CALIBRATING
at phase DOWN, FOLLOW in FOLLOWING, the grant held, the profile and the counts cleared; in any other state the strip returns the
grant and is as it was. -/
def Obligations.GrantStartsMotion : Prop :=
  ∀ (s : State) (i : StripId),
    let x := s.strip i
    let u : State := { s with inFlight := s.inFlight.erase (.grant i) }
    let started := fun (st : StripState) => { x with
      state := st, grantHeld := true, settleCount := 0, settleTime := 0, stallCount := 0
      profile := { x.profile with set := false } }
    (x.state = .waiting .move ∨ x.state = .waiting .stream →
      exec (.grant i) s = .next (u.setStrip i (started .moving))) ∧
    (x.state = .waiting .follow → exec (.grant i) s = .next (u.setStrip i (started .following))) ∧
    (∀ run, x.state = .waiting .calibrate → x.calRun = some run → exec (.grant i) s = .next (u.setStrip i
      { started .calibrating with
        calRun := some { run with phase := .down, anchor := none, steady := 0, count := 0 } })) ∧
    (x.state.isWaiting = false → exec (.grant i) s = .next (u.deliver (.grantReturn i)))

/-- The motor supply (R108 to R110): a fall of MSUP_OK makes an OK supply LOW, setting SUPPLY, and stops the recovery timer of
a LOW one; a rise while LOW starts the timer with 50 ms; its expiry makes the supply OK, setting SUPPLY, with a grant
decision. In HALTED and FAULTED the arbiter takes none of the pin's events (R110), while the pin's level is followed in every
state (log 28). That a recovery expiry has no effect while the timer is stopped is the model's choice (log 3). -/
def Obligations.SupplyEvents : Prop :=
  ∀ s : State,
    let works := s.part.state ≠ .halted ∧ s.part.state ≠ .faulted
    let down : State := { s with msupOk := false }
    let up : State := { s with msupOk := true }
    (works → s.arbiter.supply = .ok → exec .supplyLow s = .next { down with
      arbiter := { s.arbiter with supply := .low }, attention := s.attention.set .supply }) ∧
    (works → s.arbiter.supply = .low →
      exec .supplyLow s = .next { down with arbiter := { s.arbiter with recovery := none } } ∧
      exec .msupOkRise s = .next { up with arbiter := { s.arbiter with recovery := some 50 } }) ∧
    (works → s.arbiter.supply = .ok → exec .msupOkRise s = .next up) ∧
    (¬ works → exec .supplyLow s = .next down ∧ exec .msupOkRise s = .next up) ∧
    (s.arbiter.recovery ≠ none → ∃ b l,
      Sys2Proof.Machine.Decided { s.arbiter with supply := .ok, recovery := none } b l ∧
      exec .recoveryTimerExpiry s = .next { s with
        arbiter := b, inFlight := s.inFlight ++ l.map .grant, attention := s.attention.set .supply }) ∧
    (s.arbiter.recovery = none → exec .recoveryTimerExpiry s = .next s)

/-- The output generators (R114 to R116): at the start of a period the staged prescale is adopted and a pending output taken into
use; a drive expiry leaves the channel at drive 0 with duty 0, DIR kept, its timer stopped, and counts up. That it has no effect
while the timer is stopped is the model's choice (log 3). Every other channel is as it was. A write of drive value 0 takes effect
at once, DIR kept (R113); a write of any other is held at once, its magnitude and sign pending for the next period, and starts the
expiry timer with twice the scan period in force (R114). -/
def Obligations.OutputsProduceDuty : Prop :=
  ∀ (s : State) (i : StripId),
    let m := s.motors.chans[i]
    let withChan := fun (c : MotorChannel) (n : Half) =>
      { s with motors := { s.motors with chans := s.motors.chans.set i c, expiries := n } }
    (∀ duty up, m.waiting = some (duty, up) → exec (.pwmPeriodStart i) s = .next (withChan
      { m with prescale := s.motors.prescaleStaged, duty := duty, dir := up, waiting := none } s.motors.expiries)) ∧
    (m.waiting = none → exec (.pwmPeriodStart i) s = .next (withChan
      { m with prescale := s.motors.prescaleStaged } s.motors.expiries)) ∧
    (m.expiry ≠ none → exec (.driveExpiry i) s = .next (withChan
      { m with held := 0, duty := 0, waiting := none, expiry := none } (s.motors.expiries + 1))) ∧
    (m.expiry = none → exec (.driveExpiry i) s = .next s) ∧
    s.writeDrive i 0 = withChan { m with held := 0, duty := 0, waiting := none, expiry := none } s.motors.expiries ∧
    ∀ d : Int, d ≠ 0 → s.writeDrive i d = withChan { m with
      held := d, waiting := some (d.natAbs, decide (0 < d)), expiry := some (2 * s.scanner.period) } s.motors.expiries

/-! ### Chapter 6: activity -/

/-- A record whose handing is held joins the tail of the queue once a place is free (R121). -/
def Sys2Proof.Machine.heldJoins (w : Writer) : Writer :=
  match w.held with
  | q :: rest => if w.queue.length < 16 then { w with queue := w.queue ++ [q], held := rest } else w
  | [] => w

/-- A page closed (R126): handed over, and the owner of the next page read at once by an event of its own. -/
def Sys2Proof.Machine.pageClosed (s : State) : State :=
  let t := pageHanded s
  { t with inFlight := t.inFlight ++ [.pageOwnerRead []] }

/-- One placement (R124 to R127), in STOPPING too (R131): with nothing due, or no page in hand, nothing is placed. A GAP
record comes first when records were lost, stamped as the record it precedes or with the part time; otherwise the record at
the queue's head. One within 65535 ms of the base time that fits the page is written at the next free words, the first one
giving the page its base time and starting its hold timer, and a record whose handing is held joins the queue; any other
closes the page as pageHanded says, the next page's owner is read, and the record stays queued. In STOPPING the STOP sequence
then goes on (R183; that it does so within the command is the model's choice, log 13), and that a close there keeps the records
whose handing is held is the model's choice too (log 38). -/
def Obligations.PlacementWritesOrCloses : Prop :=
  ∀ s : State,
    let w := s.writer
    let time : Word := match w.queue with
      | [] => s.part.time
      | q :: _ => q.time
    let length := if w.lost ≠ 0 then 2 else match w.queue with
      | [] => 2
      | q :: _ => q.record.length
    let offset := match w.base with
      | none => 0
      | some b => (time - b).toNat
    let page := 0x2800 + 4 * w.pageSize * w.page
    let fits := offset ≤ 65535 ∧ w.used + length ≤ w.pageSize
    let opened : Writer :=
      { w with
        used := w.used + length, base := some (w.base.getD time)
        holdTime := if w.base = none then w.holdStaged else w.holdTime
        hold := if w.base = none then some w.holdStaged else w.hold }
    let gives := fun t : State => exec .recordPlacement s = .next (Sys2Proof.Machine.stopWatched t)
    (w.state ≠ .filling ∨ (w.queue = [] ∧ w.lost = 0) → gives s) ∧
    (w.state = .filling → w.lost ≠ 0 → fits → gives
      { s.postAll (layWords (page + 4 * w.used) (gapWords w.lost offset)) with
        writer := Sys2Proof.Machine.heldJoins { opened with lost := 0, gap := true } }) ∧
    (∀ q rest, w.state = .filling → w.lost = 0 → w.queue = q :: rest → fits → gives
      { s.postAll (layWords (page + 4 * w.used) (q.record.words offset)) with
        writer := Sys2Proof.Machine.heldJoins { opened with queue := rest } }) ∧
    (w.state = .filling → w.queue ≠ [] ∨ w.lost ≠ 0 → ¬ fits → gives (Sys2Proof.Machine.pageClosed s))

/-- Seeking, and the timers of the writer (R123, R127, R131). An owner read whose owner is FZ, whatever its other bits hold,
gives the writer its page, FILLING with three used words; any other leaves it SEEKING, and in STOPPING, where it is the last,
every record queued or held is dropped and counted as lost; in another state, and after that, there is none. The retry timer,
running while SEEKING with records queued but not in STOPPING, brings the read again; the hold timer's expiry closes the page
as a placement does (R126). In STOPPING the STOP sequence then goes on (R183, log 13); that held records are kept over a close
until its own owner read is the model's choice (log 38). That neither timer's expiry has an effect while it is stopped (log
3), and that the host's words are put into memory also when nothing is read (log 7), is the model's choice. -/
def Obligations.PagesAreSoughtAndHeld : Prop :=
  ∀ (s : State) (host : List HostWrite),
    let w := s.writer
    let u : State := { s with inFlight := s.inFlight.erase (.pageOwnerRead []) }
    let v := u.beforeRead host
    let page := 0x2800 + 4 * w.pageSize * w.page
    let free := (v.readImage page).toNat % 256 = 1
    let k := w.queue.length + w.held.length
    let gives := fun t : State => exec (.pageOwnerRead host) s = .next (Sys2Proof.Machine.stopWatched t)
    (w.state = .seeking → w.deadSeek = false → free → gives { v with
      writer := { w with state := .filling, used := 3, base := none, gap := false, hold := none } }) ∧
    (w.state = .seeking → w.deadSeek = false → ¬ free →
      (s.part.state ≠ .stopping → gives v) ∧
      (s.part.state = .stopping → gives { v with writer := { w with
        queue := [], held := [], deadSeek := true
        lost := if k = 0 then w.lost else min 65535 (w.lost + k), lostCount := w.lostCount + BitVec.ofNat 16 k } })) ∧
    (w.state ≠ .seeking ∨ w.deadSeek = true → gives (u.hostWrote host)) ∧
    (w.state = .seeking → w.queue ≠ [] → s.part.state ≠ .stopping →
      exec .activityRetryExpiry s = .next (s.deliver (.pageOwnerRead []))) ∧
    (w.state ≠ .seeking ∨ w.queue = [] ∨ s.part.state = .stopping → exec .activityRetryExpiry s = .next s) ∧
    (w.hold = none → exec .pageHoldExpiry s = .next (Sys2Proof.Machine.stopWatched s)) ∧
    (w.hold ≠ none → exec .pageHoldExpiry s =
      .next (Sys2Proof.Machine.stopWatched (Sys2Proof.Machine.pageClosed s)))

/-- The words of a record placed with a time offset (R119, section 10.5): the kind, the strip or gang, the sub-field and the origin
beside the offset; then the position, the tag and position, the leader, or a TRAIL's positions, two to a word. -/
def Sys2Proof.Machine.RecordLayout : Prop :=
  ∀ (i : StripId) (g : GangId) (p offset : Nat) (ps : List Nat) (tag : Half) (k : FinishKind) (o : Origin) (f : FaultKind)
      (e : GangEvent),
    let head := fun kind id sub origin : Nat =>
      BitVec.ofNat 32 (kind + 16 * id + 512 * sub + 8192 * origin + 65536 * (offset % 65536))
    let kindNumber := match k with
      | .arrived => 1 | .flushed => 2 | .cut => 3 | .ganged => 4 | .stalled => 5 | .failed => 6
    let faultNumber := match f with
      | .stall => 1 | .calTimeout => 2 | .calSpan => 3
    let eventNumber := match e with
      | .start => 1 | .leader => 2 | .ended => 3
    let pos := fun n : Nat => (ps.getD n 0) % 4096
    (Rec.touch i p).words offset = [head 1 i.val 0 0, BitVec.ofNat 32 (p % 4096)] ∧
    (Rec.release i p).words offset = [head 2 i.val 0 0, BitVec.ofNat 32 (p % 4096)] ∧
    (1 ≤ ps.length → ps.length ≤ 8 → (Rec.trail i ps).words offset = head 3 i.val ps.length 0 ::
      (List.range ((ps.length + 1) / 2)).map fun n => BitVec.ofNat 32 (pos (2 * n) + 65536 * pos (2 * n + 1))) ∧
    (Rec.finish i k tag o p).words offset =
      [head 4 i.val kindNumber (if o = .scene then 1 else 0), BitVec.ofNat 32 (tag.toNat + 65536 * (p % 4096))] ∧
    (Rec.fault i f).words offset = [head 5 i.val faultNumber 0, 0] ∧
    (Rec.gang g i e).words offset = [head 6 g.val eventNumber 0, BitVec.ofNat 32 i.val] ∧
    (p ≤ 65535 → gapWords p offset = [head 7 0 0 0, BitVec.ofNat 32 p])

/-- A record handed to the activity queue (R120, R121) joins its tail; with 16 queued it is dropped, the lost count counting up to
65535 and the activity lost counter wrapping; in STOPPING with the writer FILLING its handing is held instead, behind any held
already. A writer that is SEEKING then reads the owner of the current page (R123, R129): outside STOPPING by an event of its own;
while the STOP sequence hands its records at once, after the record has joined or has been dropped (R121; the model's form of that
read, log 13). The words of each kind of record are RecordLayout (R119). -/
def Obligations.ActivityQueueTakesRecords : Prop :=
  Sys2Proof.Machine.RecordLayout ∧
  (∀ (s : State) (r : Rec),
    let w := s.writer
    let q : QueuedRec := { record := r, time := s.part.time }
    let free := (s.readImage (0x2800 + 4 * w.pageSize * w.page)).toNat % 256 = 1
    (s.part.state ≠ .stopping →
      (w.state ≠ .seeking → s.handRecord r = { s with writer := w.hand false q }) ∧
      (w.state = .seeking →
        s.handRecord r = { s with writer := w.hand false q, inFlight := s.inFlight ++ [.pageOwnerRead []] })) ∧
    (s.part.state = .stopping →
      (s.part.stop = .handing → w.state = .seeking → w.deadSeek = false → free → s.handRecord r = { s with
        writer := { w.hand true q with state := .filling, used := 3, base := none, gap := false, hold := none } }) ∧
      (s.part.stop ≠ .handing ∨ w.state ≠ .seeking ∨ w.deadSeek = true ∨ ¬ free →
        s.handRecord r = { s with writer := w.hand true q }))) ∧
  ∀ (w : Writer) (q : QueuedRec),
    (w.state ≠ .filling → w.deadSeek = false → w.queue.length < 16 → w.hand true q = { w with queue := w.queue ++ [q] }) ∧
    (w.state ≠ .filling → 16 ≤ w.queue.length ∨ w.deadSeek = true → w.hand true q =
      { w with lost := min 65535 (w.lost + 1), lostCount := w.lostCount + 1 }) ∧
    (w.state = .filling → w.held ≠ [] → w.hand true q = { w with held := w.held ++ [q] }) ∧
    (w.queue.length < 16 → w.hand false q = { w with queue := w.queue ++ [q] }) ∧
    (16 ≤ w.queue.length → w.hand false q =
      { w with lost := min 65535 (w.lost + 1), lostCount := w.lostCount + 1 }) ∧
    (w.state = .filling → w.held = [] → w.queue.length < 16 → w.hand true q = { w with queue := w.queue ++ [q] }) ∧
    (w.state = .filling → 16 ≤ w.queue.length → w.hand true q = { w with held := w.held ++ [q] })

/-- The state after `n` placements, each taken as RECORD_PLACEMENT (R124). -/
def Sys2Proof.Machine.placements : Nat → State → State
  | 0, s => s
  | n + 1, s => placements n (afterCommand s (exec .recordPlacement s))

/-- ACTIVITY_FLUSH (R130) completes in every state with every operand. With no page in hand it has no effect; with one, whatever is
queued, no page with a record is left open; with nothing queued a page with a record is closed, and one without is kept. Every
record queued, and a GAP record for those lost, is placed by R124, unless a page met on the way is not the part's, and the page
they end in is closed. Its outcome is DONE. The host's words come to memory at the first owner read on the way, or at the end (log
7). A fault at the first owner read (R123, R190) is a bus fault at that page's owner word. That the flush is one command, that its
operand names the owner read that fails, and that one after the last read is none, is the model's choice (log 29). -/
def Obligations.FlushClosesThePage : Prop :=
  ∀ (s : State) (host : List HostWrite) (fault : Option Nat),
    let w := s.writer
    let u := s.hostWrote host
    let due := w.queue.length + (if w.lost = 0 then 0 else 1)
    let ordinary := w.held = [] ∧ 64 ≤ w.pageSize ∧ ∀ q ∈ w.queue, q.record.length ≤ 5
    let page := 0x2800 + 4 * w.pageSize * w.page
    let word := fun (at_ : Nat) (d : Word) => ({ offset := at_, data := d, note := .plain } : PostedWrite)
    (∃ t, exec (.activityFlush { host := host, fault := fault }) s = .next t) ∧
    (w.state ≠ .filling → exec (.activityFlush { host := host, fault := fault }) s = .next (u.answer .done 0)) ∧
    (w.queue = [] → w.lost = 0 → w.base = none →
      exec (.activityFlush { host := host, fault := fault }) s = .next (u.answer .done 0)) ∧
    (∀ b, w.state = .filling → w.queue = [] → w.lost = 0 → w.base = some b →
      let close := u.postAll [word (page + 4) b, word (page + 8) (if w.gap then 1 else 0),
        word page (BitVec.ofNat 32 (w.used % 65536 * 65536))]
      exec (.activityFlush { host := host, fault := fault }) s = .next (({ close with
        attention := close.attention.event .activity
        inFlight := close.inFlight ++ [.pageOwnerRead []]
        writer := { w with
          hold := none, state := .seeking, page := if w.page + 1 < w.pages then w.page + 1 else 0 } } : State).answer
        .done 0)) ∧
    (s.part.state ≠ .stopping → w.state = .filling → ordinary →
      (∀ n, n ≤ due → (Sys2Proof.Machine.placements n s).writer.state = .filling) → 0 < due →
      let v := (Sys2Proof.Machine.placements due s).hostWrote host
      v.writer.queue = [] ∧ v.writer.lost = 0 ∧
        exec (.activityFlush { host := host, fault := fault }) s = exec (.activityFlush { host := [], fault := none }) v) ∧
    (∀ n, s.part.state = .running → w.state = .filling → ordinary → n < due →
      (∀ k, k ≤ n → (Sys2Proof.Machine.placements k s).writer.state = .filling) →
      (Sys2Proof.Machine.placements (n + 1) s).writer.state = .seeking →
      let v := Sys2Proof.Machine.placements (n + 1) s
      exec (.activityFlush { host := host, fault := some 0 }) s =
        exec (.busFault (BitVec.ofNat 32 (0x2800 + 4 * v.writer.pageSize * v.writer.page))) (v.beforeRead host)) ∧
    (∀ n, exec (.activityFlush { host := host, fault := some n }) s = exec (.activityFlush { host := host, fault := none }) s ∨
      ∃ t, exec (.activityFlush { host := host, fault := some n }) s = .next t ∧ t.part.state = .faulted ∧
        t.part.fault = .bus ∧ t.posted = [] ∧ t.writer.state = .stopped ∧ t.attention.has .state = true) ∧
    ∃ t, exec (.activityFlush { host := host, fault := none }) s = .next t ∧
      (t.writer.state = .filling → t.writer.base = none) ∧
      (w.state = .filling → ordinary → t.writer.state = .seeking ∨ (t.writer.queue = [] ∧ t.writer.lost = 0)) ∧
      t.sweep.outcome = some .done ∧ t.strips = s.strips ∧ t.part = s.part

/-! ### Chapter 7: links -/

/-- A service begun where the Meter Engine's input is free and a queue holds words (R148): of the only link whose queue does, or
of the link not served last; the oldest word leaves its queue. -/
def Sys2Proof.Machine.serviceBegun (u : State) : State :=
  let take := fun k : LinkId =>
    { u with
      input := { service := u.links[k].queue.head?, last := k }
      links := u.links.set k { u.links[k] with queue := u.links[k].queue.tail } }
  if u.input.service ≠ none ∨ (u.links[0].queue = [] ∧ u.links[1].queue = []) then u
  else if u.links[1].queue = [] then take 0
  else if u.links[0].queue = [] then take 1
  else if u.input.last = 0 then take 1 else take 0

/-- Whether a channel is fed (R150): below the header's channel count, with a LOCKED link whose map in force names it at a
slot below its slots per frame. -/
def Sys2Proof.Machine.fedNow (t : State) (c : ChanId) : Prop :=
  c.val < t.part.header.channels ∧ ∃ (k : LinkId) (i : Fin 32), t.links[k].state = .locked ∧
    i.val < t.links[k].settings.slots ∧ t.links[k].map[i] = .meter c

/-- The feed conditions of every channel derived from the links of `t`, and nothing else changed at the Meter Engine (R150). -/
def Sys2Proof.Machine.FeedDerived (s t : State) : Prop :=
  t.meters.profiles = s.meters.profiles ∧ t.meters.decay = s.meters.decay ∧ ∀ c : ChanId,
    t.meters.chans[c] = { s.meters.chans[c] with nofeed := (t.meters.chans[c]).nofeed } ∧
    ((t.meters.chans[c]).nofeed = false ↔ fedNow t c)

/-- A frame sync (R137, R138, R140, R142, R144, R150). Edges before it count as WORD_COMPLETE takes them (that they come as an
operand is the model's choice, log 21); in OFF nothing happens. In ACQUIRING and LOCKED the open frame is judged with the values
that governed it: complete when every slot came, counting in frames, the fourth in a row locking the link with LINK set; short
otherwise, the acquisition count 0. Then staged values are adopted and a frame is open at slot 0, its timer restarted; a WORD sync
takes the bit of its own edge. In LOST the link enters ACQUIRING. With the last sample of LKFS high there is no rise, and so no sync
(R138): the edge is taken as WORD_COMPLETE takes any other. That a BIT sync's own sample belongs to no frame is the model's
choice (log 34). The feed conditions are derived at entry to LOCKED and where a LOCKED link adopts another map or another count of
slots; otherwise the Meter Engine is as it was. -/
def Obligations.FrameSyncJudgesFrames : Prop :=
  ∀ (s : State) (k : LinkId) (dat : Bool),
    let l := s.links[k]
    let quiet := s.input.service ≠ none ∨ (s.links[0].queue = [] ∧ s.links[1].queue = [])
    let full := l.settings.slots ≤ l.slot
    let complete := l.open_ = true ∧ full
    let short := l.open_ = true ∧ ¬ full
    let locks := l.state = .acquiring ∧ complete ∧ 4 ≤ l.acquired + 1
    (∀ x before, exec (.frameSync k (x :: before) dat) s =
      exec (.frameSync k before dat) (afterCommand s (exec (.wordComplete k [x]) s))) ∧
    (l.lastFs = true → exec (.frameSync k [] dat) s = exec (.wordComplete k [{ fs := true, dat := dat }]) s) ∧
    (quiet → l.state = .off → exec (.frameSync k [] dat) s = .next s) ∧
    (quiet → l.state ≠ .off → l.lastFs = false → ∃ t, exec (.frameSync k [] dat) s = .next t ∧
      let y := t.links[k]
      t = { s with links := t.links, meters := t.meters, attention := t.attention } ∧
      (∀ j : LinkId, j ≠ k → t.links[j] = s.links[j]) ∧
      y.open_ = true ∧ y.slot = 0 ∧ y.lastFs = true ∧ y.timeout = some y.settings.timeout ∧ y.staged = none ∧
      (y.settings, y.map) = l.staged.getD (l.settings, l.map) ∧
      (l.settings.sync = .bit → y.assembly = []) ∧ (l.settings.sync = .word → y.assembly = [dat]) ∧
      y.queue = l.queue ∧ y.excess = l.excess ∧ y.overruns = l.overruns ∧ y.losses = l.losses ∧
      (l.state = .lost → y.state = .acquiring ∧ y.acquired = 0 ∧ y.frames = l.frames ∧ y.short = l.short) ∧
      (l.state = .acquiring ∨ l.state = .locked →
        y.frames = l.frames + (if complete then 1 else 0) ∧ y.short = l.short + (if short then 1 else 0) ∧
        y.state = (if locks then .locked else l.state) ∧
        (l.state = .acquiring → y.acquired = if complete ∧ ¬ locks then l.acquired + 1
          else if l.open_ = true then 0 else l.acquired)) ∧
      (let derives := locks ∨ (l.state = .locked ∧ (y.map ≠ l.map ∨ y.settings.slots ≠ l.settings.slots));
        (derives → Sys2Proof.Machine.FeedDerived s t) ∧ (¬ derives → t.meters = s.meters)) ∧
      t.attention = if locks then s.attention.set .link else s.attention)

/-- Bits and words (R138, R139, R146, R147). Edges are taken in their order. An edge with no rise of LKFS in an open frame adds
its bit to the word; the word-length-th completes it: below slots per frame it is routed, if the link is LOCKED and its entry is
not NULL, to the tail of the receive queue, or dropped as an overrun with 8 queued, and the slot index counts up; at slots per
frame it is an excess word. After the edge a free input of the Meter Engine begins a service at once where a queue holds words,
serviceBegun. An edge with a rise of LKFS is the frame sync that FRAME_SYNC gives (R138). The edges come as operands, in lists
that may be empty or split anywhere: that form of the command is the model's choice (log 21). -/
def Obligations.LinkBitsMakeWords : Prop :=
  ∀ (s : State) (k : LinkId),
    let l := s.links[k]
    exec (.wordComplete k []) s = .next s ∧
    (∀ x xs, exec (.wordComplete k (x :: xs)) s =
      exec (.wordComplete k xs) (afterCommand s (exec (.wordComplete k [x]) s))) ∧
    (∀ dat, l.lastFs = false →
      exec (.wordComplete k [{ fs := true, dat := dat }]) s = exec (.frameSync k [] dat) s) ∧
    ∀ fs dat, (fs = true → l.lastFs = true) →
      let put := fun (y : LinkRx) => exec (.wordComplete k [{ fs := fs, dat := dat }]) s =
        .next (Sys2Proof.Machine.serviceBegun { s with links := s.links.set k y })
      let bits := l.assembly ++ [dat]
      let word : LinkWord := { len := l.settings.len, value := BitVec.ofNat 24 (bits.foldl
        (fun v b => 2 * v + (if b then 1 else 0)) 0) }
      let route := l.map[l.slot]?.getD .null
      let goes := l.state ≠ .off ∧ l.state ≠ .lost ∧ l.open_ = true
      let ends := l.settings.len.bits ≤ bits.length
      (l.state = .off → put l) ∧
      (l.state = .lost ∨ (l.state ≠ .off ∧ l.open_ = false) → put { l with lastFs := fs }) ∧
      (goes → ¬ ends → put { l with lastFs := fs, assembly := bits }) ∧
      (goes → ends → l.settings.slots ≤ l.slot →
        put { l with lastFs := fs, assembly := [], excess := l.excess + 1 }) ∧
      (goes → ends → l.slot < l.settings.slots →
        (l.state ≠ .locked ∨ route = .null → put { l with lastFs := fs, assembly := [], slot := l.slot + 1 }) ∧
        (l.state = .locked → route ≠ .null → l.queue.length < 8 → put { l with
          lastFs := fs, assembly := [], slot := l.slot + 1, queue := l.queue ++ [{ route := route, word := word }] }) ∧
        (l.state = .locked → route ≠ .null → 8 ≤ l.queue.length → put { l with
          lastFs := fs, assembly := [], slot := l.slot + 1, overruns := l.overruns + 1 }))

/-- A link's timeout and the end of a service (R143, R148, R149): a running timeout timer's expiry makes the link LOST, its frame
abandoned, sync-losses counted, and, from LOCKED, LINK set and the feed conditions derived again; the queue is kept. At the end
of a service the word is delivered, a METER word in STARTING, RUNNING and STOPPING, a STRIP word in RUNNING only, and the queue
of the link not served last, or the only one with words, is served at once. That a timeout has no effect while the timer is
stopped, and a service end none with no word in service, is the model's choice (log 3). -/
def Obligations.TimeoutAndServiceEnd : Prop :=
  ∀ (s : State) (k : LinkId),
    let l := s.links[k]
    (l.timeout = none → exec (.linkTimeout k) s = .next s) ∧
    (l.timeout ≠ none → ∃ t, exec (.linkTimeout k) s = .next t ∧
      t = { s with links := t.links, meters := t.meters, attention := t.attention } ∧
      t.links = s.links.set k { l with
        state := .lost, open_ := false, assembly := [], slot := 0, acquired := 0, timeout := none
        losses := l.losses + 1 } ∧
      (l.state = .locked → t.attention = s.attention.set .link ∧
        Sys2Proof.Machine.FeedDerived s t ∧
        ∀ c : ChanId, t.meters.chans[c] = { s.meters.chans[c] with nofeed := !t.fed c }) ∧
      (l.state ≠ .locked → t.attention = s.attention ∧ t.meters = s.meters)) ∧
    (s.input.service = none → exec .meterServiceEnd s = .next s) ∧
    ∀ w, s.input.service = some w → ∃ t, exec .meterServiceEnd s = .next t ∧
      t = { s with links := t.links, input := t.input, inFlight := t.inFlight } ∧
      t.inFlight = s.inFlight ++ (match w.route with
        | .meter c => if s.part.state = .starting ∨ s.part.state = .running ∨ s.part.state = .stopping
            then [.meterWord c w.word] else []
        | .strip i => if s.part.state = .running then [.streamWord i w.word] else []
        | .null => []) ∧
      (s.links[0].queue = [] → s.links[1].queue = [] →
        t.input = { s.input with service := none } ∧ t.links = s.links) ∧
      ∀ (j other : LinkId), other ≠ j → s.links[j].queue ≠ [] → s.links[other].queue = [] ∨ s.input.last = other →
        t.input = { service := s.links[j].queue.head?, last := j } ∧
        t.links = s.links.set j { s.links[j] with queue := s.links[j].queue.tail }

/-! ### Chapter 8: meters -/

/-- A word at a channel (R153, R156 to R165): a disabled channel, or one at or above the channel count, discards it, and in
HALTED and FAULTED no word reaches a channel (R153). At any other the meter value rises toward the word's level by the
fraction A / 256 of the distance, rounded up; a level above the peak hold becomes it, its hold timer set; a level at or above
the over level counts the over run, to 16, and at the over count sets OVER with its timer; one below clears the run. A word is
a signed number of its width, a 16-bit one taken times 256, and its magnitude does not pass 8388607, the most negative word's
included (R158). The level is the largest whose threshold the word reaches (R158, R159), told in whole numbers by the 80th
powers: that form of the threshold is DEDUCED (log 10). -/
def Obligations.MeterWordRises : Prop :=
  (∀ (s : State) (c : ChanId) (w : LinkWord),
    let x := s.meters.chans[c]
    let b := s.meters.profiles[x.profile]
    let h := wordLevel w
    let u : State := { s with inFlight := s.inFlight.erase (.meterWord c w) }
    let served := s.part.state = .starting ∨ s.part.state = .running ∨ s.part.state = .stopping
    let on := served ∧ x.enable = true ∧ c.val < s.part.header.channels
    let run := min 16 (x.overRun + 1)
    let loud := b.overLevel ≤ h
    (¬ on → exec (.meterWord c w) s = .next u) ∧
    (on → ∃ y, exec (.meterWord c w) s = .next { u with meters := { s.meters with chans := s.meters.chans.set c y } } ∧
      y.m = (if x.m < 64 * h then x.m + ((64 * h - x.m) * b.rise + 255) / 256 else x.m) ∧
      (x.hv < h → y.hv = h ∧ y.hold = if b.hold = 65535 then .infinite else .ms b.hold) ∧
      (h ≤ x.hv → y.hv = x.hv ∧ y.hold = x.hold) ∧
      y.overRun = (if loud then run else 0) ∧
      (loud ∧ b.overCount ≤ run →
        y.isOver = true ∧ y.overTime = if b.overHold = 0 then .indefinite else .ms b.overHold) ∧
      (¬ (loud ∧ b.overCount ≤ run) → y.isOver = x.isOver ∧ y.overTime = x.overTime) ∧
      y.nofeed = x.nofeed ∧ y.profile = x.profile ∧ y.enable = x.enable)) ∧
  ∀ w : LinkWord,
    let n24 := w.value.toNat
    let n16 := w.value.toNat % 65536
    wordMagnitude w = (match w.len with
      | .w24 => if n24 < 8388608 then n24 else min 8388607 (16777216 - n24)
      | .w16 => if n16 < 32768 then 256 * n16 else min 8388607 (256 * (65536 - n16))) ∧
    wordLevel w ≤ 480 ∧ ∀ h, 1 ≤ h → h ≤ 480 → (h ≤ wordLevel w ↔
      (2 * 8388607) ^ 80 < (2 * wordMagnitude w + 1) ^ 80 * 10 ^ (480 - h))

/-- A decay expiry and METER_RESET (R161 to R168). At a decay expiry every enabled channel below the channel count falls by F, not
below 0; its hold timer counts down, its peak hold following the level at 0; its over timer counts down and clears OVER as it
runs out. METER_RESET clears OVER, its run and its timer and sets the peak hold to the level with its timer 0, at every such
channel for count 0 and otherwise at those named; an entry at or above the channel count, or a count above 32, makes it CLAMPED.
That all its channels are taken in the one command (log 29), and that a decay expiry has no effect while the timer is stopped (log
3), is the model's choice. -/
def Obligations.MetersDecayAndReset : Prop :=
  ∀ (s : State) (count : Word) (entries : List Word),
    let on := fun c : ChanId => s.meters.chans[c].enable = true ∧ c.val < s.part.header.channels
    let named := (entries.take (min 32 count.toNat)).map fun w => (BitVec.toFin (w.truncate 6) : ChanId)
    let reset := fun x : Channel =>
      { x with isOver := false, overRun := 0, overTime := .stopped, hv := x.m / 64, hold := .ms 0 }
    (s.meters.decay = false → exec .decayExpiry s = .next s) ∧
    (s.meters.decay = true → ∃ t, exec .decayExpiry s = .next t ∧ t = { s with meters := t.meters } ∧
      t.meters.profiles = s.meters.profiles ∧ ∀ c : ChanId,
        let x := s.meters.chans[c]
        let y := t.meters.chans[c]
        (¬ on c → y = x) ∧
        (on c → y.m = x.m - s.meters.profiles[x.profile].decay ∧ y.overRun = x.overRun ∧ y.nofeed = x.nofeed ∧
          (x.hold = .infinite → y.hold = x.hold ∧ y.hv = x.hv) ∧
          (x.hold = .ms 0 ∨ x.hold = .ms 1 → y.hold = .ms 0 ∧ y.hv = y.m / 64) ∧
          (∀ n, x.hold = .ms (n + 2) → y.hold = .ms (n + 1) ∧ y.hv = x.hv) ∧
          (x.overTime = .stopped ∨ x.overTime = .indefinite → y.overTime = x.overTime ∧ y.isOver = x.isOver) ∧
          (x.overTime = .ms 1 → y.overTime = .stopped ∧ y.isOver = false) ∧
          (∀ n, x.overTime = .ms (n + 2) → y.overTime = .ms (n + 1) ∧ y.isOver = x.isOver))) ∧
    ∃ t, exec (.meterReset count entries) s = .next t ∧ t.meters.profiles = s.meters.profiles ∧
      t = { s with meters := t.meters, sweep := t.sweep } ∧
      t.sweep = { s.sweep with
        refused := 0
        outcome := some (if count ≠ 0 ∧ (32 < count.toNat ∨ ∃ c ∈ named, s.part.header.channels ≤ c.val)
          then .clamped else .done) } ∧
      ∀ c : ChanId, t.meters.chans[c] =
        if on c ∧ (count = 0 ∨ c ∈ named) then reset s.meters.chans[c] else s.meters.chans[c]

/-! ### Chapter 9: bars -/

/-- The phases of a refresh (R173 to R175): a phase timer expiry before phase 7 begins the next phase, its row line alone high and
BCOL with its row's lamps; after phase 7 it starts a refresh: staged values are adopted, every bar's content is taken, and phase
0 begins. A bar is full under lamp test, dark without a channel or a feed, and otherwise lit to the count of its scale's
thresholds at or below the level, with its dot at the last at or below a peak hold beyond it. At the end of the lit time the line
goes low, at brightness 16 not before the phase ends (log 20). That neither command has an effect while the phase timer is stopped
is the model's choice (log 3). -/
def Obligations.BarPhasesScan : Prop :=
  ∀ s : State,
    let b := s.bars
    let rowOf := fun (c : Bars) (j : Nat) => (List.range 8).flatMap fun i =>
      (c.snapshot[8 * j + i]?.getD { lit := 0, dot := none, isOver := false }).lamps
    (b.phase = none → exec .phaseTimerExpiry s = .next s ∧ exec .rowLitEnd s = .next s) ∧
    (∀ j k : Fin 8, b.phase = some j → k.val = j.val + 1 → exec .phaseTimerExpiry s = .next { s with
      bars := { b with phase := some k, rows := 1#8 <<< k.val, columns := rowOf b k.val } }) ∧
    (b.phase = some 7 → ∃ t, exec .phaseTimerExpiry s = .next t ∧ t = { s with bars := t.bars } ∧
      t.bars.phase = some 0 ∧ t.bars.rows = 1 ∧ t.bars.columns = rowOf t.bars 0 ∧
      t.bars.force = b.barsStaged.getD b.force ∧ t.bars.scales = b.scalesStaged.getD b.scales ∧
      t.bars.barsStaged = none ∧ t.bars.scalesStaged = none ∧
      ∀ i : Fin 64,
        let e := t.bars.force.map[i]
        let count := fun level : Nat => (t.bars.scales[e.table].toList.filter fun x => decide (x ≤ level)).length
        let y := t.bars.snapshot[i]
        (t.bars.force.lampTest = true → y = { lit := 40, dot := none, isOver := true }) ∧
        (t.bars.force.lampTest = false → e.chan = none → y = { lit := 0, dot := none, isOver := false }) ∧
        (∀ c, t.bars.force.lampTest = false → e.chan = some c →
          let x := s.meters.chans[c]
          (x.nofeed = true → y = { lit := 0, dot := none, isOver := false }) ∧
          (x.nofeed = false → y.lit = count (x.m / 64) ∧ y.isOver = x.isOver ∧
            (count x.hv ≤ count (x.m / 64) → y.dot = none) ∧
            (count (x.m / 64) < count x.hv → y.dot = some (count x.hv - 1))))) ∧
    (b.phase ≠ none → exec .rowLitEnd s = .next { s with
      bars := { b with rows := if b.force.brightness < 16 then 0 else b.rows } })

/-! ### Chapters 10 and 11: the image, the sweep, reports and attention -/

/-- SETUP_LOAD of one section leaves `t`, its outcome DONE, or CLAMPED with the section's bit when a value of it was taken into its
range (R195). -/
def Sys2Proof.Machine.LoadGives (s : State) (count mask : Word) (host : List HostWrite) (x : SetupSection) (t : State) :
    Prop :=
  (SectionClean (s.beforeRead host) x →
    exec (.setupLoad count mask { host := host, fault := none }) s = .next (t.answer .done 0)) ∧
  (¬ SectionClean (s.beforeRead host) x →
    exec (.setupLoad count mask { host := host, fault := none }) s = .next (t.answer .clamped (1#32 <<< x.bit)))

/-- One cause's threshold and hold time loaded outside START (R205): a field in force at 0 is adopted at once, any other staged; an
adopted threshold that the pending count meets sets the cause, and then nothing is pending and staged values are adopted; an
adopted hold time with events pending starts the hold timer. With it comes whether the cause is set. R205 does not order the fields
of one load: that the threshold comes before the hold time, so that a cause it sets adopts the loaded hold time at once, is the
model's deduction (log 23). -/
def Sys2Proof.Machine.attnLoaded (co : Coalescing) (v : Nat × Nat) : Coalescing × Bool :=
  let loaded : Coalescing := { co with
    threshold := if co.threshold = 0 then v.1 else co.threshold
    thresholdStaged := if co.threshold = 0 then none else some v.1
    hold := if co.hold = 0 then v.2 else co.hold
    holdStaged := if co.hold = 0 then none else some v.2 }
  if co.threshold = 0 ∧ v.1 ≠ 0 ∧ v.1 ≤ co.pending then
    ({ pending := 0, timer := none, threshold := v.1, hold := v.2
       thresholdStaged := none, holdStaged := none }, true)
  else if co.hold = 0 ∧ v.2 ≠ 0 ∧ 0 < co.pending ∧ co.timer = none then ({ loaded with timer := some v.2 }, false)
  else (loaded, false)

/-- Both causes loaded, each as attnLoaded says (R205, log 23). -/
def Sys2Proof.Machine.attnTaken (v : State) : Attention :=
  let cell := attnLoaded v.attention.cell (setupAttn v .cell)
  let activity := attnLoaded v.attention.activity (setupAttn v .activity)
  { v.attention with
    cell := cell.1, activity := activity.1
    attn := v.attention.attn ||| (if cell.2 then 1#8 else 0#8) ||| (if activity.2 then 2#8 else 0#8) }

/-- A link loaded outside START (R136, R145, R152): with its enable clear it takes its settings and its map at once, leaving
service if it is not OFF; with it set an OFF link takes them and enters ACQUIRING, and any other has them staged. -/
def Sys2Proof.Machine.linkLoaded (v : State) (k : LinkId) : LinkRx :=
  let l := v.links[k]
  let y := setupLink v k.val
  let taken := { l with settings := y, map := Vector.ofFn fun i : Fin 32 => setupSlot v k.val i.val }
  if y.enable = false then
    if l.state = .off then taken else { taken with
      state := .off, open_ := false, assembly := [], slot := 0, acquired := 0, timeout := none, queue := [], staged := none }
  else if l.state = .off then { taken with
    state := .acquiring, open_ := false, assembly := [], slot := 0, acquired := 0, lastFs := true, timeout := some y.timeout }
  else { l with staged := some (taken.settings, taken.map) }

/-- A channel loaded (R155, R156): it takes its profile and its enable; one that loses the enable is cleared, and another has
its timers held against the new values. -/
def Sys2Proof.Machine.channelLoaded (v : State) (c : ChanId) : Channel :=
  let x := v.meters.chans[c]
  let e := setupChannel v c.val
  let b := setupProfile v e.1.val
  if x.enable = true ∧ e.2 = false then
    { m := 0, hv := 0, hold := .ms 0, isOver := false, overRun := 0, overTime := .stopped, nofeed := x.nofeed
      profile := e.1, enable := false }
  else { x with
    profile := e.1, enable := e.2
    hold := if x.hold = .infinite ∧ b.hold < 65535 then .ms b.hold else x.hold
    overTime := if x.overTime = .indefinite ∧ b.overHold ≠ 0 then .ms b.overHold else x.overTime }

/-- The arbiter as a GRANT load leaves it, before its decision (R102). -/
def Sys2Proof.Machine.grantTaken (v : State) : Arbiter :=
  let g := setupGrant v
  let a := { v.arbiter with low := g.2.1, floor := g.2.2 }
  if a.grantSet.length ≤ g.1 then { a with full := g.1, pendingFull := none } else { a with pendingFull := some g.1 }

/-- The load of each section alone outside START, as its owner takes it: SERVO and STRIP staged at every context (R29), SCAN, SCALE
and BARS staged (R7, R171, R172), GRANT adopted with its pending full budget and a decision (R102), METER adopted with the timers
held against the new values (R155, R156), LINK by the enable and the link's state (R136, R145, R152), ATTN by its fields (R205). -/
def Sys2Proof.Machine.SectionLoads (s : State) (count : Word) (host : List HostWrite) : Prop :=
  let v := s.beforeRead host
  let only := fun (x : SetupSection) (t : State) => ∀ mask : Word, mask &&& 0xFFF#32 = 1#32 <<< x.bit →
    LoadGives s count mask host x t
  only .servo { v with servoLoaded := Vector.ofFn fun c => setupServo v c.val } ∧
  only .strip { v with strips := Vector.ofFn fun i => { v.strips[i] with staged := setupStrip v i.val } } ∧
  only .scan { v with scanner := { v.scanner with
    periodStaged := (setupScan v).1, prescaleStaged := (setupScan v).2 } } ∧
  (∃ b l, Decided (grantTaken v) b l ∧ only .grant { v with arbiter := b, inFlight := v.inFlight ++ l.map .grant }) ∧
  only .meter { v with meters := { v.meters with
    profiles := Vector.ofFn fun k => setupProfile v k.val
    chans := Vector.ofFn (channelLoaded v) } } ∧
  (∃ tables : Vector Scale 2, (∀ n : Fin 2, tables[n].toList = setupScale v n.val) ∧
    only .scale { v with bars := { v.bars with scalesStaged := some tables } }) ∧
  only .bars { v with bars := { v.bars with barsStaged := some (setupBars v) } } ∧
  (∃ t : State, only .link t ∧ t = { v with links := t.links, meters := t.meters } ∧
    (∀ k : LinkId, t.links[k] = linkLoaded v k) ∧
    ((∃ k : LinkId, v.links[k].state = .locked ∧ (setupLink v k.val).enable = false) → FeedDerived v t) ∧
    ((∀ k : LinkId, v.links[k].state = .locked → (setupLink v k.val).enable = true) → t.meters = v.meters)) ∧
  only .attn { v with attention := attnTaken v }

/-- SETUP_LOAD of any mask (R195): every section named is handed as the setup area gives it, METER, LINK, GRANT and ATTN as each
is taken alone, and no other, and nothing of an owner but the values so loaded is changed; where a LOCKED link leaves service
every feed condition is derived again (R150); the refused set names the sections with a value taken into its range. A setup word
whose read fails makes the part FAULTED with code BUS and that word's address, the sections named before it handed and no other
(R187); a fault after the last word is none. -/
def Sys2Proof.Machine.MaskLoads (s : State) (count mask : Word) (host : List HostWrite) : Prop :=
  let v := s.beforeRead host
  let has := fun x : SetupSection => mask.getLsbD x.bit
  let unfed := has .link = true ∧ ∃ k : LinkId, v.links[k].state = .locked ∧ (setupLink v k.val).enable = false
  (∃ t, exec (.setupLoad count mask { host := host, fault := none }) s = .next t ∧
    t = { v with
      servoLoaded := t.servoLoaded, strips := t.strips, scanner := t.scanner, touchScan := t.touchScan, arbiter := t.arbiter
      inFlight := t.inFlight, motors := t.motors, meters := t.meters, bars := t.bars, links := t.links
      attention := t.attention, reporter := t.reporter, writer := t.writer, sweep := t.sweep } ∧
    (∀ x : SetupSection, has x = true → x ≠ .attn → SectionStands v t x) ∧
    (∀ x : SetupSection, has x = false → SectionKept v t x) ∧
    t.attention = (if has .attn then attnTaken v else v.attention) ∧
    (∀ k : LinkId, t.links[k] = if has .link then linkLoaded v k else v.links[k]) ∧
    (∀ i : StripId, t.strip i =
      { v.strip i with staged := if has .strip then setupStrip v i.val else (v.strip i).staged }) ∧
    t.scanner = { v.scanner with periodStaged := t.scanner.periodStaged, prescaleStaged := t.scanner.prescaleStaged } ∧
    t.touchScan = { v.touchScan with staged := t.touchScan.staged } ∧
    t.motors = { v.motors with prescaleStaged := t.motors.prescaleStaged } ∧
    t.bars = { v.bars with scalesStaged := t.bars.scalesStaged, barsStaged := t.bars.barsStaged } ∧
    t.bars.barsStaged = (if has .bars then some (setupBars v) else v.bars.barsStaged) ∧
    (has .scale = true → t.bars.scalesStaged ≠ none) ∧
    (has .scale = false → t.bars.scalesStaged = v.bars.scalesStaged) ∧
    t.reporter = { v.reporter with periodStaged := t.reporter.periodStaged } ∧
    t.writer = { v.writer with holdStaged := t.writer.holdStaged } ∧
    t.sweep = { v.sweep with
      periodStaged := t.sweep.periodStaged, outcome := t.sweep.outcome, refused := t.sweep.refused } ∧
    t.meters.decay = v.meters.decay ∧
    (∀ c : ChanId, ∃ fed : Bool, t.meters.chans[c] =
        { (if has .meter then channelLoaded v c else v.meters.chans[c]) with nofeed := !fed } ∧
      (unfed → (fed = true ↔ fedNow t c)) ∧ (¬ unfed → fed = !v.meters.chans[c].nofeed)) ∧
    (has .grant = true → ∃ b l, Decided (grantTaken v) b l ∧ t.arbiter = b ∧ t.inFlight = v.inFlight ++ l.map .grant) ∧
    (has .grant = false → t.arbiter = v.arbiter ∧ t.inFlight = v.inFlight) ∧
    (t.sweep.outcome = some .done ∨ t.sweep.outcome = some .clamped) ∧
    (t.sweep.outcome = some .done ↔ t.sweep.refused = 0) ∧
    (∀ x : SetupSection, t.sweep.refused.getLsbD x.bit = true ↔ has x = true ∧ ¬ SectionClean v x)) ∧
  (∀ (sec : SetupSection) (k : Nat), mask.getLsbD sec.bit = true → k < sec.words →
    let j := ((SetupSection.all.filter fun x => decide (x.bit < sec.bit ∧ has x = true)).map (·.words)).sum + k
    ∃ t, exec (.setupLoad count mask { host := host, fault := some j }) s = .next t ∧
      t.part.state = .faulted ∧ t.part.fault = .bus ∧ t.part.pfadr = s.part.base + BitVec.ofNat 32 (sec.offset + 4 * k) ∧
      t.posted = [] ∧ t.memory = v.memory ∧ t.attention.has .state = true ∧
      (∀ x : SetupSection, x.bit < sec.bit → has x = true → SectionStands v t x) ∧
      (9 < sec.bit → has .link = true → ∀ k : LinkId,
        t.links[k].settings = (linkLoaded v k).settings ∧ t.links[k].map = (linkLoaded v k).map) ∧
      ∀ x : SetupSection, sec.bit ≤ x.bit ∨ has x = false → SectionKept v t x) ∧
  ∀ j, ((SetupSection.all.filter fun x => mask.getLsbD x.bit).map (·.words)).sum ≤ j →
    exec (.setupLoad count mask { host := host, fault := some j }) s =
      exec (.setupLoad count mask { host := host, fault := none }) s

/-- SETUP_LOAD and COUNTER_CLEAR (R195, R196, R200, R127, R192, R23, R115): count 0 is BAD_LIST, and a mask without a section DONE;
each section alone is loaded as SectionLoads and, for REPORT, TOUCH and DRIVE, the clauses here say, its words read behind the
writes ahead of it and taken into range; any mask as MaskLoads says. COUNTER_CLEAR zeroes every 16-bit event counter and nothing
else. The host's words come to memory also when nothing is read (log 7); a period or a prescale above the nearest allowed value
counts as CLAMPED by log 17; that a load is one command, cut by its own fault operand, is the model's choice (log 29); the order
inside an ATTN load is its deduction (log 23). -/
def Obligations.SetupLoadsAndCounterClear : Prop :=
  (∀ (s : State) (count mask : Word) (host : List HostWrite), count ≠ 0 →
    Sys2Proof.Machine.SectionLoads s count host ∧
    (mask &&& 0xFFF#32 ≠ 0 → Sys2Proof.Machine.MaskLoads s count mask host) ∧
    ∀ fault, exec (.setupLoad 0 mask { host := host, fault := fault }) s = .next ((s.hostWrote host).answer .badList 0) ∧
      (mask &&& 0xFFF#32 = 0 →
        exec (.setupLoad count mask { host := host, fault := fault }) s = .next ((s.hostWrote host).answer .done 0))) ∧
  ∀ (s : State) (count mask : Word) (host : List HostWrite),
    let v := s.beforeRead host
    let value := fun (at_ k : Nat) => (v.readImage (at_ + 4 * k)).toNat
    let within := fun (lo hi x : Nat) => max lo (min hi x)
    let done := fun (t : State) (changed : Bool) (bit : Nat) =>
      t.answer (if changed then .clamped else .done) (if changed then 1#32 <<< bit else 0)
    (count = 0 → exec (.setupLoad count mask { host := host, fault := none }) s =
      .next ((s.hostWrote host).answer .badList 0)) ∧
    (count ≠ 0 → mask &&& 0xFFF#32 = 0 →
      exec (.setupLoad count mask { host := host, fault := none }) s = .next ((s.hostWrote host).answer .done 0)) ∧
    (count ≠ 0 → mask &&& 0xFFF#32 = 0x800#32 →
      let p := within 2 100 (value 0x1350 0)
      let h := within 1 1000 (value 0x1350 1)
      let w := within 250 8000 (value 0x1350 2) / 250 * 250
      exec (.setupLoad count mask { host := host, fault := none }) s = .next (done { v with
        reporter := { v.reporter with periodStaged := p }, writer := { v.writer with holdStaged := h }
        sweep := { v.sweep with periodStaged := w } }
        (decide (p ≠ value 0x1350 0 ∨ h ≠ value 0x1350 1 ∨ w ≠ value 0x1350 2)) 11)) ∧
    (count ≠ 0 → mask &&& 0xFFF#32 = 0x008#32 →
      let k := fun j => within 1 15 (value 0x0C08 j)
      exec (.setupLoad count mask { host := host, fault := none }) s = .next (done { v with
        touchScan := { v.touchScan with staged := { threshold := k 0, ton := k 1, toff := k 2 } } }
        (decide (k 0 ≠ value 0x0C08 0 ∨ k 1 ≠ value 0x0C08 1 ∨ k 2 ≠ value 0x0C08 2)) 3)) ∧
    (count ≠ 0 → mask &&& 0xFFF#32 = 0x020#32 →
      let x := value 0x11D0 0
      let k := if x < 2 then 1 else if x < 4 then 2 else if x < 8 then 4 else 8
      exec (.setupLoad count mask { host := host, fault := none }) s = .next
        (done { v with motors := { v.motors with prescaleStaged := k } } (decide (k ≠ x)) 5)) ∧
    exec .counterClear s = .next (({ s with
      strips := s.strips.map fun x => { x with arrived := 0, cut := 0, flushed := 0, stalls := 0, touches := 0 }
      scanner := { s.scanner with missed := 0, refFailures := 0 }
      motors := { s.motors with expiries := 0 }
      writer := { s.writer with lostCount := 0 }
      links := s.links.map fun l => { l with frames := 0, short := 0, excess := 0, overruns := 0, losses := 0 }
      sweep := { s.sweep with late := 0 } } : State).answer .done 0)

/-- The command a cell spells (R194, section 10.5), by its kind word: cell `k` below 4 is a group cell, with its entry words,
and any other the cell of strip `k` - 4. A kind that is none of its cell's spells none. -/
def Sys2Proof.Machine.cellSpells (k : Nat) (head entries : List Word) : Option Instr :=
  let w := fun j => head.getD j 0
  let low := fun x : Word => BitVec.ofNat 16 (x.toNat % 65536)
  let i : StripId := Fin.ofNat 32 (k - 4)
  let a : MoveArgs :=
    { tag := low (w 3), target := low (w 4), duration := low (w 5), priority := BitVec.ofNat 3 (w 6).toNat }
  let scene : SceneArgs :=
    { tag := low (w 4), duration := low (w 5), priority := BitVec.ofNat 3 (w 6).toNat
      jump := decide ((w 6).toNat / 256 % 2 = 1), count := w 7 }
  let kind := (w 1).toNat
  if k < 4 then
    if kind = 16 then some (.scene scene entries)
    else if kind = 17 then some (.gangSet (Fin.ofNat 8 (w 6).toNat) (w 7) entries)
    else if kind = 18 then some (.setupLoad (w 7) (entries.getD 0 0) { host := [], fault := none })
    else if kind = 19 then some (.meterReset (w 7) entries)
    else if kind = 20 then some (.activityFlush { host := [], fault := none })
    else if kind = 21 then some .counterClear
    else none
  else if kind = 1 then some (.move i a)
  else if kind = 2 then some (.jump i a)
  else if kind = 3 then some (.stop i)
  else if kind = 4 then some (.calibrate i (low (w 3)))
  else if kind = 5 then some (.setCal i (low (w 7)) (BitVec.ofNat 16 ((w 7).toNat / 65536)))
  else if kind = 6 then some (.clearStall i)
  else if kind = 7 then some (.stripOn i)
  else if kind = 8 then some (.stripOff i)
  else none

/-- The Cell Sweep (R192 to R194). A sweep timer expiry starts a pass at G0, its head read, with the staged period adopted, or
counts sweep-late while a pass is in progress. A visit reads the next cell's head; a cell whose owner is not FZ is left; a cell
in hand has its command run, or BAD_KIND answered, and its words written: the refused set of a group cell, the outcome, and
last the owner CP; then the pass goes on, or ends with the sweep count counted up and written. The commands are those of cellSpells,
entry words are read for kinds 16 to 19 alone, and outcomes have the codes 1 to 13. A read that fails on the way is a bus fault at
its word (R187), in the order next head, entry words, the command's own reads; after the last it is none. That the visit is one
command whose reads come in that order (log 11), that host words land where log 7 says, and that nothing happens without a
pass or with the timer stopped (log 3), is the model's choice. -/
def Obligations.SweepVisitsCells : Prop :=
  (∀ (k : Nat) (head entries : List Word), k < 36 →
    cellCommand k head entries = Sys2Proof.Machine.cellSpells k head entries ∧
    entriesRead head = (if 16 ≤ (head.getD 1 0).toNat ∧ (head.getD 1 0).toNat ≤ 19 then min 32 (head.getD 7 0).toNat else 0)) ∧
  [Outcome.done, .clamped, .partlyRefused, .queueFull, .notCalibrated, .stripOff, .stalled, .wrongSource, .gangBusy, .inGang,
    .badList, .calSpan, .badKind].map Outcome.code = List.range' 1 13 ∧
  ∀ (s : State) (host : List HostWrite),
    let word := fun (at_ : Nat) (d : Word) (note : WriteNote) => ({ offset := at_, data := d, note := note } : PostedWrite)
    (s.sweep.timer = none → exec (.sweepTimerExpiry host) s = .next (s.hostWrote host)) ∧
    (s.sweep.timer ≠ none → s.sweep.pass ≠ none → exec (.sweepTimerExpiry host) s = .next (({ s with
      sweep := { s.sweep with late := s.sweep.late + 1, timer := some s.sweep.period } } : State).hostWrote host)) ∧
    (s.sweep.timer ≠ none → s.sweep.pass = none →
      ∃ v : State, v = ({ s with sweep := { s.sweep with
          period := s.sweep.periodStaged, timer := some s.sweep.periodStaged, pass := some 0 } } : State).beforeRead host ∧
        exec (.sweepTimerExpiry host) s = .next { v with sweep := { v.sweep with
          readAhead := (List.range 8).map fun k => v.readImage (0x40 + 4 * k) } }) ∧
    (s.sweep.pass = none → ∀ fault, exec (.cellVisit { host := host, fault := fault }) s = .next (s.hostWrote host)) ∧
    ∀ k, s.sweep.pass = some k →
      let at_ := if k < 4 then 0x40 + 160 * k else 0x300 + 32 * (k - 4)
      let next := if k + 1 < 4 then 0x40 + 160 * (k + 1) else 0x300 + 32 * (k + 1 - 4)
      let head := s.sweep.readAhead
      let v := s.beforeRead host
      let u : State := if k < 35 then
          { v with sweep := { v.sweep with readAhead := (List.range 8).map fun j => v.readImage (next + 4 * j) } }
        else { s.hostWrote host with sweep := { s.sweep with readAhead := [] } }
      let on := fun t : State => if k < 35 then { t with sweep := { t.sweep with pass := some (k + 1) } }
        else ({ t with sweep := { t.sweep with pass := none, count := t.sweep.count + 1 } } : State).post
          (word 32 (t.sweep.count + 1) .plain)
      let answered := fun t : State => t.postAll ((if k < 4 then [word (at_ + 12) t.sweep.refused .plain] else []) ++
        [word (at_ + 8) (BitVec.ofNat 32 (t.sweep.outcome.elim 0 Outcome.code)) .plain, word at_ 0 .cellOwner])
      let entries := if k < 4 then (List.range (entriesRead head)).map fun j => u.readImage (at_ + 32 + 4 * j) else []
      let free := (head.getD 0 0).toNat % 256 = 1
      let visit := exec (.cellVisit { host := host, fault := none }) s
      let cut := fun j => exec (.cellVisit { host := host, fault := some j }) s
      let ahead := if k < 35 then 8 else 0
      let reads := ahead + entries.length
      (¬ free → visit = .next (on u)) ∧
      (free → cellCommand k head entries = none → visit = .next (on (answered (u.answer .badKind 0)))) ∧
      (∀ c, free → cellCommand k head entries = some c → ∃ t, exec c u = .next t ∧ visit = .next (on (answered t))) ∧
      (s.part.state = .running →
        (∀ j, j < ahead → cut j = exec (.busFault (BitVec.ofNat 32 (next + 4 * j))) v) ∧
        (∀ j, free → ahead ≤ j → j < reads →
          cut j = exec (.busFault (BitVec.ofNat 32 (at_ + 32 + 4 * (j - ahead)))) u)) ∧
      (∀ j, ahead ≤ j → ¬ free → cut j = visit) ∧
      ∀ j, free → reads ≤ j →
        let own := match cellCommand k head entries with
          | some (.setupLoad c m _) => some (Instr.setupLoad c m { host := [], fault := some (j - reads) })
          | some (.activityFlush _) => some (Instr.activityFlush { host := [], fault := some (j - reads) })
          | _ => none
        (own = none → cut j = visit) ∧
        (∀ c t, u.part.state = .running → own = some c → exec c u = .next t →
          cut j = if t.part.state = .faulted then .next t else visit)

/-- Posted writes (R189, R193, R201): one handed while fewer than 8 are queued joins the tail; with 8 queued the oldest is
issued first; behind words of a report record in hand it waits until they are handed. POSTED_WRITE_ISSUED completes in every
state: it writes the oldest to memory at the image base in force at the issue (the model's choice where a START has changed it since
the handing, log 41) plus its offset: a returned cell's owner is then a CELL
event, and a report's last word ends the report, the writer free, and sets REPORT; with none queued nothing is written. The
Report Writer hands what it has for the place made free: the next word of the record in hand, or of the next record, whose
values are taken then, or the header words that end the report. In STOPPING the STOP sequence then goes on (R183; within the
command, log 13); nothing else happens. That a write handed to a full queue is issued within the handing command, and the
Report Writer's place in it, is the model's choice (log 12), and so is the moment of R201's step 3 when the last link word fills the
queue: the report count counts up, and word 11 takes the part time, when a place is next free. -/
def Obligations.PostedWritesReachMemory : Prop :=
  (∀ (s : State) (w : PostedWrite),
    (s.reporter.run = none ∨ (∃ r, s.reporter.run = some r ∧ r.words = []) →
      (s.posted.length < 8 → s.post w = { s with posted := s.posted ++ [w] }) ∧
      (8 ≤ s.posted.length → s.post w = { s.issueOldest with posted := s.posted.tail ++ [w] })) ∧
    ∀ r x xs, s.reporter.run = some r → r.words = x :: xs → (∀ q ∈ s.posted, q.note ≠ .reportEnd) →
      let m := if s.posted.length < 8 then s else s.issueOldest
      s.post w = ({ m with
        posted := m.posted ++ [x]
        reporter := { m.reporter with
          run := some { r with words := xs }
          bank := if x.note = .reportEnd then r.bank else m.reporter.bank } } : State).post w) ∧
  (∀ s : State, (∃ t, exec .postedWriteIssued s = .next t) ∧
    ∀ w rest, s.posted = w :: rest → ∃ t more, exec .postedWriteIssued s = .next (Sys2Proof.Machine.stopWatched t) ∧
      t = { s with
        posted := rest ++ more, memory := s.memory.writeWord (s.part.base.toNat + w.offset) w.data
        attention := t.attention, reporter := t.reporter } ∧
      t.attention = (match w.note with
        | .plain => s.attention
        | .cellOwner => s.attention.event .cell
        | .reportEnd => s.attention.set .report) ∧
      ∀ r, s.reporter.run = some r → rest.length = 7 → w.note ≠ .reportEnd →
        (∀ x xs, r.words = x :: xs → more = [x] ∧ t.reporter = { s.reporter with
          run := some { r with words := xs }, bank := if x.note = .reportEnd then r.bank else s.reporter.bank }) ∧
        (r.words = [] → r.next < 99 →
          let ws := layWords ((match r.bank with
            | .a => 0x1800
            | .b => 0x2000) + 4 * (s.reportRecord r.next).1) (s.reportRecord r.next).2
          more = ws.take 1 ∧ t.reporter = { s.reporter with run := some { r with next := r.next + 1, words := ws.drop 1 } }) ∧
        (r.words = [] → r.next = 99 →
          let count := s.reporter.count + 1
          more = [{ offset := 40, data := count, note := .plain }] ∧
          t.reporter = { s.reporter with count := count, run := some { r with next := 100, words :=
            [{ offset := 44, data := s.part.time, note := .plain },
             { offset := 36, data := if r.bank = .a then 0 else 1, note := .reportEnd }] } })) ∧
  ∀ s : State, s.MemoryOk →
    s.reporter.run = none ∨ (∃ r, s.reporter.run = some r ∧ r.next = 100 ∧ r.words = []) →
    (s.posted = [] → exec .postedWriteIssued s = .next (Sys2Proof.Machine.stopWatched s)) ∧
    ∀ w rest, s.posted = w :: rest → ∃ t, exec .postedWriteIssued s = .next (Sys2Proof.Machine.stopWatched t) ∧
      t = { s with
        posted := rest, memory := s.memory.writeWord (s.part.base.toNat + w.offset) w.data, attention := t.attention
        reporter := t.reporter } ∧
      t.reporter = (if w.note = .reportEnd then { s.reporter with run := none } else s.reporter) ∧
      t.readImage w.offset = w.data ∧
      (∀ a, a < s.part.base.toNat + w.offset ∨ s.part.base.toNat + w.offset + 4 ≤ a →
        t.memory.read a = s.memory.read a) ∧
      t.attention = (match w.note with
        | .plain => s.attention
        | .cellOwner => s.attention.event .cell
        | .reportEnd => s.attention.set .report)

/-- The report's numbers of a strip state and of its waiting purpose (R198, section 10.5). -/
def Sys2Proof.Machine.stateNumber : StripState → Nat × Nat
  | .off => (0, 0) | .uncal => (1, 0) | .calibrating => (2, 0) | .idle => (3, 0) | .waiting .move => (4, 0)
  | .waiting .calibrate => (4, 1) | .waiting .follow => (4, 2) | .waiting .stream => (4, 3) | .moving => (5, 0)
  | .settling => (6, 0) | .following => (7, 0) | .touched => (8, 0) | .stalled => (9, 0)

/-- The words of the report's records (R197 to R199, section 10.5), each at its first word of the bank. -/
def Sys2Proof.Machine.ReportLayout : Prop :=
  ∀ s : State,
    let two := fun a b : Nat => BitVec.ofNat 32 (a % 65536 + 65536 * (b % 65536))
    let bit := fun b : Bool => if b then 1 else 0
    let budget := if s.arbiter.supply = .ok then s.arbiter.full else s.arbiter.low
    s.reportRecord 0 = (0, [
      BitVec.ofNat 32 ((if s.arbiter.supply = .low then 1 else 0) + 256 * (budget % 64) +
        65536 * (s.arbiter.grantSet.length % 64)),
      two s.scanner.missed.toNat s.scanner.refFailures.toNat, two s.sweep.late.toNat s.motors.expiries.toNat,
      two s.writer.lostCount.toNat 0]) ∧
    (∀ i : StripId,
      let x := s.strip i
      let n := stateNumber x.state
      let role := match x.role with
        | .outside => 0 | .leader => 1 | .follower => 2 | .trimming => 3
      let gang := match x.gang with
        | none => 15
        | some g => g.val
      let e := x.current.getD { tag := 0, target := 0, duration := 0, priority := 0, origin := .cell, touchTime := false }
      s.reportRecord (1 + i.val) = (4 + 5 * i.val, [
        BitVec.ofNat 32 (n.1 + 16 * n.2 + 256 * (x.queue.length % 16) + 4096 * bit x.touch + 8192 * bit x.grantHeld +
          16384 * bit x.streamTarget.isSome + 32768 * bit x.relatch + 65536 * gang + 1048576 * role +
          4194304 * bit x.current.isSome + 8388608 * (if e.origin = .scene then 1 else 0) +
          16777216 * (if x.settings.source = .link then 1 else 0) + 33554432 * bit x.cal.valid),
        two x.pRep e.target, two e.tag.toNat x.touches.toNat, two x.arrived.toNat x.cut.toNat,
        two x.flushed.toNat x.stalls.toNat])) ∧
    (∀ c : ChanId,
      let x := s.meters.chans[c]
      s.reportRecord (33 + c.val) = (164 + 2 * c.val, [
        BitVec.ofNat 32 (x.m / 64 % 512 + 65536 * (x.hv % 512)),
        BitVec.ofNat 32 (bit x.isOver + 2 * bit x.nofeed + 16 * x.profile.val)])) ∧
    ∀ k : LinkId,
      let l := s.links[k]
      let st := match l.state with
        | .off => 0 | .acquiring => 1 | .locked => 2 | .lost => 3
      s.reportRecord (97 + k.val) = (292 + 3 * k.val, [
        BitVec.ofNat 32 (st + 65536 * l.frames.toNat), two l.short.toNat l.excess.toNat,
        two l.overruns.toNat l.losses.toNat])

/-- A CELL or ACTIVITY event at the Attention Unit (R204): with threshold and hold time 0 the cause is set; otherwise it is
counted, to 255, the hold timer starting at the first, and at the threshold the cause is set; a setting leaves nothing
pending, the timer stopped and staged values adopted. -/
def Sys2Proof.Machine.EventCoalesces : Prop :=
  ∀ (a : Attention) (which : Coalesced),
    let co := match which with
      | .cell => a.cell
      | .activity => a.activity
    let withCo := fun (b : Attention) (x : Coalescing) => match which with
      | .cell => { b with cell := x }
      | .activity => { b with activity := x }
    let set : Attention := withCo { a with attn := a.attn ||| (match which with
        | .cell => 1#8
        | .activity => 2#8) }
      { pending := 0, timer := none, threshold := co.thresholdStaged.getD co.threshold
        hold := co.holdStaged.getD co.hold, thresholdStaged := none, holdStaged := none }
    let n := min 255 (co.pending + 1)
    let counted : Attention := withCo a
      { co with pending := n, timer := if co.pending = 0 ∧ co.hold ≠ 0 then some co.hold else co.timer }
    (co.threshold = 0 → co.hold = 0 → a.event which = set) ∧
    (co.threshold ≠ 0 → co.threshold ≤ n → a.event which = set) ∧
    (co.threshold ≠ 0 → n < co.threshold → a.event which = counted) ∧
    (co.threshold = 0 → co.hold ≠ 0 → a.event which = counted)

/-- Report timer, hold timers and part time (R188, R200, R201, R204). A report timer expiry with no report being written
starts one into the bank not named, with the staged period adopted, and as many words of its first records as there are places
are handed at once, their values taken then (the model's choice of that moment, log 12); with one being written it only
restarts the timer. A CELL or ACTIVITY hold timer's expiry sets its cause, with no event pending and staged values adopted;
their events coalesce as EventCoalesces says. The words of a report's records are ReportLayout. Part time counts in STARTING,
RUNNING and STOPPING, modulo 2^32, and stands in HALTED and FAULTED. That a stopped timer's expiry has no effect is the
model's choice (log 3). -/
def Obligations.ReportTimerHoldTimersAndTime : Prop :=
  Sys2Proof.Machine.ReportLayout ∧ Sys2Proof.Machine.EventCoalesces ∧
  ∀ s : State,
    (s.reporter.timer = none → exec .reportTimerExpiry s = .next s) ∧
    (∀ r, s.reporter.timer ≠ none → s.reporter.run = some r → exec .reportTimerExpiry s = .next { s with
      reporter := { s.reporter with timer := some s.reporter.period } }) ∧
    (s.reporter.timer ≠ none → s.reporter.run = none → ∃ t r, exec .reportTimerExpiry s = .next t ∧
      t = { s with reporter := t.reporter, posted := t.posted } ∧ t.reporter.period = s.reporter.periodStaged ∧
      t.reporter.timer = some s.reporter.periodStaged ∧ t.reporter.bank = s.reporter.bank ∧
      t.reporter.count = s.reporter.count ∧ t.reporter.run = some r ∧ r.bank ≠ s.reporter.bank ∧
      (∃ ws, t.posted = s.posted ++ ws) ∧
      (s.posted.length < 8 →
        let at_ := match r.bank with
          | .a => 0x1800
          | .b => 0x2000
        let part := layWords at_ (s.reportRecord 0).2
        let strip0 := layWords (at_ + 16) (s.reportRecord 1).2
        let n := 8 - s.posted.length
        t.posted = s.posted ++ (part ++ strip0).take n ∧ r.next = (if n ≤ 4 then 1 else 2) ∧
          r.words = if n ≤ 4 then part.drop n else (part ++ strip0).drop n)) ∧
    (∀ which : Coalesced,
      let co := match which with
        | .cell => s.attention.cell
        | .activity => s.attention.activity
      (co.timer = none → exec (.coalescingHoldExpiry which) s = .next s) ∧
      (co.timer ≠ none → ∃ t, exec (.coalescingHoldExpiry which) s = .next t ∧
        t = { s with attention := t.attention } ∧ t.attention.mask = s.attention.mask ∧
        t.attention.attn = s.attention.attn ||| (match which with
          | .cell => 1#8
          | .activity => 2#8) ∧
        (match which with
          | .cell => t.attention.cell
          | .activity => t.attention.activity) =
          { pending := 0, timer := none, threshold := co.thresholdStaged.getD co.threshold
            hold := co.holdStaged.getD co.hold, thresholdStaged := none, holdStaged := none })) ∧
    (s.part.state = .starting ∨ s.part.state = .running ∨ s.part.state = .stopping →
      exec .partTimeCount s = .next { s with part := { s.part with time := s.part.time + 1 } }) ∧
    (s.part.state = .halted ∨ s.part.state = .faulted → exec .partTimeCount s = .next s)

/-! ### The laws every step keeps -/

/-- The machine right after reset meets every law of Safety.lean. -/
def Obligations.ResetMeetsEveryLaw : Prop :=
  State.reset.MemoryOk ∧ State.reset.QueuesOk ∧ State.reset.MetersOk ∧ State.reset.GrantsOk ∧ State.reset.PositionsOk ∧
    State.reset.ControlOk ∧ State.reset.PagesOk ∧ State.reset.ReportOk

/-- Memory keeps its canonical form. -/
def Obligations.MemoryStaysCanonical : Prop := ∀ s t : State, step s = .next t → s.MemoryOk → t.MemoryOk

/-- No queue outgrows its places and no bounded count its bound (R56, R120, R121, R147, R189, R204). -/
def Obligations.QueuesStayBounded : Prop := ∀ s t : State, step s = .next t → s.QueuesOk → t.QueuesOk

/-- Meter values, peak holds and over runs stay in their ranges, the peak hold at or above the level (R153, R154, R165). -/
def Obligations.MetersStayLawful : Prop := ∀ s t : State, step s = .next t → s.MetersOk → t.MetersOk

/-- The grant set never holds more strips than the full budget in force, and no strip twice (R102, R105). -/
def Obligations.GrantsStayBounded : Prop := ∀ s t : State, step s = .next t → s.GrantsOk → t.GrantsOk

/-- Every strip's code, positions and virtual position stay in their ranges, and a valid record spans 512 codes (R14, R86). -/
def Obligations.PositionsStayLawful : Prop := ∀ s t : State, step s = .next t → s.PositionsOk → t.PositionsOk

/-- MOTOR_EN is high in RUNNING alone, and each activity of the part goes on only in its part states (R2, R8, R117, R180 to
R183). -/
def Obligations.MotorsAreEnabledInRunningAlone : Prop := ∀ s t : State, step s = .next t → s.ControlOk → t.ControlOk

/-- The used words of the page in hand never exceed its page size, and the page is one of the writer's pages (R122, R124). -/
def Obligations.PagesNeverOverflow : Prop := ∀ s t : State, step s = .next t → s.PagesOk → t.PagesOk

/-- The bank being written is never the one the selector names until its word 9 is handed (R201). -/
def Obligations.ReportBanksAlternate : Prop :=
  ∀ s t : State, step s = .next t → s.ControlOk → s.ReportOk → t.ReportOk
end

