-- ==== Sys2Proof/Decode.lean ====
section
/-!
DEFINITION. The commands that words spell. Every row of spec/opcode_table.json is an access of a register or an event at a
pin, a timer or a block, and gives no bits (log 6).
-/
namespace Sys2Proof

/-- The command whose bits are `w`: no row of the table gives bits, so there is none. -/
def decodeTableWord (_nbits _w : Nat) : Option Instr := none

end Sys2Proof
end

