-- ==== Sys2Proof/Laws/State.lean ====
section
/-!
SUPPORT. One lemma per field per named update of the state, so that no later proof unfolds a record update.
-/
namespace Sys2Proof.Machine

/-! ### `State.setStrip` -/

@[simp] theorem State.setStrip_pending (s : State) (i : StripId) (x : Strip) : (s.setStrip i x).pending = s.pending := rfl
@[simp] theorem State.setStrip_inFlight (s : State) (i : StripId) (x : Strip) : (s.setStrip i x).inFlight = s.inFlight := rfl
@[simp] theorem State.setStrip_part (s : State) (i : StripId) (x : Strip) : (s.setStrip i x).part = s.part := rfl
@[simp] theorem State.setStrip_memory (s : State) (i : StripId) (x : Strip) : (s.setStrip i x).memory = s.memory := rfl
@[simp] theorem State.setStrip_posted (s : State) (i : StripId) (x : Strip) : (s.setStrip i x).posted = s.posted := rfl
@[simp] theorem State.setStrip_sweep (s : State) (i : StripId) (x : Strip) : (s.setStrip i x).sweep = s.sweep := rfl
@[simp] theorem State.setStrip_scanner (s : State) (i : StripId) (x : Strip) : (s.setStrip i x).scanner = s.scanner := rfl
@[simp] theorem State.setStrip_touchScan (s : State) (i : StripId) (x : Strip) : (s.setStrip i x).touchScan = s.touchScan := rfl
@[simp] theorem State.setStrip_servoLoaded (s : State) (i : StripId) (x : Strip) : (s.setStrip i x).servoLoaded = s.servoLoaded := rfl
@[simp] theorem State.setStrip_strips (s : State) (i : StripId) (x : Strip) : (s.setStrip i x).strips = s.strips.set i x := rfl
@[simp] theorem State.setStrip_gangs (s : State) (i : StripId) (x : Strip) : (s.setStrip i x).gangs = s.gangs := rfl
@[simp] theorem State.setStrip_arbiter (s : State) (i : StripId) (x : Strip) : (s.setStrip i x).arbiter = s.arbiter := rfl
@[simp] theorem State.setStrip_msupOk (s : State) (i : StripId) (x : Strip) : (s.setStrip i x).msupOk = s.msupOk := rfl
@[simp] theorem State.setStrip_motors (s : State) (i : StripId) (x : Strip) : (s.setStrip i x).motors = s.motors := rfl
@[simp] theorem State.setStrip_writer (s : State) (i : StripId) (x : Strip) : (s.setStrip i x).writer = s.writer := rfl
@[simp] theorem State.setStrip_links (s : State) (i : StripId) (x : Strip) : (s.setStrip i x).links = s.links := rfl
@[simp] theorem State.setStrip_input (s : State) (i : StripId) (x : Strip) : (s.setStrip i x).input = s.input := rfl
@[simp] theorem State.setStrip_meters (s : State) (i : StripId) (x : Strip) : (s.setStrip i x).meters = s.meters := rfl
@[simp] theorem State.setStrip_bars (s : State) (i : StripId) (x : Strip) : (s.setStrip i x).bars = s.bars := rfl
@[simp] theorem State.setStrip_reporter (s : State) (i : StripId) (x : Strip) : (s.setStrip i x).reporter = s.reporter := rfl
@[simp] theorem State.setStrip_attention (s : State) (i : StripId) (x : Strip) : (s.setStrip i x).attention = s.attention := rfl

/-! ### `State.setGang` -/

@[simp] theorem State.setGang_pending (s : State) (g : GangId) (x : Gang) : (s.setGang g x).pending = s.pending := rfl
@[simp] theorem State.setGang_inFlight (s : State) (g : GangId) (x : Gang) : (s.setGang g x).inFlight = s.inFlight := rfl
@[simp] theorem State.setGang_part (s : State) (g : GangId) (x : Gang) : (s.setGang g x).part = s.part := rfl
@[simp] theorem State.setGang_memory (s : State) (g : GangId) (x : Gang) : (s.setGang g x).memory = s.memory := rfl
@[simp] theorem State.setGang_posted (s : State) (g : GangId) (x : Gang) : (s.setGang g x).posted = s.posted := rfl
@[simp] theorem State.setGang_sweep (s : State) (g : GangId) (x : Gang) : (s.setGang g x).sweep = s.sweep := rfl
@[simp] theorem State.setGang_scanner (s : State) (g : GangId) (x : Gang) : (s.setGang g x).scanner = s.scanner := rfl
@[simp] theorem State.setGang_touchScan (s : State) (g : GangId) (x : Gang) : (s.setGang g x).touchScan = s.touchScan := rfl
@[simp] theorem State.setGang_servoLoaded (s : State) (g : GangId) (x : Gang) : (s.setGang g x).servoLoaded = s.servoLoaded := rfl
@[simp] theorem State.setGang_strips (s : State) (g : GangId) (x : Gang) : (s.setGang g x).strips = s.strips := rfl
@[simp] theorem State.setGang_gangs (s : State) (g : GangId) (x : Gang) : (s.setGang g x).gangs = s.gangs.set g x := rfl
@[simp] theorem State.setGang_arbiter (s : State) (g : GangId) (x : Gang) : (s.setGang g x).arbiter = s.arbiter := rfl
@[simp] theorem State.setGang_msupOk (s : State) (g : GangId) (x : Gang) : (s.setGang g x).msupOk = s.msupOk := rfl
@[simp] theorem State.setGang_motors (s : State) (g : GangId) (x : Gang) : (s.setGang g x).motors = s.motors := rfl
@[simp] theorem State.setGang_writer (s : State) (g : GangId) (x : Gang) : (s.setGang g x).writer = s.writer := rfl
@[simp] theorem State.setGang_links (s : State) (g : GangId) (x : Gang) : (s.setGang g x).links = s.links := rfl
@[simp] theorem State.setGang_input (s : State) (g : GangId) (x : Gang) : (s.setGang g x).input = s.input := rfl
@[simp] theorem State.setGang_meters (s : State) (g : GangId) (x : Gang) : (s.setGang g x).meters = s.meters := rfl
@[simp] theorem State.setGang_bars (s : State) (g : GangId) (x : Gang) : (s.setGang g x).bars = s.bars := rfl
@[simp] theorem State.setGang_reporter (s : State) (g : GangId) (x : Gang) : (s.setGang g x).reporter = s.reporter := rfl
@[simp] theorem State.setGang_attention (s : State) (g : GangId) (x : Gang) : (s.setGang g x).attention = s.attention := rfl

/-! ### `State.deliver` -/

@[simp] theorem State.deliver_pending (s : State) (e : Instr) : (s.deliver e).pending = s.pending := rfl
@[simp] theorem State.deliver_inFlight (s : State) (e : Instr) : (s.deliver e).inFlight = s.inFlight ++ [e] := rfl
@[simp] theorem State.deliver_part (s : State) (e : Instr) : (s.deliver e).part = s.part := rfl
@[simp] theorem State.deliver_memory (s : State) (e : Instr) : (s.deliver e).memory = s.memory := rfl
@[simp] theorem State.deliver_posted (s : State) (e : Instr) : (s.deliver e).posted = s.posted := rfl
@[simp] theorem State.deliver_sweep (s : State) (e : Instr) : (s.deliver e).sweep = s.sweep := rfl
@[simp] theorem State.deliver_scanner (s : State) (e : Instr) : (s.deliver e).scanner = s.scanner := rfl
@[simp] theorem State.deliver_touchScan (s : State) (e : Instr) : (s.deliver e).touchScan = s.touchScan := rfl
@[simp] theorem State.deliver_servoLoaded (s : State) (e : Instr) : (s.deliver e).servoLoaded = s.servoLoaded := rfl
@[simp] theorem State.deliver_strips (s : State) (e : Instr) : (s.deliver e).strips = s.strips := rfl
@[simp] theorem State.deliver_gangs (s : State) (e : Instr) : (s.deliver e).gangs = s.gangs := rfl
@[simp] theorem State.deliver_arbiter (s : State) (e : Instr) : (s.deliver e).arbiter = s.arbiter := rfl
@[simp] theorem State.deliver_msupOk (s : State) (e : Instr) : (s.deliver e).msupOk = s.msupOk := rfl
@[simp] theorem State.deliver_motors (s : State) (e : Instr) : (s.deliver e).motors = s.motors := rfl
@[simp] theorem State.deliver_writer (s : State) (e : Instr) : (s.deliver e).writer = s.writer := rfl
@[simp] theorem State.deliver_links (s : State) (e : Instr) : (s.deliver e).links = s.links := rfl
@[simp] theorem State.deliver_input (s : State) (e : Instr) : (s.deliver e).input = s.input := rfl
@[simp] theorem State.deliver_meters (s : State) (e : Instr) : (s.deliver e).meters = s.meters := rfl
@[simp] theorem State.deliver_bars (s : State) (e : Instr) : (s.deliver e).bars = s.bars := rfl
@[simp] theorem State.deliver_reporter (s : State) (e : Instr) : (s.deliver e).reporter = s.reporter := rfl
@[simp] theorem State.deliver_attention (s : State) (e : Instr) : (s.deliver e).attention = s.attention := rfl

/-! ### `State.deliverAll` -/

@[simp] theorem State.deliverAll_pending (s : State) (js : List StripId) (e : StripId → Instr) : (s.deliverAll js e).pending = s.pending := rfl
@[simp] theorem State.deliverAll_inFlight (s : State) (js : List StripId) (e : StripId → Instr) : (s.deliverAll js e).inFlight = s.inFlight ++ js.map e := rfl
@[simp] theorem State.deliverAll_part (s : State) (js : List StripId) (e : StripId → Instr) : (s.deliverAll js e).part = s.part := rfl
@[simp] theorem State.deliverAll_memory (s : State) (js : List StripId) (e : StripId → Instr) : (s.deliverAll js e).memory = s.memory := rfl
@[simp] theorem State.deliverAll_posted (s : State) (js : List StripId) (e : StripId → Instr) : (s.deliverAll js e).posted = s.posted := rfl
@[simp] theorem State.deliverAll_sweep (s : State) (js : List StripId) (e : StripId → Instr) : (s.deliverAll js e).sweep = s.sweep := rfl
@[simp] theorem State.deliverAll_scanner (s : State) (js : List StripId) (e : StripId → Instr) : (s.deliverAll js e).scanner = s.scanner := rfl
@[simp] theorem State.deliverAll_touchScan (s : State) (js : List StripId) (e : StripId → Instr) : (s.deliverAll js e).touchScan = s.touchScan := rfl
@[simp] theorem State.deliverAll_servoLoaded (s : State) (js : List StripId) (e : StripId → Instr) : (s.deliverAll js e).servoLoaded = s.servoLoaded := rfl
@[simp] theorem State.deliverAll_strips (s : State) (js : List StripId) (e : StripId → Instr) : (s.deliverAll js e).strips = s.strips := rfl
@[simp] theorem State.deliverAll_gangs (s : State) (js : List StripId) (e : StripId → Instr) : (s.deliverAll js e).gangs = s.gangs := rfl
@[simp] theorem State.deliverAll_arbiter (s : State) (js : List StripId) (e : StripId → Instr) : (s.deliverAll js e).arbiter = s.arbiter := rfl
@[simp] theorem State.deliverAll_msupOk (s : State) (js : List StripId) (e : StripId → Instr) : (s.deliverAll js e).msupOk = s.msupOk := rfl
@[simp] theorem State.deliverAll_motors (s : State) (js : List StripId) (e : StripId → Instr) : (s.deliverAll js e).motors = s.motors := rfl
@[simp] theorem State.deliverAll_writer (s : State) (js : List StripId) (e : StripId → Instr) : (s.deliverAll js e).writer = s.writer := rfl
@[simp] theorem State.deliverAll_links (s : State) (js : List StripId) (e : StripId → Instr) : (s.deliverAll js e).links = s.links := rfl
@[simp] theorem State.deliverAll_input (s : State) (js : List StripId) (e : StripId → Instr) : (s.deliverAll js e).input = s.input := rfl
@[simp] theorem State.deliverAll_meters (s : State) (js : List StripId) (e : StripId → Instr) : (s.deliverAll js e).meters = s.meters := rfl
@[simp] theorem State.deliverAll_bars (s : State) (js : List StripId) (e : StripId → Instr) : (s.deliverAll js e).bars = s.bars := rfl
@[simp] theorem State.deliverAll_reporter (s : State) (js : List StripId) (e : StripId → Instr) : (s.deliverAll js e).reporter = s.reporter := rfl
@[simp] theorem State.deliverAll_attention (s : State) (js : List StripId) (e : StripId → Instr) : (s.deliverAll js e).attention = s.attention := rfl

/-! ### `State.take` -/

@[simp] theorem State.take_pending (s : State) (e : Instr) : (s.take e).pending = s.pending := rfl
@[simp] theorem State.take_inFlight (s : State) (e : Instr) : (s.take e).inFlight = s.inFlight.erase e := rfl
@[simp] theorem State.take_part (s : State) (e : Instr) : (s.take e).part = s.part := rfl
@[simp] theorem State.take_memory (s : State) (e : Instr) : (s.take e).memory = s.memory := rfl
@[simp] theorem State.take_posted (s : State) (e : Instr) : (s.take e).posted = s.posted := rfl
@[simp] theorem State.take_sweep (s : State) (e : Instr) : (s.take e).sweep = s.sweep := rfl
@[simp] theorem State.take_scanner (s : State) (e : Instr) : (s.take e).scanner = s.scanner := rfl
@[simp] theorem State.take_touchScan (s : State) (e : Instr) : (s.take e).touchScan = s.touchScan := rfl
@[simp] theorem State.take_servoLoaded (s : State) (e : Instr) : (s.take e).servoLoaded = s.servoLoaded := rfl
@[simp] theorem State.take_strips (s : State) (e : Instr) : (s.take e).strips = s.strips := rfl
@[simp] theorem State.take_gangs (s : State) (e : Instr) : (s.take e).gangs = s.gangs := rfl
@[simp] theorem State.take_arbiter (s : State) (e : Instr) : (s.take e).arbiter = s.arbiter := rfl
@[simp] theorem State.take_msupOk (s : State) (e : Instr) : (s.take e).msupOk = s.msupOk := rfl
@[simp] theorem State.take_motors (s : State) (e : Instr) : (s.take e).motors = s.motors := rfl
@[simp] theorem State.take_writer (s : State) (e : Instr) : (s.take e).writer = s.writer := rfl
@[simp] theorem State.take_links (s : State) (e : Instr) : (s.take e).links = s.links := rfl
@[simp] theorem State.take_input (s : State) (e : Instr) : (s.take e).input = s.input := rfl
@[simp] theorem State.take_meters (s : State) (e : Instr) : (s.take e).meters = s.meters := rfl
@[simp] theorem State.take_bars (s : State) (e : Instr) : (s.take e).bars = s.bars := rfl
@[simp] theorem State.take_reporter (s : State) (e : Instr) : (s.take e).reporter = s.reporter := rfl
@[simp] theorem State.take_attention (s : State) (e : Instr) : (s.take e).attention = s.attention := rfl

/-! ### `State.setCause` -/

@[simp] theorem State.setCause_pending (s : State) (c : Cause) : (s.setCause c).pending = s.pending := rfl
@[simp] theorem State.setCause_inFlight (s : State) (c : Cause) : (s.setCause c).inFlight = s.inFlight := rfl
@[simp] theorem State.setCause_part (s : State) (c : Cause) : (s.setCause c).part = s.part := rfl
@[simp] theorem State.setCause_memory (s : State) (c : Cause) : (s.setCause c).memory = s.memory := rfl
@[simp] theorem State.setCause_posted (s : State) (c : Cause) : (s.setCause c).posted = s.posted := rfl
@[simp] theorem State.setCause_sweep (s : State) (c : Cause) : (s.setCause c).sweep = s.sweep := rfl
@[simp] theorem State.setCause_scanner (s : State) (c : Cause) : (s.setCause c).scanner = s.scanner := rfl
@[simp] theorem State.setCause_touchScan (s : State) (c : Cause) : (s.setCause c).touchScan = s.touchScan := rfl
@[simp] theorem State.setCause_servoLoaded (s : State) (c : Cause) : (s.setCause c).servoLoaded = s.servoLoaded := rfl
@[simp] theorem State.setCause_strips (s : State) (c : Cause) : (s.setCause c).strips = s.strips := rfl
@[simp] theorem State.setCause_gangs (s : State) (c : Cause) : (s.setCause c).gangs = s.gangs := rfl
@[simp] theorem State.setCause_arbiter (s : State) (c : Cause) : (s.setCause c).arbiter = s.arbiter := rfl
@[simp] theorem State.setCause_msupOk (s : State) (c : Cause) : (s.setCause c).msupOk = s.msupOk := rfl
@[simp] theorem State.setCause_motors (s : State) (c : Cause) : (s.setCause c).motors = s.motors := rfl
@[simp] theorem State.setCause_writer (s : State) (c : Cause) : (s.setCause c).writer = s.writer := rfl
@[simp] theorem State.setCause_links (s : State) (c : Cause) : (s.setCause c).links = s.links := rfl
@[simp] theorem State.setCause_input (s : State) (c : Cause) : (s.setCause c).input = s.input := rfl
@[simp] theorem State.setCause_meters (s : State) (c : Cause) : (s.setCause c).meters = s.meters := rfl
@[simp] theorem State.setCause_bars (s : State) (c : Cause) : (s.setCause c).bars = s.bars := rfl
@[simp] theorem State.setCause_reporter (s : State) (c : Cause) : (s.setCause c).reporter = s.reporter := rfl
@[simp] theorem State.setCause_attention (s : State) (c : Cause) : (s.setCause c).attention = s.attention.set c := rfl

/-! ### `State.hostWrote` -/

@[simp] theorem State.hostWrote_pending (s : State) (ws : List HostWrite) : (s.hostWrote ws).pending = s.pending := rfl
@[simp] theorem State.hostWrote_inFlight (s : State) (ws : List HostWrite) : (s.hostWrote ws).inFlight = s.inFlight := rfl
@[simp] theorem State.hostWrote_part (s : State) (ws : List HostWrite) : (s.hostWrote ws).part = s.part := rfl
@[simp] theorem State.hostWrote_memory (s : State) (ws : List HostWrite) : (s.hostWrote ws).memory = s.memory.hostWrites ws := rfl
@[simp] theorem State.hostWrote_posted (s : State) (ws : List HostWrite) : (s.hostWrote ws).posted = s.posted := rfl
@[simp] theorem State.hostWrote_sweep (s : State) (ws : List HostWrite) : (s.hostWrote ws).sweep = s.sweep := rfl
@[simp] theorem State.hostWrote_scanner (s : State) (ws : List HostWrite) : (s.hostWrote ws).scanner = s.scanner := rfl
@[simp] theorem State.hostWrote_touchScan (s : State) (ws : List HostWrite) : (s.hostWrote ws).touchScan = s.touchScan := rfl
@[simp] theorem State.hostWrote_servoLoaded (s : State) (ws : List HostWrite) : (s.hostWrote ws).servoLoaded = s.servoLoaded := rfl
@[simp] theorem State.hostWrote_strips (s : State) (ws : List HostWrite) : (s.hostWrote ws).strips = s.strips := rfl
@[simp] theorem State.hostWrote_gangs (s : State) (ws : List HostWrite) : (s.hostWrote ws).gangs = s.gangs := rfl
@[simp] theorem State.hostWrote_arbiter (s : State) (ws : List HostWrite) : (s.hostWrote ws).arbiter = s.arbiter := rfl
@[simp] theorem State.hostWrote_msupOk (s : State) (ws : List HostWrite) : (s.hostWrote ws).msupOk = s.msupOk := rfl
@[simp] theorem State.hostWrote_motors (s : State) (ws : List HostWrite) : (s.hostWrote ws).motors = s.motors := rfl
@[simp] theorem State.hostWrote_writer (s : State) (ws : List HostWrite) : (s.hostWrote ws).writer = s.writer := rfl
@[simp] theorem State.hostWrote_links (s : State) (ws : List HostWrite) : (s.hostWrote ws).links = s.links := rfl
@[simp] theorem State.hostWrote_input (s : State) (ws : List HostWrite) : (s.hostWrote ws).input = s.input := rfl
@[simp] theorem State.hostWrote_meters (s : State) (ws : List HostWrite) : (s.hostWrote ws).meters = s.meters := rfl
@[simp] theorem State.hostWrote_bars (s : State) (ws : List HostWrite) : (s.hostWrote ws).bars = s.bars := rfl
@[simp] theorem State.hostWrote_reporter (s : State) (ws : List HostWrite) : (s.hostWrote ws).reporter = s.reporter := rfl
@[simp] theorem State.hostWrote_attention (s : State) (ws : List HostWrite) : (s.hostWrote ws).attention = s.attention := rfl

/-! ### `State.answer` -/

@[simp] theorem State.answer_pending (s : State) (o : Outcome) (r : Word) : (s.answer o r).pending = s.pending := rfl
@[simp] theorem State.answer_inFlight (s : State) (o : Outcome) (r : Word) : (s.answer o r).inFlight = s.inFlight := rfl
@[simp] theorem State.answer_part (s : State) (o : Outcome) (r : Word) : (s.answer o r).part = s.part := rfl
@[simp] theorem State.answer_memory (s : State) (o : Outcome) (r : Word) : (s.answer o r).memory = s.memory := rfl
@[simp] theorem State.answer_posted (s : State) (o : Outcome) (r : Word) : (s.answer o r).posted = s.posted := rfl
@[simp] theorem State.answer_sweep (s : State) (o : Outcome) (r : Word) : (s.answer o r).sweep = { s.sweep with outcome := some o, refused := r } := rfl
@[simp] theorem State.answer_scanner (s : State) (o : Outcome) (r : Word) : (s.answer o r).scanner = s.scanner := rfl
@[simp] theorem State.answer_touchScan (s : State) (o : Outcome) (r : Word) : (s.answer o r).touchScan = s.touchScan := rfl
@[simp] theorem State.answer_servoLoaded (s : State) (o : Outcome) (r : Word) : (s.answer o r).servoLoaded = s.servoLoaded := rfl
@[simp] theorem State.answer_strips (s : State) (o : Outcome) (r : Word) : (s.answer o r).strips = s.strips := rfl
@[simp] theorem State.answer_gangs (s : State) (o : Outcome) (r : Word) : (s.answer o r).gangs = s.gangs := rfl
@[simp] theorem State.answer_arbiter (s : State) (o : Outcome) (r : Word) : (s.answer o r).arbiter = s.arbiter := rfl
@[simp] theorem State.answer_msupOk (s : State) (o : Outcome) (r : Word) : (s.answer o r).msupOk = s.msupOk := rfl
@[simp] theorem State.answer_motors (s : State) (o : Outcome) (r : Word) : (s.answer o r).motors = s.motors := rfl
@[simp] theorem State.answer_writer (s : State) (o : Outcome) (r : Word) : (s.answer o r).writer = s.writer := rfl
@[simp] theorem State.answer_links (s : State) (o : Outcome) (r : Word) : (s.answer o r).links = s.links := rfl
@[simp] theorem State.answer_input (s : State) (o : Outcome) (r : Word) : (s.answer o r).input = s.input := rfl
@[simp] theorem State.answer_meters (s : State) (o : Outcome) (r : Word) : (s.answer o r).meters = s.meters := rfl
@[simp] theorem State.answer_bars (s : State) (o : Outcome) (r : Word) : (s.answer o r).bars = s.bars := rfl
@[simp] theorem State.answer_reporter (s : State) (o : Outcome) (r : Word) : (s.answer o r).reporter = s.reporter := rfl
@[simp] theorem State.answer_attention (s : State) (o : Outcome) (r : Word) : (s.answer o r).attention = s.attention := rfl

/-! ### `State.writeDrive` -/

@[simp] theorem State.writeDrive_pending (s : State) (i : StripId) (u : Int) : (s.writeDrive i u).pending = s.pending := rfl
@[simp] theorem State.writeDrive_inFlight (s : State) (i : StripId) (u : Int) : (s.writeDrive i u).inFlight = s.inFlight := rfl
@[simp] theorem State.writeDrive_part (s : State) (i : StripId) (u : Int) : (s.writeDrive i u).part = s.part := rfl
@[simp] theorem State.writeDrive_memory (s : State) (i : StripId) (u : Int) : (s.writeDrive i u).memory = s.memory := rfl
@[simp] theorem State.writeDrive_posted (s : State) (i : StripId) (u : Int) : (s.writeDrive i u).posted = s.posted := rfl
@[simp] theorem State.writeDrive_sweep (s : State) (i : StripId) (u : Int) : (s.writeDrive i u).sweep = s.sweep := rfl
@[simp] theorem State.writeDrive_scanner (s : State) (i : StripId) (u : Int) : (s.writeDrive i u).scanner = s.scanner := rfl
@[simp] theorem State.writeDrive_touchScan (s : State) (i : StripId) (u : Int) : (s.writeDrive i u).touchScan = s.touchScan := rfl
@[simp] theorem State.writeDrive_servoLoaded (s : State) (i : StripId) (u : Int) : (s.writeDrive i u).servoLoaded = s.servoLoaded := rfl
@[simp] theorem State.writeDrive_strips (s : State) (i : StripId) (u : Int) : (s.writeDrive i u).strips = s.strips := rfl
@[simp] theorem State.writeDrive_gangs (s : State) (i : StripId) (u : Int) : (s.writeDrive i u).gangs = s.gangs := rfl
@[simp] theorem State.writeDrive_arbiter (s : State) (i : StripId) (u : Int) : (s.writeDrive i u).arbiter = s.arbiter := rfl
@[simp] theorem State.writeDrive_msupOk (s : State) (i : StripId) (u : Int) : (s.writeDrive i u).msupOk = s.msupOk := rfl
@[simp] theorem State.writeDrive_motors (s : State) (i : StripId) (u : Int) : (s.writeDrive i u).motors = { s.motors with chans := s.motors.chans.set i (s.motors.chans[i].write s.scanner.period u) } := rfl
@[simp] theorem State.writeDrive_writer (s : State) (i : StripId) (u : Int) : (s.writeDrive i u).writer = s.writer := rfl
@[simp] theorem State.writeDrive_links (s : State) (i : StripId) (u : Int) : (s.writeDrive i u).links = s.links := rfl
@[simp] theorem State.writeDrive_input (s : State) (i : StripId) (u : Int) : (s.writeDrive i u).input = s.input := rfl
@[simp] theorem State.writeDrive_meters (s : State) (i : StripId) (u : Int) : (s.writeDrive i u).meters = s.meters := rfl
@[simp] theorem State.writeDrive_bars (s : State) (i : StripId) (u : Int) : (s.writeDrive i u).bars = s.bars := rfl
@[simp] theorem State.writeDrive_reporter (s : State) (i : StripId) (u : Int) : (s.writeDrive i u).reporter = s.reporter := rfl
@[simp] theorem State.writeDrive_attention (s : State) (i : StripId) (u : Int) : (s.writeDrive i u).attention = s.attention := rfl

/-! ### `State.setMotor` -/

@[simp] theorem State.setMotor_pending (s : State) (i : StripId) (m : MotorChannel) : (s.setMotor i m).pending = s.pending := rfl
@[simp] theorem State.setMotor_inFlight (s : State) (i : StripId) (m : MotorChannel) : (s.setMotor i m).inFlight = s.inFlight := rfl
@[simp] theorem State.setMotor_part (s : State) (i : StripId) (m : MotorChannel) : (s.setMotor i m).part = s.part := rfl
@[simp] theorem State.setMotor_memory (s : State) (i : StripId) (m : MotorChannel) : (s.setMotor i m).memory = s.memory := rfl
@[simp] theorem State.setMotor_posted (s : State) (i : StripId) (m : MotorChannel) : (s.setMotor i m).posted = s.posted := rfl
@[simp] theorem State.setMotor_sweep (s : State) (i : StripId) (m : MotorChannel) : (s.setMotor i m).sweep = s.sweep := rfl
@[simp] theorem State.setMotor_scanner (s : State) (i : StripId) (m : MotorChannel) : (s.setMotor i m).scanner = s.scanner := rfl
@[simp] theorem State.setMotor_touchScan (s : State) (i : StripId) (m : MotorChannel) : (s.setMotor i m).touchScan = s.touchScan := rfl
@[simp] theorem State.setMotor_servoLoaded (s : State) (i : StripId) (m : MotorChannel) : (s.setMotor i m).servoLoaded = s.servoLoaded := rfl
@[simp] theorem State.setMotor_strips (s : State) (i : StripId) (m : MotorChannel) : (s.setMotor i m).strips = s.strips := rfl
@[simp] theorem State.setMotor_gangs (s : State) (i : StripId) (m : MotorChannel) : (s.setMotor i m).gangs = s.gangs := rfl
@[simp] theorem State.setMotor_arbiter (s : State) (i : StripId) (m : MotorChannel) : (s.setMotor i m).arbiter = s.arbiter := rfl
@[simp] theorem State.setMotor_msupOk (s : State) (i : StripId) (m : MotorChannel) : (s.setMotor i m).msupOk = s.msupOk := rfl
@[simp] theorem State.setMotor_motors (s : State) (i : StripId) (m : MotorChannel) : (s.setMotor i m).motors = { s.motors with chans := s.motors.chans.set i m } := rfl
@[simp] theorem State.setMotor_writer (s : State) (i : StripId) (m : MotorChannel) : (s.setMotor i m).writer = s.writer := rfl
@[simp] theorem State.setMotor_links (s : State) (i : StripId) (m : MotorChannel) : (s.setMotor i m).links = s.links := rfl
@[simp] theorem State.setMotor_input (s : State) (i : StripId) (m : MotorChannel) : (s.setMotor i m).input = s.input := rfl
@[simp] theorem State.setMotor_meters (s : State) (i : StripId) (m : MotorChannel) : (s.setMotor i m).meters = s.meters := rfl
@[simp] theorem State.setMotor_bars (s : State) (i : StripId) (m : MotorChannel) : (s.setMotor i m).bars = s.bars := rfl
@[simp] theorem State.setMotor_reporter (s : State) (i : StripId) (m : MotorChannel) : (s.setMotor i m).reporter = s.reporter := rfl
@[simp] theorem State.setMotor_attention (s : State) (i : StripId) (m : MotorChannel) : (s.setMotor i m).attention = s.attention := rfl

/-! ### `State.setChan` -/

@[simp] theorem State.setChan_pending (s : State) (c : ChanId) (x : Channel) : (s.setChan c x).pending = s.pending := rfl
@[simp] theorem State.setChan_inFlight (s : State) (c : ChanId) (x : Channel) : (s.setChan c x).inFlight = s.inFlight := rfl
@[simp] theorem State.setChan_part (s : State) (c : ChanId) (x : Channel) : (s.setChan c x).part = s.part := rfl
@[simp] theorem State.setChan_memory (s : State) (c : ChanId) (x : Channel) : (s.setChan c x).memory = s.memory := rfl
@[simp] theorem State.setChan_posted (s : State) (c : ChanId) (x : Channel) : (s.setChan c x).posted = s.posted := rfl
@[simp] theorem State.setChan_sweep (s : State) (c : ChanId) (x : Channel) : (s.setChan c x).sweep = s.sweep := rfl
@[simp] theorem State.setChan_scanner (s : State) (c : ChanId) (x : Channel) : (s.setChan c x).scanner = s.scanner := rfl
@[simp] theorem State.setChan_touchScan (s : State) (c : ChanId) (x : Channel) : (s.setChan c x).touchScan = s.touchScan := rfl
@[simp] theorem State.setChan_servoLoaded (s : State) (c : ChanId) (x : Channel) : (s.setChan c x).servoLoaded = s.servoLoaded := rfl
@[simp] theorem State.setChan_strips (s : State) (c : ChanId) (x : Channel) : (s.setChan c x).strips = s.strips := rfl
@[simp] theorem State.setChan_gangs (s : State) (c : ChanId) (x : Channel) : (s.setChan c x).gangs = s.gangs := rfl
@[simp] theorem State.setChan_arbiter (s : State) (c : ChanId) (x : Channel) : (s.setChan c x).arbiter = s.arbiter := rfl
@[simp] theorem State.setChan_msupOk (s : State) (c : ChanId) (x : Channel) : (s.setChan c x).msupOk = s.msupOk := rfl
@[simp] theorem State.setChan_motors (s : State) (c : ChanId) (x : Channel) : (s.setChan c x).motors = s.motors := rfl
@[simp] theorem State.setChan_writer (s : State) (c : ChanId) (x : Channel) : (s.setChan c x).writer = s.writer := rfl
@[simp] theorem State.setChan_links (s : State) (c : ChanId) (x : Channel) : (s.setChan c x).links = s.links := rfl
@[simp] theorem State.setChan_input (s : State) (c : ChanId) (x : Channel) : (s.setChan c x).input = s.input := rfl
@[simp] theorem State.setChan_meters (s : State) (c : ChanId) (x : Channel) : (s.setChan c x).meters = { s.meters with chans := s.meters.chans.set c x } := rfl
@[simp] theorem State.setChan_bars (s : State) (c : ChanId) (x : Channel) : (s.setChan c x).bars = s.bars := rfl
@[simp] theorem State.setChan_reporter (s : State) (c : ChanId) (x : Channel) : (s.setChan c x).reporter = s.reporter := rfl
@[simp] theorem State.setChan_attention (s : State) (c : ChanId) (x : Channel) : (s.setChan c x).attention = s.attention := rfl

/-! ### `State.endActivities` -/

@[simp] theorem State.endActivities_pending (s : State) : (s.endActivities).pending = s.pending := rfl
@[simp] theorem State.endActivities_inFlight (s : State) : (s.endActivities).inFlight = s.inFlight := rfl
@[simp] theorem State.endActivities_part (s : State) : (s.endActivities).part = s.part := rfl
@[simp] theorem State.endActivities_memory (s : State) : (s.endActivities).memory = s.memory := rfl
@[simp] theorem State.endActivities_posted (s : State) : (s.endActivities).posted = s.posted := rfl
@[simp] theorem State.endActivities_sweep (s : State) : (s.endActivities).sweep = s.sweep := rfl
@[simp] theorem State.endActivities_scanner (s : State) : (s.endActivities).scanner = s.scanner := rfl
@[simp] theorem State.endActivities_touchScan (s : State) : (s.endActivities).touchScan = s.touchScan := rfl
@[simp] theorem State.endActivities_servoLoaded (s : State) : (s.endActivities).servoLoaded = s.servoLoaded := rfl
@[simp] theorem State.endActivities_strips (s : State) : (s.endActivities).strips = s.strips := rfl
@[simp] theorem State.endActivities_gangs (s : State) : (s.endActivities).gangs = s.gangs.map fun g => { g with activity := none } := rfl
@[simp] theorem State.endActivities_arbiter (s : State) : (s.endActivities).arbiter = s.arbiter := rfl
@[simp] theorem State.endActivities_msupOk (s : State) : (s.endActivities).msupOk = s.msupOk := rfl
@[simp] theorem State.endActivities_motors (s : State) : (s.endActivities).motors = s.motors := rfl
@[simp] theorem State.endActivities_writer (s : State) : (s.endActivities).writer = s.writer := rfl
@[simp] theorem State.endActivities_links (s : State) : (s.endActivities).links = s.links := rfl
@[simp] theorem State.endActivities_input (s : State) : (s.endActivities).input = s.input := rfl
@[simp] theorem State.endActivities_meters (s : State) : (s.endActivities).meters = s.meters := rfl
@[simp] theorem State.endActivities_bars (s : State) : (s.endActivities).bars = s.bars := rfl
@[simp] theorem State.endActivities_reporter (s : State) : (s.endActivities).reporter = s.reporter := rfl
@[simp] theorem State.endActivities_attention (s : State) : (s.endActivities).attention = s.attention := rfl

/-! ### `TouchScanner.forget` and `Strip.rest` -/

@[simp] theorem TouchScanner.forget_force (c : TouchScanner) (i : StripId) : (c.forget i).force = c.force := rfl
@[simp] theorem TouchScanner.forget_staged (c : TouchScanner) (i : StripId) : (c.forget i).staged = c.staged := rfl
@[simp] theorem TouchScanner.forget_timer (c : TouchScanner) (i : StripId) : (c.forget i).timer = c.timer := rfl
@[simp] theorem TouchScanner.forget_chans (c : TouchScanner) (i : StripId) :
    (c.forget i).chans = c.chans.set i { touched := false, run := 0 } := rfl

@[simp] theorem Strip.rest_role (x : Strip) : x.rest.role = .outside := by unfold Strip.rest; split <;> rfl
@[simp] theorem Strip.rest_followTarget (x : Strip) : x.rest.followTarget = none := by unfold Strip.rest; split <;> rfl
@[simp] theorem Strip.rest_freeze (x : Strip) : x.rest.freeze = false := by unfold Strip.rest; split <;> rfl
@[simp] theorem Strip.rest_streamTarget (x : Strip) : x.rest.streamTarget = none := by unfold Strip.rest; split <;> rfl
@[simp] theorem Strip.rest_cal (x : Strip) : x.rest.cal = x.cal := by unfold Strip.rest; split <;> rfl
@[simp] theorem Strip.rest_gang (x : Strip) : x.rest.gang = x.gang := by unfold Strip.rest; split <;> rfl

/-! ### Reading one strip, gang or channel after an update -/

@[simp] theorem State.strip_setStrip_self (s : State) (i : StripId) (x : Strip) : (s.setStrip i x).strip i = x := by
  simp [State.strip]

theorem State.strip_setStrip_ne (s : State) {i j : StripId} (x : Strip) (h : j ≠ i) :
    (s.setStrip i x).strip j = s.strip j := by
  have : i.val ≠ j.val := fun e => h (Fin.ext e.symm)
  simp [State.strip, this]

@[simp] theorem State.gang_setGang_self (s : State) (g : GangId) (x : Gang) : (s.setGang g x).gang g = x := by
  simp [State.gang]

theorem State.gang_setGang_ne (s : State) {g k : GangId} (x : Gang) (h : k ≠ g) :
    (s.setGang g x).gang k = s.gang k := by
  have : g.val ≠ k.val := fun e => h (Fin.ext e.symm)
  simp [State.gang, this]

@[simp] theorem State.strip_setGang (s : State) (g : GangId) (x : Gang) (i : StripId) :
    (s.setGang g x).strip i = s.strip i := rfl

@[simp] theorem State.gang_setStrip (s : State) (i : StripId) (x : Strip) (g : GangId) :
    (s.setStrip i x).gang g = s.gang g := rfl

@[simp] theorem State.strip_take (s : State) (e : Instr) (i : StripId) : (s.take e).strip i = s.strip i := rfl

@[simp] theorem State.gang_take (s : State) (e : Instr) (g : GangId) : (s.take e).gang g = s.gang g := rfl

/-- A drive value written is the strip's held drive value (R113, R114). -/
theorem State.drive_writeDrive (s : State) (i : StripId) (u : Int) : (s.writeDrive i u).drive i = u := by
  have h : ∀ m : MotorChannel, (m.write s.scanner.period u).held = u := by
    intro m
    unfold MotorChannel.write MotorChannel.zero
    split <;> simp_all
  simp [State.drive, h]

end Sys2Proof.Machine
end

