-- ==== Sys2Proof/Laws/Memory.lean ====
section
/-!
SUPPORT. Memory: reads after writes, and the canonical form that every memory operation keeps.
-/
namespace Sys2Proof.Machine

/-! ### The canonical form from an address on -/

theorem Memory.wfFrom_cons_iff (lo k : Nat) (b : BitVec 8) (m : Memory) :
    Memory.wfFrom lo ((k, b) :: m) = true ↔ lo ≤ k ∧ b ≠ Memory.unwritten ∧ Memory.wfFrom (k + 1) m = true := by
  simp [Memory.wfFrom, and_assoc]

theorem Memory.wfFrom_mono {lo lo' : Nat} {m : Memory} (h : Memory.wfFrom lo m = true) (hl : lo' ≤ lo) :
    Memory.wfFrom lo' m = true := by
  cases m with
  | nil => rfl
  | cons c m =>
    obtain ⟨k, b⟩ := c
    rw [Memory.wfFrom_cons_iff] at h ⊢
    exact ⟨Nat.le_trans hl h.1, h.2⟩

theorem Memory.wfFrom_cons {lo a : Nat} {m : Memory} (b : BitVec 8) (h : Memory.wfFrom (a + 1) m = true)
    (hl : lo ≤ a) : Memory.wfFrom lo (Memory.cons a b m) = true := by
  unfold Memory.cons
  split
  · exact Memory.wfFrom_mono h (by omega)
  · rw [Memory.wfFrom_cons_iff]; exact ⟨hl, ‹_›, h⟩

theorem Memory.wfFrom_write {lo : Nat} {m : Memory} (h : Memory.wfFrom lo m = true) (a : Nat) (b : BitVec 8)
    (hl : lo ≤ a) : Memory.wfFrom lo (m.write a b) = true := by
  induction m generalizing lo with
  | nil => exact Memory.wfFrom_cons b (by rfl) hl
  | cons c m ih =>
    obtain ⟨k, v⟩ := c
    rw [Memory.wfFrom_cons_iff] at h
    unfold Memory.write
    split
    · subst_vars; exact Memory.wfFrom_cons b h.2.2 hl
    · split
      · exact Memory.wfFrom_cons b ((Memory.wfFrom_cons_iff _ _ _ _).2 ⟨by omega, h.2⟩) hl
      · exact (Memory.wfFrom_cons_iff _ _ _ _).2 ⟨h.1, h.2.1, ih h.2.2 (by omega)⟩

theorem Memory.read_below {lo : Nat} {m : Memory} (h : Memory.wfFrom lo m = true) {a : Nat} (hl : a < lo) :
    m.read a = Memory.unwritten := by
  cases m with
  | nil => rfl
  | cons c m =>
    obtain ⟨k, v⟩ := c
    rw [Memory.wfFrom_cons_iff] at h
    unfold Memory.read
    rw [if_neg (by omega), if_pos (by omega)]

theorem Memory.read_cons {a : Nat} {m : Memory} (b : BitVec 8) (h : Memory.wfFrom (a + 1) m = true) (x : Nat) :
    (Memory.cons a b m).read x = if x = a then b else if x < a then Memory.unwritten else m.read x := by
  unfold Memory.cons
  split
  · subst_vars
    split
    · subst_vars; exact Memory.read_below h (by omega)
    · split
      · exact Memory.read_below h (by omega)
      · rfl
  · conv => lhs; unfold Memory.read
    by_cases e : a = x
    · simp [e]
    · simp [e, Ne.symm e]

theorem Memory.read_write_from {lo : Nat} {m : Memory} (h : Memory.wfFrom lo m = true) (a : Nat) (b : BitVec 8)
    (hl : lo ≤ a) (x : Nat) : (m.write a b).read x = if x = a then b else m.read x := by
  induction m generalizing lo with
  | nil =>
    show (Memory.cons a b []).read x = _
    rw [Memory.read_cons b (by rfl)]
    simp [Memory.read]
  | cons c m ih =>
    obtain ⟨k, v⟩ := c
    rw [Memory.wfFrom_cons_iff] at h
    unfold Memory.write
    split
    · subst_vars
      rw [Memory.read_cons b h.2.2]
      conv => rhs; unfold Memory.read
      by_cases e : x = k
      · simp [e]
      · simp [e, Ne.symm e]
    · split
      · rw [Memory.read_cons b ((Memory.wfFrom_cons_iff _ _ _ _).2 ⟨by omega, h.2⟩)]
        by_cases e : x = a
        · simp [e]
        · simp only [e, if_false]
          split
          · exact (Memory.read_below ((Memory.wfFrom_cons_iff _ _ _ _).2 ⟨Nat.le_refl k, h.2⟩) (by omega)).symm
          · rfl
      · conv => lhs; unfold Memory.read
        conv => rhs; unfold Memory.read
        rw [ih h.2.2 (by omega)]
        by_cases e : k = x
        · subst e; simp [‹¬ k = a›]
        · by_cases l : x < k
          · have : x ≠ a := by omega
            simp [e, l, this]
          · simp [e, l]

/-! ### Memory as a whole -/

/-- A byte written keeps the canonical form. -/
theorem Memory.wf_write {m : Memory} (h : m.wf = true) (a : Nat) (b : BitVec 8) : (m.write a b).wf = true :=
  Memory.wfFrom_write h a b (Nat.zero_le a)

/-- A read after a write gives the byte written at its address, and elsewhere what it gave before. -/
theorem Memory.read_write {m : Memory} (h : m.wf = true) (a : Nat) (b : BitVec 8) (x : Nat) :
    (m.write a b).read x = if x = a then b else m.read x :=
  Memory.read_write_from h a b (Nat.zero_le a) x

/-- A word written keeps the canonical form. -/
theorem Memory.wf_writeWord {m : Memory} (h : m.wf = true) (a : Nat) (w : Word) : (m.writeWord a w).wf = true :=
  Memory.wf_write (Memory.wf_write (Memory.wf_write (Memory.wf_write h _ _) _ _) _ _) _ _

/-- A byte after a word is written: one of the word's bytes, or what it was. -/
theorem Memory.read_writeWord {m : Memory} (h : m.wf = true) (a : Nat) (w : Word) (x : Nat) :
    (m.writeWord a w).read x =
      if x = a + 3 then byteOf w 3 else if x = a + 2 then byteOf w 2 else if x = a + 1 then byteOf w 1
      else if x = a then byteOf w 0 else m.read x := by
  have h0 := Memory.wf_write h a (byteOf w 0)
  have h1 := Memory.wf_write h0 (a + 1) (byteOf w 1)
  have h2 := Memory.wf_write h1 (a + 2) (byteOf w 2)
  unfold Memory.writeWord
  rw [Memory.read_write h2, Memory.read_write h1, Memory.read_write h0, Memory.read_write h]

/-- A byte outside a word written reads as before. -/
theorem Memory.read_writeWord_outside {m : Memory} (h : m.wf = true) (a : Nat) (w : Word) {x : Nat}
    (hx : x < a ∨ a + 4 ≤ x) : (m.writeWord a w).read x = m.read x := by
  rw [Memory.read_writeWord h]
  repeat rw [if_neg (by omega)]

/-- A word's bytes, the highest first, are the word. -/
theorem bytes_word (w : Word) : byteOf w 3 ++ byteOf w 2 ++ byteOf w 1 ++ byteOf w 0 = w := by
  apply BitVec.eq_of_getLsbD_eq
  intro i hi
  simp only [BitVec.getLsbD_append, byteOf, BitVec.truncate_eq_setWidth, BitVec.getLsbD_setWidth,
    BitVec.getLsbD_ushiftRight]
  by_cases h0 : i < 8
  · simp [h0]
  · by_cases h1 : i < 16
    · simp [h0, show i - 8 < 8 by omega, show 8 + (i - 8) = i by omega]
    · by_cases h2 : i < 24
      · simp [h0, show ¬ i - 8 < 8 by omega, show i - 8 - 8 < 8 by omega, show 16 + (i - 8 - 8) = i by omega]
      · simp [h0, show ¬ i - 8 < 8 by omega, show ¬ i - 8 - 8 < 8 by omega, show i - 8 - 8 - 8 < 8 by omega,
          show 24 + (i - 8 - 8 - 8) = i by omega]

/-- A word read after it was written. -/
theorem Memory.readWord_writeWord {m : Memory} (h : m.wf = true) (a : Nat) (w : Word) :
    (m.writeWord a w).readWord a = w := by
  unfold Memory.readWord
  simp only [Memory.read_writeWord h]
  simp only [if_true, show ¬ a + 2 = a + 3 by omega, show ¬ a + 1 = a + 3 by omega, show ¬ a + 1 = a + 2 by omega,
    show ¬ a = a + 3 by omega, show ¬ a = a + 2 by omega, show ¬ a = a + 1 by omega, if_false]
  exact bytes_word w

/-- The host's own writes keep the canonical form. -/
theorem Memory.wf_hostWrites {m : Memory} (h : m.wf = true) (ws : List HostWrite) : (m.hostWrites ws).wf = true := by
  induction ws generalizing m with
  | nil => exact h
  | cons w ws ih => exact ih (Memory.wf_writeWord h _ _)

/-- The memory after reset has the canonical form. -/
theorem State.reset_memory_wf : State.reset.memory.wf = true := rfl

end Sys2Proof.Machine
end

