-- ==== Sys2Proof/Laws/Frames.lean ====
section
/-!
SUPPORT. What the shared operations can change, said once: a relation between the state before and after for each group of
blocks, one lemma per field it leaves alone, and one lemma per operation.
-/
namespace Sys2Proof.Machine

/-- The blocks an event at a strip or at the Gang Table can change: the contexts, the Gang Table, the activity queue, the events
under way, the Motor Output Unit and the Attention Unit. -/
def State.OnStrips (s t : State) : Prop :=
  ∃ v0 v1 v2 v3 v4 v5, t =
    { s with
      strips := v0, gangs := v1, writer := v2, inFlight := v3, motors := v4, attention := v5 }

theorem State.OnStrips.refl (s : State) : s.OnStrips s := ⟨_, _, _, _, _, _, rfl⟩

theorem State.OnStrips.trans {s t u : State} (h : s.OnStrips t) (k : t.OnStrips u) : s.OnStrips u := by
  obtain ⟨_, _, _, _, _, _, rfl⟩ := h
  obtain ⟨_, _, _, _, _, _, rfl⟩ := k
  exact ⟨_, _, _, _, _, _, rfl⟩

theorem State.OnStrips.pending {s t : State} (h : s.OnStrips t) : t.pending = s.pending := by
  obtain ⟨_, _, _, _, _, _, rfl⟩ := h; rfl
theorem State.OnStrips.part {s t : State} (h : s.OnStrips t) : t.part = s.part := by
  obtain ⟨_, _, _, _, _, _, rfl⟩ := h; rfl
theorem State.OnStrips.memory {s t : State} (h : s.OnStrips t) : t.memory = s.memory := by
  obtain ⟨_, _, _, _, _, _, rfl⟩ := h; rfl
theorem State.OnStrips.posted {s t : State} (h : s.OnStrips t) : t.posted = s.posted := by
  obtain ⟨_, _, _, _, _, _, rfl⟩ := h; rfl
theorem State.OnStrips.sweep {s t : State} (h : s.OnStrips t) : t.sweep = s.sweep := by
  obtain ⟨_, _, _, _, _, _, rfl⟩ := h; rfl
theorem State.OnStrips.scanner {s t : State} (h : s.OnStrips t) : t.scanner = s.scanner := by
  obtain ⟨_, _, _, _, _, _, rfl⟩ := h; rfl
theorem State.OnStrips.touchScan {s t : State} (h : s.OnStrips t) : t.touchScan = s.touchScan := by
  obtain ⟨_, _, _, _, _, _, rfl⟩ := h; rfl
theorem State.OnStrips.servoLoaded {s t : State} (h : s.OnStrips t) : t.servoLoaded = s.servoLoaded := by
  obtain ⟨_, _, _, _, _, _, rfl⟩ := h; rfl
theorem State.OnStrips.arbiter {s t : State} (h : s.OnStrips t) : t.arbiter = s.arbiter := by
  obtain ⟨_, _, _, _, _, _, rfl⟩ := h; rfl
theorem State.OnStrips.msupOk {s t : State} (h : s.OnStrips t) : t.msupOk = s.msupOk := by
  obtain ⟨_, _, _, _, _, _, rfl⟩ := h; rfl
theorem State.OnStrips.links {s t : State} (h : s.OnStrips t) : t.links = s.links := by
  obtain ⟨_, _, _, _, _, _, rfl⟩ := h; rfl
theorem State.OnStrips.input {s t : State} (h : s.OnStrips t) : t.input = s.input := by
  obtain ⟨_, _, _, _, _, _, rfl⟩ := h; rfl
theorem State.OnStrips.meters {s t : State} (h : s.OnStrips t) : t.meters = s.meters := by
  obtain ⟨_, _, _, _, _, _, rfl⟩ := h; rfl
theorem State.OnStrips.bars {s t : State} (h : s.OnStrips t) : t.bars = s.bars := by
  obtain ⟨_, _, _, _, _, _, rfl⟩ := h; rfl
theorem State.OnStrips.reporter {s t : State} (h : s.OnStrips t) : t.reporter = s.reporter := by
  obtain ⟨_, _, _, _, _, _, rfl⟩ := h; rfl

/-- What a strip command, a SCENE or a GANG_SET can change: what an event can, and the Cell Sweep's answer. -/
def State.OnCells (s t : State) : Prop :=
  ∃ v0 v1 v2 v3 v4 v5 v6, t =
    { s with
      strips := v0, gangs := v1, writer := v2, inFlight := v3, motors := v4, attention := v5, sweep := v6 }

theorem State.OnCells.refl (s : State) : s.OnCells s := ⟨_, _, _, _, _, _, _, rfl⟩

theorem State.OnCells.trans {s t u : State} (h : s.OnCells t) (k : t.OnCells u) : s.OnCells u := by
  obtain ⟨_, _, _, _, _, _, _, rfl⟩ := h
  obtain ⟨_, _, _, _, _, _, _, rfl⟩ := k
  exact ⟨_, _, _, _, _, _, _, rfl⟩

theorem State.OnCells.pending {s t : State} (h : s.OnCells t) : t.pending = s.pending := by
  obtain ⟨_, _, _, _, _, _, _, rfl⟩ := h; rfl
theorem State.OnCells.part {s t : State} (h : s.OnCells t) : t.part = s.part := by
  obtain ⟨_, _, _, _, _, _, _, rfl⟩ := h; rfl
theorem State.OnCells.memory {s t : State} (h : s.OnCells t) : t.memory = s.memory := by
  obtain ⟨_, _, _, _, _, _, _, rfl⟩ := h; rfl
theorem State.OnCells.posted {s t : State} (h : s.OnCells t) : t.posted = s.posted := by
  obtain ⟨_, _, _, _, _, _, _, rfl⟩ := h; rfl
theorem State.OnCells.scanner {s t : State} (h : s.OnCells t) : t.scanner = s.scanner := by
  obtain ⟨_, _, _, _, _, _, _, rfl⟩ := h; rfl
theorem State.OnCells.touchScan {s t : State} (h : s.OnCells t) : t.touchScan = s.touchScan := by
  obtain ⟨_, _, _, _, _, _, _, rfl⟩ := h; rfl
theorem State.OnCells.servoLoaded {s t : State} (h : s.OnCells t) : t.servoLoaded = s.servoLoaded := by
  obtain ⟨_, _, _, _, _, _, _, rfl⟩ := h; rfl
theorem State.OnCells.arbiter {s t : State} (h : s.OnCells t) : t.arbiter = s.arbiter := by
  obtain ⟨_, _, _, _, _, _, _, rfl⟩ := h; rfl
theorem State.OnCells.msupOk {s t : State} (h : s.OnCells t) : t.msupOk = s.msupOk := by
  obtain ⟨_, _, _, _, _, _, _, rfl⟩ := h; rfl
theorem State.OnCells.links {s t : State} (h : s.OnCells t) : t.links = s.links := by
  obtain ⟨_, _, _, _, _, _, _, rfl⟩ := h; rfl
theorem State.OnCells.input {s t : State} (h : s.OnCells t) : t.input = s.input := by
  obtain ⟨_, _, _, _, _, _, _, rfl⟩ := h; rfl
theorem State.OnCells.meters {s t : State} (h : s.OnCells t) : t.meters = s.meters := by
  obtain ⟨_, _, _, _, _, _, _, rfl⟩ := h; rfl
theorem State.OnCells.bars {s t : State} (h : s.OnCells t) : t.bars = s.bars := by
  obtain ⟨_, _, _, _, _, _, _, rfl⟩ := h; rfl
theorem State.OnCells.reporter {s t : State} (h : s.OnCells t) : t.reporter = s.reporter := by
  obtain ⟨_, _, _, _, _, _, _, rfl⟩ := h; rfl

/-- What the Image Port and the Report Writer can change behind it. -/
def State.OnImage (s t : State) : Prop :=
  ∃ v0 v1 v2 v3, t =
    { s with
      posted := v0, memory := v1, attention := v2, reporter := v3 }

theorem State.OnImage.refl (s : State) : s.OnImage s := ⟨_, _, _, _, rfl⟩

theorem State.OnImage.trans {s t u : State} (h : s.OnImage t) (k : t.OnImage u) : s.OnImage u := by
  obtain ⟨_, _, _, _, rfl⟩ := h
  obtain ⟨_, _, _, _, rfl⟩ := k
  exact ⟨_, _, _, _, rfl⟩

theorem State.OnImage.pending {s t : State} (h : s.OnImage t) : t.pending = s.pending := by
  obtain ⟨_, _, _, _, rfl⟩ := h; rfl
theorem State.OnImage.inFlight {s t : State} (h : s.OnImage t) : t.inFlight = s.inFlight := by
  obtain ⟨_, _, _, _, rfl⟩ := h; rfl
theorem State.OnImage.part {s t : State} (h : s.OnImage t) : t.part = s.part := by
  obtain ⟨_, _, _, _, rfl⟩ := h; rfl
theorem State.OnImage.sweep {s t : State} (h : s.OnImage t) : t.sweep = s.sweep := by
  obtain ⟨_, _, _, _, rfl⟩ := h; rfl
theorem State.OnImage.scanner {s t : State} (h : s.OnImage t) : t.scanner = s.scanner := by
  obtain ⟨_, _, _, _, rfl⟩ := h; rfl
theorem State.OnImage.touchScan {s t : State} (h : s.OnImage t) : t.touchScan = s.touchScan := by
  obtain ⟨_, _, _, _, rfl⟩ := h; rfl
theorem State.OnImage.servoLoaded {s t : State} (h : s.OnImage t) : t.servoLoaded = s.servoLoaded := by
  obtain ⟨_, _, _, _, rfl⟩ := h; rfl
theorem State.OnImage.strips {s t : State} (h : s.OnImage t) : t.strips = s.strips := by
  obtain ⟨_, _, _, _, rfl⟩ := h; rfl
theorem State.OnImage.gangs {s t : State} (h : s.OnImage t) : t.gangs = s.gangs := by
  obtain ⟨_, _, _, _, rfl⟩ := h; rfl
theorem State.OnImage.arbiter {s t : State} (h : s.OnImage t) : t.arbiter = s.arbiter := by
  obtain ⟨_, _, _, _, rfl⟩ := h; rfl
theorem State.OnImage.msupOk {s t : State} (h : s.OnImage t) : t.msupOk = s.msupOk := by
  obtain ⟨_, _, _, _, rfl⟩ := h; rfl
theorem State.OnImage.motors {s t : State} (h : s.OnImage t) : t.motors = s.motors := by
  obtain ⟨_, _, _, _, rfl⟩ := h; rfl
theorem State.OnImage.writer {s t : State} (h : s.OnImage t) : t.writer = s.writer := by
  obtain ⟨_, _, _, _, rfl⟩ := h; rfl
theorem State.OnImage.links {s t : State} (h : s.OnImage t) : t.links = s.links := by
  obtain ⟨_, _, _, _, rfl⟩ := h; rfl
theorem State.OnImage.input {s t : State} (h : s.OnImage t) : t.input = s.input := by
  obtain ⟨_, _, _, _, rfl⟩ := h; rfl
theorem State.OnImage.meters {s t : State} (h : s.OnImage t) : t.meters = s.meters := by
  obtain ⟨_, _, _, _, rfl⟩ := h; rfl
theorem State.OnImage.bars {s t : State} (h : s.OnImage t) : t.bars = s.bars := by
  obtain ⟨_, _, _, _, rfl⟩ := h; rfl

/-- What the Activity Writer can change. -/
def State.OnJournal (s t : State) : Prop :=
  ∃ v0 v1 v2 v3 v4 v5, t =
    { s with
      posted := v0, memory := v1, attention := v2, reporter := v3, writer := v4, inFlight := v5 }

theorem State.OnJournal.refl (s : State) : s.OnJournal s := ⟨_, _, _, _, _, _, rfl⟩

theorem State.OnJournal.trans {s t u : State} (h : s.OnJournal t) (k : t.OnJournal u) : s.OnJournal u := by
  obtain ⟨_, _, _, _, _, _, rfl⟩ := h
  obtain ⟨_, _, _, _, _, _, rfl⟩ := k
  exact ⟨_, _, _, _, _, _, rfl⟩

theorem State.OnJournal.pending {s t : State} (h : s.OnJournal t) : t.pending = s.pending := by
  obtain ⟨_, _, _, _, _, _, rfl⟩ := h; rfl
theorem State.OnJournal.part {s t : State} (h : s.OnJournal t) : t.part = s.part := by
  obtain ⟨_, _, _, _, _, _, rfl⟩ := h; rfl
theorem State.OnJournal.sweep {s t : State} (h : s.OnJournal t) : t.sweep = s.sweep := by
  obtain ⟨_, _, _, _, _, _, rfl⟩ := h; rfl
theorem State.OnJournal.scanner {s t : State} (h : s.OnJournal t) : t.scanner = s.scanner := by
  obtain ⟨_, _, _, _, _, _, rfl⟩ := h; rfl
theorem State.OnJournal.touchScan {s t : State} (h : s.OnJournal t) : t.touchScan = s.touchScan := by
  obtain ⟨_, _, _, _, _, _, rfl⟩ := h; rfl
theorem State.OnJournal.servoLoaded {s t : State} (h : s.OnJournal t) : t.servoLoaded = s.servoLoaded := by
  obtain ⟨_, _, _, _, _, _, rfl⟩ := h; rfl
theorem State.OnJournal.strips {s t : State} (h : s.OnJournal t) : t.strips = s.strips := by
  obtain ⟨_, _, _, _, _, _, rfl⟩ := h; rfl
theorem State.OnJournal.gangs {s t : State} (h : s.OnJournal t) : t.gangs = s.gangs := by
  obtain ⟨_, _, _, _, _, _, rfl⟩ := h; rfl
theorem State.OnJournal.arbiter {s t : State} (h : s.OnJournal t) : t.arbiter = s.arbiter := by
  obtain ⟨_, _, _, _, _, _, rfl⟩ := h; rfl
theorem State.OnJournal.msupOk {s t : State} (h : s.OnJournal t) : t.msupOk = s.msupOk := by
  obtain ⟨_, _, _, _, _, _, rfl⟩ := h; rfl
theorem State.OnJournal.motors {s t : State} (h : s.OnJournal t) : t.motors = s.motors := by
  obtain ⟨_, _, _, _, _, _, rfl⟩ := h; rfl
theorem State.OnJournal.links {s t : State} (h : s.OnJournal t) : t.links = s.links := by
  obtain ⟨_, _, _, _, _, _, rfl⟩ := h; rfl
theorem State.OnJournal.input {s t : State} (h : s.OnJournal t) : t.input = s.input := by
  obtain ⟨_, _, _, _, _, _, rfl⟩ := h; rfl
theorem State.OnJournal.meters {s t : State} (h : s.OnJournal t) : t.meters = s.meters := by
  obtain ⟨_, _, _, _, _, _, rfl⟩ := h; rfl
theorem State.OnJournal.bars {s t : State} (h : s.OnJournal t) : t.bars = s.bars := by
  obtain ⟨_, _, _, _, _, _, rfl⟩ := h; rfl

/-- What a link receiver and the Meter Engine's input can change. -/
def State.OnLinks (s t : State) : Prop :=
  ∃ v0 v1 v2 v3 v4, t =
    { s with
      links := v0, input := v1, meters := v2, attention := v3, inFlight := v4 }

theorem State.OnLinks.refl (s : State) : s.OnLinks s := ⟨_, _, _, _, _, rfl⟩

theorem State.OnLinks.trans {s t u : State} (h : s.OnLinks t) (k : t.OnLinks u) : s.OnLinks u := by
  obtain ⟨_, _, _, _, _, rfl⟩ := h
  obtain ⟨_, _, _, _, _, rfl⟩ := k
  exact ⟨_, _, _, _, _, rfl⟩

theorem State.OnLinks.pending {s t : State} (h : s.OnLinks t) : t.pending = s.pending := by
  obtain ⟨_, _, _, _, _, rfl⟩ := h; rfl
theorem State.OnLinks.part {s t : State} (h : s.OnLinks t) : t.part = s.part := by
  obtain ⟨_, _, _, _, _, rfl⟩ := h; rfl
theorem State.OnLinks.memory {s t : State} (h : s.OnLinks t) : t.memory = s.memory := by
  obtain ⟨_, _, _, _, _, rfl⟩ := h; rfl
theorem State.OnLinks.posted {s t : State} (h : s.OnLinks t) : t.posted = s.posted := by
  obtain ⟨_, _, _, _, _, rfl⟩ := h; rfl
theorem State.OnLinks.sweep {s t : State} (h : s.OnLinks t) : t.sweep = s.sweep := by
  obtain ⟨_, _, _, _, _, rfl⟩ := h; rfl
theorem State.OnLinks.scanner {s t : State} (h : s.OnLinks t) : t.scanner = s.scanner := by
  obtain ⟨_, _, _, _, _, rfl⟩ := h; rfl
theorem State.OnLinks.touchScan {s t : State} (h : s.OnLinks t) : t.touchScan = s.touchScan := by
  obtain ⟨_, _, _, _, _, rfl⟩ := h; rfl
theorem State.OnLinks.servoLoaded {s t : State} (h : s.OnLinks t) : t.servoLoaded = s.servoLoaded := by
  obtain ⟨_, _, _, _, _, rfl⟩ := h; rfl
theorem State.OnLinks.strips {s t : State} (h : s.OnLinks t) : t.strips = s.strips := by
  obtain ⟨_, _, _, _, _, rfl⟩ := h; rfl
theorem State.OnLinks.gangs {s t : State} (h : s.OnLinks t) : t.gangs = s.gangs := by
  obtain ⟨_, _, _, _, _, rfl⟩ := h; rfl
theorem State.OnLinks.arbiter {s t : State} (h : s.OnLinks t) : t.arbiter = s.arbiter := by
  obtain ⟨_, _, _, _, _, rfl⟩ := h; rfl
theorem State.OnLinks.msupOk {s t : State} (h : s.OnLinks t) : t.msupOk = s.msupOk := by
  obtain ⟨_, _, _, _, _, rfl⟩ := h; rfl
theorem State.OnLinks.motors {s t : State} (h : s.OnLinks t) : t.motors = s.motors := by
  obtain ⟨_, _, _, _, _, rfl⟩ := h; rfl
theorem State.OnLinks.writer {s t : State} (h : s.OnLinks t) : t.writer = s.writer := by
  obtain ⟨_, _, _, _, _, rfl⟩ := h; rfl
theorem State.OnLinks.bars {s t : State} (h : s.OnLinks t) : t.bars = s.bars := by
  obtain ⟨_, _, _, _, _, rfl⟩ := h; rfl
theorem State.OnLinks.reporter {s t : State} (h : s.OnLinks t) : t.reporter = s.reporter := by
  obtain ⟨_, _, _, _, _, rfl⟩ := h; rfl

/-- What the STOP sequence can change after its entry. -/
def State.OnStop (s t : State) : Prop :=
  ∃ v0 v1 v2 v3 v4 v5 v6 v7 v8, t =
    { s with
      part := v0, posted := v1, memory := v2, attention := v3, reporter := v4, writer := v5, links := v6, meters := v7, bars := v8 }

theorem State.OnStop.refl (s : State) : s.OnStop s := ⟨_, _, _, _, _, _, _, _, _, rfl⟩

theorem State.OnStop.trans {s t u : State} (h : s.OnStop t) (k : t.OnStop u) : s.OnStop u := by
  obtain ⟨_, _, _, _, _, _, _, _, _, rfl⟩ := h
  obtain ⟨_, _, _, _, _, _, _, _, _, rfl⟩ := k
  exact ⟨_, _, _, _, _, _, _, _, _, rfl⟩

theorem State.OnStop.pending {s t : State} (h : s.OnStop t) : t.pending = s.pending := by
  obtain ⟨_, _, _, _, _, _, _, _, _, rfl⟩ := h; rfl
theorem State.OnStop.inFlight {s t : State} (h : s.OnStop t) : t.inFlight = s.inFlight := by
  obtain ⟨_, _, _, _, _, _, _, _, _, rfl⟩ := h; rfl
theorem State.OnStop.sweep {s t : State} (h : s.OnStop t) : t.sweep = s.sweep := by
  obtain ⟨_, _, _, _, _, _, _, _, _, rfl⟩ := h; rfl
theorem State.OnStop.scanner {s t : State} (h : s.OnStop t) : t.scanner = s.scanner := by
  obtain ⟨_, _, _, _, _, _, _, _, _, rfl⟩ := h; rfl
theorem State.OnStop.touchScan {s t : State} (h : s.OnStop t) : t.touchScan = s.touchScan := by
  obtain ⟨_, _, _, _, _, _, _, _, _, rfl⟩ := h; rfl
theorem State.OnStop.servoLoaded {s t : State} (h : s.OnStop t) : t.servoLoaded = s.servoLoaded := by
  obtain ⟨_, _, _, _, _, _, _, _, _, rfl⟩ := h; rfl
theorem State.OnStop.strips {s t : State} (h : s.OnStop t) : t.strips = s.strips := by
  obtain ⟨_, _, _, _, _, _, _, _, _, rfl⟩ := h; rfl
theorem State.OnStop.gangs {s t : State} (h : s.OnStop t) : t.gangs = s.gangs := by
  obtain ⟨_, _, _, _, _, _, _, _, _, rfl⟩ := h; rfl
theorem State.OnStop.arbiter {s t : State} (h : s.OnStop t) : t.arbiter = s.arbiter := by
  obtain ⟨_, _, _, _, _, _, _, _, _, rfl⟩ := h; rfl
theorem State.OnStop.msupOk {s t : State} (h : s.OnStop t) : t.msupOk = s.msupOk := by
  obtain ⟨_, _, _, _, _, _, _, _, _, rfl⟩ := h; rfl
theorem State.OnStop.motors {s t : State} (h : s.OnStop t) : t.motors = s.motors := by
  obtain ⟨_, _, _, _, _, _, _, _, _, rfl⟩ := h; rfl
theorem State.OnStop.input {s t : State} (h : s.OnStop t) : t.input = s.input := by
  obtain ⟨_, _, _, _, _, _, _, _, _, rfl⟩ := h; rfl

/-- What the load of setup sections can change. -/
def State.OnSetup (s t : State) : Prop :=
  ∃ v0 v1 v2 v3 v4 v5 v6 v7 v8 v9 v10 v11 v12 v13, t =
    { s with
      sweep := v0, scanner := v1, touchScan := v2, servoLoaded := v3, strips := v4, arbiter := v5, motors := v6, writer := v7, links := v8, meters := v9, bars := v10, reporter := v11, attention := v12, inFlight := v13 }

theorem State.OnSetup.refl (s : State) : s.OnSetup s := ⟨_, _, _, _, _, _, _, _, _, _, _, _, _, _, rfl⟩

theorem State.OnSetup.trans {s t u : State} (h : s.OnSetup t) (k : t.OnSetup u) : s.OnSetup u := by
  obtain ⟨_, _, _, _, _, _, _, _, _, _, _, _, _, _, rfl⟩ := h
  obtain ⟨_, _, _, _, _, _, _, _, _, _, _, _, _, _, rfl⟩ := k
  exact ⟨_, _, _, _, _, _, _, _, _, _, _, _, _, _, rfl⟩

theorem State.OnSetup.pending {s t : State} (h : s.OnSetup t) : t.pending = s.pending := by
  obtain ⟨_, _, _, _, _, _, _, _, _, _, _, _, _, _, rfl⟩ := h; rfl
theorem State.OnSetup.part {s t : State} (h : s.OnSetup t) : t.part = s.part := by
  obtain ⟨_, _, _, _, _, _, _, _, _, _, _, _, _, _, rfl⟩ := h; rfl
theorem State.OnSetup.memory {s t : State} (h : s.OnSetup t) : t.memory = s.memory := by
  obtain ⟨_, _, _, _, _, _, _, _, _, _, _, _, _, _, rfl⟩ := h; rfl
theorem State.OnSetup.posted {s t : State} (h : s.OnSetup t) : t.posted = s.posted := by
  obtain ⟨_, _, _, _, _, _, _, _, _, _, _, _, _, _, rfl⟩ := h; rfl
theorem State.OnSetup.gangs {s t : State} (h : s.OnSetup t) : t.gangs = s.gangs := by
  obtain ⟨_, _, _, _, _, _, _, _, _, _, _, _, _, _, rfl⟩ := h; rfl
theorem State.OnSetup.msupOk {s t : State} (h : s.OnSetup t) : t.msupOk = s.msupOk := by
  obtain ⟨_, _, _, _, _, _, _, _, _, _, _, _, _, _, rfl⟩ := h; rfl
theorem State.OnSetup.input {s t : State} (h : s.OnSetup t) : t.input = s.input := by
  obtain ⟨_, _, _, _, _, _, _, _, _, _, _, _, _, _, rfl⟩ := h; rfl

/-! ### Records and contexts -/

theorem State.onStrips_setStrip (s : State) (i : StripId) (x : Strip) : s.OnStrips (s.setStrip i x) :=
  ⟨_, _, _, _, _, _, rfl⟩

theorem State.onStrips_setGang (s : State) (g : GangId) (x : Gang) : s.OnStrips (s.setGang g x) :=
  ⟨_, _, _, _, _, _, rfl⟩

theorem State.onStrips_deliver (s : State) (e : Instr) : s.OnStrips (s.deliver e) := ⟨_, _, _, _, _, _, rfl⟩

theorem State.onStrips_deliverAll (s : State) (js : List StripId) (e : StripId → Instr) :
    s.OnStrips (s.deliverAll js e) := ⟨_, _, _, _, _, _, rfl⟩

theorem State.onStrips_take (s : State) (e : Instr) : s.OnStrips (s.take e) := ⟨_, _, _, _, _, _, rfl⟩

/-- A record handed changes the writer and may deliver an owner read, and nothing else. -/
theorem State.handRecord_eq (s : State) (r : Rec) :
    ∃ w es, s.handRecord r = { s with writer := w, inFlight := s.inFlight ++ es } := by
  have h : ∀ (w : Writer), ({ s with writer := w } : State) = { s with writer := w, inFlight := s.inFlight ++ [] } := by
    intro w; rw [List.append_nil]
  unfold State.handRecord
  simp only []
  split
  · exact ⟨_, [], h _⟩
  · split
    · exact ⟨_, [.pageOwnerRead []], rfl⟩
    · split <;> exact ⟨_, [], h _⟩

theorem State.onStrips_handRecord (s : State) (r : Rec) : s.OnStrips (s.handRecord r) := by
  obtain ⟨w, es, h⟩ := s.handRecord_eq r
  exact h ▸ ⟨_, _, _, _, _, _, rfl⟩

/-- One effect of a context. -/
theorem State.onStrips_effect (s : State) (i : StripId) (e : Effect) : s.OnStrips (s.effect i e) := by
  cases e with
  | record r => exact s.onStrips_handRecord r
  | drive u => exact ⟨_, _, _, _, _, _, rfl⟩
  | request p => exact ⟨_, _, _, _, _, _, rfl⟩
  | withdraw => exact ⟨_, _, _, _, _, _, rfl⟩
  | giveBack => exact ⟨_, _, _, _, _, _, rfl⟩
  | cause c => exact ⟨_, _, _, _, _, _, rfl⟩

/-- Effects leave the contexts and the Gang Table alone. -/
theorem State.effects_strips (s : State) (i : StripId) (es : List Effect) :
    (s.effects i es).strips = s.strips ∧ (s.effects i es).gangs = s.gangs ∧ s.OnStrips (s.effects i es) := by
  induction es generalizing s with
  | nil => exact ⟨rfl, rfl, State.OnStrips.refl s⟩
  | cons e es ih =>
    obtain ⟨h1, h2, h3⟩ := ih (s.effect i e)
    have h4 : (s.effect i e).strips = s.strips ∧ (s.effect i e).gangs = s.gangs := by
      cases e with
      | record r =>
        show (s.handRecord r).strips = _ ∧ (s.handRecord r).gangs = _
        obtain ⟨w, es, h⟩ := s.handRecord_eq r
        rw [h]
        exact ⟨rfl, rfl⟩
      | drive u => exact ⟨rfl, rfl⟩
      | request p => exact ⟨rfl, rfl⟩
      | withdraw => exact ⟨rfl, rfl⟩
      | giveBack => exact ⟨rfl, rfl⟩
      | cause c => exact ⟨rfl, rfl⟩
    exact ⟨h1.trans h4.1, h2.trans h4.2, (s.onStrips_effect i e).trans h3⟩

/-- An event taken at a context. -/
theorem State.onStrips_runStrip (s : State) (i : StripId) (f : Ctx → Ctx) : s.OnStrips (s.runStrip i f) :=
  (s.onStrips_setStrip i _).trans (State.effects_strips _ i _).2.2

/-- The contexts after an event taken at one of them: the others are as they were. -/
theorem State.runStrip_strips (s : State) (i : StripId) (f : Ctx → Ctx) :
    (s.runStrip i f).strips = s.strips.set i (f { id := i, strip := s.strip i, out := [] }).strip :=
  (State.effects_strips _ i _).1

theorem State.runStrip_gangs (s : State) (i : StripId) (f : Ctx → Ctx) : (s.runStrip i f).gangs = s.gangs :=
  (State.effects_strips _ i _).2.1

@[simp] theorem State.strip_runStrip_self (s : State) (i : StripId) (f : Ctx → Ctx) :
    (s.runStrip i f).strip i = (f { id := i, strip := s.strip i, out := [] }).strip := by
  simp [State.strip, State.runStrip_strips]

theorem State.strip_runStrip_ne (s : State) {i j : StripId} (f : Ctx → Ctx) (h : j ≠ i) :
    (s.runStrip i f).strip j = s.strip j := by
  have : i.val ≠ j.val := fun e => h (Fin.ext e.symm)
  simp [State.strip, State.runStrip_strips, this]

/-- A command taken at a context: an event there, and its outcome at the Cell Sweep. -/
theorem State.runCommand_eq (s : State) (i : StripId) (f : Ctx → Ctx × Outcome) :
    s.runCommand i f =
      (s.runStrip i fun c => (f c).1).answer (f { id := i, strip := s.strip i, out := [] }).2 0 := rfl

theorem State.OnStrips.onCells {s t : State} (h : s.OnStrips t) : s.OnCells t := by
  obtain ⟨_, _, _, _, _, _, rfl⟩ := h
  exact ⟨_, _, _, _, _, _, _, rfl⟩

theorem State.onCells_answer (s : State) (o : Outcome) (r : Word) : s.OnCells (s.answer o r) :=
  ⟨_, _, _, _, _, _, _, rfl⟩

theorem State.onCells_runCommand (s : State) (i : StripId) (f : Ctx → Ctx × Outcome) :
    s.OnCells (s.runCommand i f) := (s.onStrips_runStrip i _).onCells.trans (State.onCells_answer _ _ _)

/-! ### Sensing, the hand and gangs -/

theorem State.onStrips_leaderMoved (s : State) (i : StripId) : s.OnStrips (s.leaderMoved i) := by
  unfold State.leaderMoved
  simp only []
  split
  · split
    · exact (s.onStrips_setGang _ _).trans (State.onStrips_deliverAll _ _ _)
    · exact State.OnStrips.refl s
  · exact State.OnStrips.refl s

/-- A sample arrival. -/
theorem State.onStrips_sampleArrival (s : State) (i : StripId) (code : Code) :
    s.OnStrips (s.sampleArrival i code) := by
  unfold State.sampleArrival
  split
  · exact State.OnStrips.refl s
  · exact (s.onStrips_runStrip i _).trans (State.onStrips_leaderMoved _ i)

theorem State.onStrips_startActivity (s : State) (g : GangId) (i : StripId) : s.OnStrips (s.startActivity g i) :=
  (((s.onStrips_setGang g _).trans (State.onStrips_setStrip _ i _)).trans (State.onStrips_handRecord _ _)).trans
    (State.onStrips_deliverAll _ _ _)

theorem State.onStrips_handOver (s : State) (g : GangId) (a : Activity) (old new : StripId)
    (oldLeader : Nat → Ctx → Ctx) : s.OnStrips (s.handOver g a old new oldLeader) :=
  ((((s.onStrips_setGang g _).trans (State.onStrips_handRecord _ _)).trans (State.onStrips_setStrip _ new _)).trans
    (State.onStrips_runStrip _ old _)).trans (State.onStrips_deliverAll _ _ _)

theorem State.onStrips_endActivity (s : State) (g : GangId) (i : StripId) : s.OnStrips (s.endActivity g i) :=
  (((s.onStrips_setGang g _).trans (State.onStrips_handRecord _ _)).trans (State.onStrips_setStrip _ i _)).trans
    (State.onStrips_deliverAll _ _ _)

theorem State.onStrips_leaderDeparts (s : State) (i : StripId) : s.OnStrips (s.leaderDeparts i) := by
  unfold State.leaderDeparts
  simp only []
  split
  · split
    · split
      · exact s.onStrips_handOver ..
      · exact s.onStrips_endActivity ..
    · exact State.OnStrips.refl s
  · exact State.OnStrips.refl s

theorem State.onStrips_touchGang (s : State) (i : StripId) : s.OnStrips (s.touchGang i) := by
  unfold State.touchGang
  split
  · exact State.OnStrips.refl s
  · split
    · exact s.onStrips_startActivity ..
    · split
      · exact State.OnStrips.refl s
      · exact s.onStrips_runStrip ..

/-- A touch-on. -/
theorem State.onStrips_touchOn (s : State) (i : StripId) : s.OnStrips (s.touchOn i) := by
  unfold State.touchOn
  simp only []
  split
  · exact State.OnStrips.refl s
  · split
    · exact (s.onStrips_runStrip i _).trans (State.onStrips_touchGang _ i)
    · exact s.onStrips_runStrip i _

theorem State.onStrips_release (s : State) (i : StripId) : s.OnStrips (s.release i) := by
  unfold State.release
  simp only []
  split
  · split
    · split
      · exact (s.onStrips_runStrip i _).trans (State.onStrips_handOver ..)
      · exact (s.onStrips_runStrip i _).trans (State.onStrips_endActivity ..)
    · exact s.onStrips_runStrip i _
  · exact s.onStrips_runStrip i _

/-- A touch-off. -/
theorem State.onStrips_touchOff (s : State) (i : StripId) : s.OnStrips (s.touchOff i) := by
  unfold State.touchOff
  simp only []
  split
  · exact State.OnStrips.refl s
  · split
    · exact s.onStrips_setStrip ..
    · exact s.onStrips_setStrip ..
    · split
      · exact s.onStrips_runStrip ..
      · exact s.onStrips_release ..
    · exact State.OnStrips.refl s

theorem State.onStrips_gangJoin (s : State) (i : StripId) (j : JoinArgs) : s.OnStrips (s.gangJoin i j) := by
  unfold State.gangJoin
  simp only []
  split
  · exact State.OnStrips.refl s
  · split
    · exact State.OnStrips.refl s
    · exact s.onStrips_runStrip ..

theorem State.onStrips_followUpdate (s : State) (i : StripId) (pL : Nat) : s.OnStrips (s.followUpdate i pL) := by
  unfold State.followUpdate
  split
  · exact s.onStrips_setStrip ..
  · exact State.OnStrips.refl s

theorem State.onStrips_reOffset (s : State) (i : StripId) (pL : Nat) : s.OnStrips (s.reOffset i pL) := by
  unfold State.reOffset
  split
  · exact s.onStrips_setStrip ..
  · exact State.OnStrips.refl s

theorem State.onStrips_gangEnd (s : State) (i : StripId) : s.OnStrips (s.gangEnd i) := by
  unfold State.gangEnd
  split
  · exact s.onStrips_runStrip ..
  · exact State.OnStrips.refl s

theorem State.onStrips_setMembers (s : State) (g : GangId) (l : List StripId) : s.OnStrips (s.setMembers g l) := by
  refine (s.onStrips_setGang g { s.gang g with members := allStrips.filter (· ∈ l) }).trans ?_
  exact ⟨_, _, _, _, _, _, rfl⟩

/-- A GANG_SET. -/
theorem State.onCells_gangSet (s : State) (g : GangId) (count : Word) (entries : List Word) :
    s.OnCells (s.gangSet g count entries) := by
  unfold State.gangSet
  simp only []
  split
  · exact s.onCells_answer _ _
  · split
    · exact s.onCells_answer _ _
    · split
      · exact s.onCells_answer _ _
      · split
        · exact s.onCells_answer _ _
        · exact (s.onStrips_setMembers _ _).onCells.trans (State.onCells_answer _ _ _)

theorem State.onCells_calibrate (s : State) (i : StripId) (tag : Half) : s.OnCells (s.calibrate i tag) := by
  unfold State.calibrate
  simp only []
  split
  · exact (s.onCells_runCommand i _).trans (State.onStrips_leaderDeparts _ i).onCells
  · exact s.onCells_runCommand i _

theorem State.onCells_stripOff (s : State) (i : StripId) : s.OnCells (s.stripOff i) := by
  unfold State.stripOff
  simp only []
  split
  · exact (s.onCells_runCommand i _).trans (State.onStrips_leaderDeparts _ i).onCells
  · exact s.onCells_runCommand i _

/-- The start check (R59) starts the first queued entry of an idle strip that may, or does nothing. -/
theorem Ctx.startRule_cases (c : Ctx) : c.startRule = c ∨ ∃ e rest, c.strip.queue = e :: rest ∧ c.strip.state = .idle ∧
    c.strip.current = none ∧ c.strip.freeze = false ∧ c.startRule =
      { id := c.id, out := c.out ++ [.request e.priority]
        strip := { c.strip with queue := rest, current := some e, restart := false, state := .waiting .move } } := by
  unfold Ctx.startRule
  split
  · exact .inl rfl
  · rename_i e rest hq
    split
    · rename_i h
      exact .inr ⟨e, rest, hq, h.1, h.2.1, h.2.2, rfl⟩
    · exact .inl rfl

/-- STRIP_ON is a command at the strip's context, and sets no more than its touch channel beside it (R22, R53). -/
theorem State.onCells_stripOn (s : State) (i : StripId) :
    ∃ t, s.OnCells t ∧ s.stripOn i = { t with touchScan := (s.stripOn i).touchScan } := by
  refine ⟨s.runCommand i (Ctx.stripOn s.stripCount), s.onCells_runCommand i _, ?_⟩
  unfold State.stripOn
  split <;> rfl

theorem State.onCells_sceneEntry (s : State) (i : StripId) (jump : Bool) (a : MoveArgs) :
    s.OnCells (s.sceneEntry i jump a) := s.onCells_runCommand i _

theorem State.onCells_sceneEntries (a : SceneArgs) (ws : List Word) (s : State) (r : Word) :
    s.OnCells (State.sceneEntries a ws (s, r)).1 := by
  induction ws generalizing s r with
  | nil => exact State.OnCells.refl s
  | cons w ws ih =>
    unfold State.sceneEntries
    exact (s.onCells_sceneEntry _ _ _).trans (ih _ _)

/-- A SCENE. -/
theorem State.onCells_scene (s : State) (a : SceneArgs) (entries : List Word) : s.OnCells (s.scene a entries) := by
  unfold State.scene
  split
  · exact s.onCells_answer _ _
  · exact (State.onCells_sceneEntries a _ s 0).trans (State.onCells_answer _ _ _)

/-! ### The Image Port and the Report Writer -/

theorem State.onImage_reached (s : State) (n : WriteNote) : s.OnImage (s.reached n) := by
  cases n <;> exact ⟨_, _, _, _, rfl⟩

/-- The oldest posted write issued. -/
theorem State.onImage_issueOldest (s : State) : s.OnImage s.issueOldest := by
  unfold State.issueOldest
  split
  · exact State.OnImage.refl s
  · rename_i w rest _
    exact State.OnImage.trans
      (t := { s with posted := rest, memory := s.memory.writeWord (s.address w.offset) w.data })
      ⟨_, _, _, _, rfl⟩ (State.onImage_reached _ _)

theorem State.onImage_reportAction (s : State) : s.OnImage s.reportAction := by
  unfold State.reportAction
  split
  · exact State.OnImage.refl s
  · split
    · exact ⟨_, _, _, _, rfl⟩
    · split
      · exact ⟨_, _, _, _, rfl⟩
      · split
        · exact ⟨_, _, _, _, rfl⟩
        · exact State.OnImage.refl s

theorem State.onImage_makePlace (s : State) : s.OnImage s.makePlace := by
  unfold State.makePlace
  split
  · exact s.onImage_issueOldest
  · exact State.OnImage.refl s

/-- The Report Writer's request finished. -/
theorem State.onImage_finishRequest (s : State) : s.OnImage s.finishRequest := by
  have h : ∀ (n : Nat) (t : State), t.OnImage (State.finishFor n t) := by
    intro n
    induction n with
    | zero => exact State.OnImage.refl
    | succ n ih => exact fun t => (t.onImage_makePlace.trans (State.onImage_reportAction _)).trans (ih _)
  exact h _ s

/-- With no word of a report in hand there is no request to finish. -/
@[simp] theorem State.finishRequest_idle {s : State} (h : s.wordsInHand = 0) : s.finishRequest = s := by
  unfold State.finishRequest
  rw [h]
  rfl

/-- A write handed to the posted-write queue. -/
theorem State.onImage_post (s : State) (w : PostedWrite) : s.OnImage (s.post w) :=
  (s.onImage_finishRequest.trans (State.onImage_makePlace _)).trans ⟨_, _, _, _, rfl⟩

theorem State.onImage_postAll (s : State) (ws : List PostedWrite) : s.OnImage (s.postAll ws) := by
  induction ws generalizing s with
  | nil => exact State.OnImage.refl s
  | cons w ws ih => exact (s.onImage_post w).trans (ih (s.post w))

theorem State.onImage_pumpFor (n : Nat) (s : State) : s.OnImage (State.pumpFor n s) := by
  induction n generalizing s with
  | zero => exact State.OnImage.refl s
  | succ n ih =>
    unfold State.pumpFor
    split
    · exact s.onImage_reportAction.trans (ih _)
    · exact State.OnImage.refl s

/-- The Report Writer going on. -/
theorem State.onImage_pump (s : State) : s.OnImage s.pump := State.onImage_pumpFor 24 s

theorem State.onImage_issueAll (s : State) : s.OnImage s.issueAll := by
  have h : ∀ (l : List PostedWrite) (t : State), t.OnImage (l.foldl (fun t _ => t.issueOldest) t) := by
    intro l
    induction l with
    | nil => exact State.OnImage.refl
    | cons w l ih => intro t; exact t.onImage_issueOldest.trans (ih _)
  exact h s.posted s

theorem State.onImage_hostWrote (s : State) (host : List HostWrite) : s.OnImage (s.hostWrote host) :=
  ⟨_, _, _, _, rfl⟩

/-- What comes before a read. -/
theorem State.onImage_beforeRead (s : State) (host : List HostWrite) : s.OnImage (s.beforeRead host) :=
  ((s.onImage_finishRequest.trans (State.onImage_issueAll _)).trans (State.onImage_pump _)).trans
    (State.onImage_hostWrote _ _)

theorem State.onImage_beginReport (s : State) : s.OnImage s.beginReport := ⟨_, _, _, _, rfl⟩

/-! ### The Activity Writer -/

theorem State.OnImage.onJournal {s t : State} (h : s.OnImage t) : s.OnJournal t := by
  obtain ⟨_, _, _, _, rfl⟩ := h
  exact ⟨_, _, _, _, _, _, rfl⟩

/-- A placement made. -/
theorem State.onJournal_place (s : State) (d : Due) : s.OnJournal (s.place d) :=
  State.OnJournal.trans (t := { s with writer := (s.writer.placed d).releaseHeld }) ⟨_, _, _, _, _, _, rfl⟩
    (State.onImage_postAll _ _).onJournal

theorem State.onJournal_handPage (s : State) : s.OnJournal s.handPage := by
  unfold State.handPage
  exact (State.OnJournal.trans (t := { s with writer := { s.writer with hold := none } }) ⟨_, _, _, _, _, _, rfl⟩
    (State.onImage_postAll _ _).onJournal).trans ⟨_, _, _, _, _, _, rfl⟩

/-- A page closed. -/
theorem State.onJournal_closePage (s : State) : s.OnJournal s.closePage :=
  s.onJournal_handPage.trans ⟨_, _, _, _, _, _, rfl⟩

theorem State.onJournal_placeRecord (s : State) : s.OnJournal s.placeRecord := by
  unfold State.placeRecord
  split
  · split
    · exact State.OnJournal.refl s
    · split
      · exact s.onJournal_place _
      · exact s.onJournal_closePage
  · exact State.OnJournal.refl s

theorem State.onJournal_takeOwner (s : State) : s.OnJournal s.takeOwner := by
  unfold State.takeOwner
  split
  · exact ⟨_, _, _, _, _, _, rfl⟩
  · split
    · exact ⟨_, _, _, _, _, _, rfl⟩
    · exact State.OnJournal.refl s

/-- An owner read. -/
theorem State.onJournal_ownerRead (s : State) (host : List HostWrite) : s.OnJournal (s.ownerRead host) := by
  unfold State.ownerRead
  split
  · exact (s.onImage_beforeRead host).onJournal.trans (State.onJournal_takeOwner _)
  · exact (s.onImage_hostWrote host).onJournal

theorem State.onJournal_flushFor (n : Nat) (host : List HostWrite) (s : State) :
    s.OnJournal (State.flushFor n host s).1 := by
  induction n generalizing host s with
  | zero => exact State.OnJournal.refl s
  | succ n ih =>
    unfold State.flushFor
    split
    · split
      · exact State.OnJournal.refl s
      · split
        · exact (s.onJournal_place _).trans (ih _ _)
        · exact (s.onJournal_handPage.trans (State.onJournal_ownerRead _ host)).trans (ih _ _)
    · exact State.OnJournal.refl s

/-- ACTIVITY_FLUSH at the writer. -/
theorem State.onJournal_flushActivity (s : State) (host : List HostWrite) : s.OnJournal (s.flushActivity host) := by
  have h : s.OnJournal ((State.flushFor s.flushActions host s).1.hostWrote (State.flushFor s.flushActions host s).2) :=
    (State.onJournal_flushFor _ host s).trans (State.onImage_hostWrote _ _).onJournal
  unfold State.flushActivity
  simp only []
  split
  · exact h.trans (State.onJournal_closePage _)
  · exact h

theorem State.onJournal_holdExpiry (s : State) : s.OnJournal s.holdExpiry := by
  unfold State.holdExpiry
  split
  · exact s.onJournal_closePage
  · exact State.OnJournal.refl s

/-! ### Links and the input -/

theorem State.onLinks_setLink (s : State) (k : LinkId) (l : LinkRx) : s.OnLinks (s.setLink k l) := by
  unfold State.setLink
  simp only []
  split <;> split <;> exact ⟨_, _, _, _, _, rfl⟩

theorem State.onLinks_leaveLinks (s : State) : s.OnLinks s.leaveLinks := ⟨_, _, _, _, _, rfl⟩

theorem State.onLinks_beginService (s : State) : s.OnLinks s.beginService := by
  unfold State.beginService
  split
  · exact ⟨_, _, _, _, _, rfl⟩
  · exact State.OnLinks.refl s

theorem State.onLinks_deliverRouted (s : State) (w : RoutedWord) : s.OnLinks (s.deliverRouted w) := by
  unfold State.deliverRouted
  split
  · split
    · exact ⟨_, _, _, _, _, rfl⟩
    · exact State.OnLinks.refl s
  · split
    · exact ⟨_, _, _, _, _, rfl⟩
    · exact State.OnLinks.refl s
  · exact State.OnLinks.refl s

/-- The end of a service. -/
theorem State.onLinks_serviceEnd (s : State) : s.OnLinks s.serviceEnd := by
  unfold State.serviceEnd
  split
  · exact State.OnLinks.refl s
  · exact (State.OnLinks.trans (t := { s with input := { s.input with service := none } }) ⟨_, _, _, _, _, rfl⟩
      (State.onLinks_deliverRouted _ _)).trans (State.onLinks_beginService _)

/-- One edge at a link. -/
theorem State.onLinks_linkEdge (s : State) (k : LinkId) (x : LinkSample) : s.OnLinks (s.linkEdge k x) :=
  (s.onLinks_setLink k _).trans (State.onLinks_beginService _)

theorem State.onLinks_linkEdges (s : State) (k : LinkId) (xs : List LinkSample) : s.OnLinks (s.linkEdges k xs) := by
  unfold State.linkEdges
  induction xs generalizing s with
  | nil => exact State.OnLinks.refl s
  | cons x xs ih => exact (s.onLinks_linkEdge k x).trans (ih _)

theorem State.onLinks_linkTimeout (s : State) (k : LinkId) : s.OnLinks (s.linkTimeout k) := by
  unfold State.linkTimeout
  split
  · exact s.onLinks_setLink k _
  · exact State.OnLinks.refl s

/-! ### The STOP sequence -/

theorem State.OnImage.onStop {s t : State} (h : s.OnImage t) : s.OnStop t := by
  obtain ⟨_, _, _, _, rfl⟩ := h
  exact ⟨_, _, _, _, _, _, _, _, _, rfl⟩

theorem State.handPage_inFlight (s : State) : s.handPage.inFlight = s.inFlight := by
  have h := (State.onImage_postAll { s with writer := { s.writer with hold := none } } s.writer.headerWords).inFlight
  unfold State.handPage
  generalize State.postAll _ s.writer.headerWords = t at h
  exact h

theorem State.onStop_endDrain (s : State) : s.OnStop s.endDrain := by
  unfold State.endDrain
  simp only []
  split
  · have h : s.OnStop s.handPage := by
      have e := s.handPage_inFlight
      obtain ⟨_, _, _, _, _, f, h⟩ := s.onJournal_handPage
      rw [h] at e ⊢
      obtain rfl : f = s.inFlight := e
      exact ⟨_, _, _, _, _, _, _, _, _, rfl⟩
    exact h.trans ⟨_, _, _, _, _, _, _, _, _, rfl⟩
  · exact ⟨_, _, _, _, _, _, _, _, _, rfl⟩

/-- The STOP sequence going on. -/
theorem State.onStop_advanceStop (s : State) : s.OnStop s.advanceStop := by
  unfold State.advanceStop
  split
  · refine State.OnStop.trans (t := s.stopDrain.stopReport) (State.OnStop.trans (t := s.stopDrain) ?_ ?_) ?_
    · unfold State.stopDrain
      split
      · exact s.onStop_endDrain
      · exact State.OnStop.refl s
    · unfold State.stopReport
      simp only []
      split
      · exact ((State.onImage_beginReport _).trans (State.onImage_pump _)).onStop.trans
          ⟨_, _, _, _, _, _, _, _, _, rfl⟩
      · exact State.OnStop.refl _
    · unfold State.stopDisplay
      simp only []
      split
      · exact ⟨_, _, _, _, _, _, _, _, _, rfl⟩
      · exact State.OnStop.refl _
  · exact State.OnStop.refl s

/-! ### Setup loads -/

/-- A section handed to its owner. -/
theorem State.onSetup_handSection (s : State) (start : Bool) (ws : List Word) (sec : SetupSection) :
    s.OnSetup (s.handSection start ws sec) := by
  have link : ∀ (t : State) (k : LinkId), t.OnSetup (t.loadLink start ws k) := by
    intro t k
    have h : ∀ l, t.OnSetup (t.setLink k l) := by
      intro l
      unfold State.setLink
      simp only []
      split <;> split <;> exact ⟨_, _, _, _, _, _, _, _, _, _, _, _, _, _, rfl⟩
    exact h _
  cases sec <;> try exact ⟨_, _, _, _, _, _, _, _, _, _, _, _, _, _, rfl⟩
  · exact (link s 0).trans (link _ 1)
  · show s.OnSetup (s.loadAttn start _)
    unfold State.loadAttn
    split <;> exact ⟨_, _, _, _, _, _, _, _, _, _, _, _, _, _, rfl⟩

/-- Sections read and handed one after another. -/
theorem State.onSetup_loadSections (s : State) (start : Bool) (secs : List SetupSection) :
    s.OnSetup (s.loadSections start secs).1 := by
  have h : ∀ (secs : List SetupSection) (acc : State × Word),
      acc.1.OnSetup (secs.foldl (State.loadSection start) acc).1 := by
    intro secs
    induction secs with
    | nil => exact fun acc => State.OnSetup.refl _
    | cons sec secs ih => exact fun acc => (acc.1.onSetup_handSection start _ sec).trans (ih _)
  exact h secs (s, 0)

/-! ### Faulting accesses -/

section
variable (s : State) (o : Word)

@[simp] theorem State.accessFault_state : (s.accessFault o).part.state = .faulted := rfl
@[simp] theorem State.accessFault_fault : (s.accessFault o).part.fault = .bus := rfl
@[simp] theorem State.accessFault_pfadr : (s.accessFault o).part.pfadr = s.part.base + o := rfl
@[simp] theorem State.accessFault_startResult : (s.accessFault o).part.startResult = s.part.startResult := rfl
@[simp] theorem State.accessFault_pending : (s.accessFault o).pending = s.pending := rfl
@[simp] theorem State.accessFault_memory : (s.accessFault o).memory = s.memory := rfl
@[simp] theorem State.accessFault_posted : (s.accessFault o).posted = [] := rfl
@[simp] theorem State.accessFault_inFlight : (s.accessFault o).inFlight = s.inFlight.filter isArrival := rfl
@[simp] theorem State.accessFault_strips : (s.accessFault o).strips = s.strips.map Strip.discard := rfl
@[simp] theorem State.accessFault_arbiter : (s.accessFault o).arbiter = s.arbiter.empty := rfl
@[simp] theorem State.accessFault_motors : (s.accessFault o).motors = s.motors.silence := rfl
@[simp] theorem State.accessFault_writer : (s.accessFault o).writer = s.writer.halt := rfl
@[simp] theorem State.accessFault_scanner : (s.accessFault o).scanner = s.scanner.disable := rfl
@[simp] theorem State.accessFault_reporter : (s.accessFault o).reporter = s.reporter.halt := rfl
@[simp] theorem State.accessFault_sweep : (s.accessFault o).sweep = s.sweep.stop := rfl
@[simp] theorem State.accessFault_bars : (s.accessFault o).bars = s.bars.blank := rfl

/-- With an access under way a bus fault is that access's; otherwise there is none. -/
@[simp] theorem State.busFault_accessing {s : State} (h : s.accessing = true) (o : Word) : s.busFault o = s.accessFault o :=
  if_pos h

@[simp] theorem State.busFault_idle {s : State} (h : s.accessing = false) (o : Word) : s.busFault o = s := by
  simp [State.busFault, h]

end

/-! ### A record handed, case by case -/

/-- Outside STOPPING a record handed joins the queue or is dropped, and a SEEKING writer delivers an owner read. -/
theorem State.handRecord_served {s : State} (h : s.part.state ≠ .stopping) (r : Rec) :
    s.handRecord r = { s with
      writer := s.writer.hand false { record := r, time := s.part.time }
      inFlight := s.inFlight ++ if s.writer.state = .seeking then [.pageOwnerRead []] else [] } := by
  by_cases hw : s.writer.state = .seeking <;> simp [State.handRecord, h, hw, State.deliver]

/-- In STOPPING it does so too, with what the writer holds; only while the STOP sequence hands its records can a SEEKING writer
obtain the page at once. -/
theorem State.handRecord_stopping {s : State} (h : s.part.state = .stopping) (r : Rec) :
    let t : State := { s with writer := s.writer.hand true { record := r, time := s.part.time } }
    s.handRecord r = { t with
      writer := if s.writer.state = .seeking ∧ s.part.stop = .handing ∧ s.writer.deadSeek = false ∧ isFZ t.pageOwner
        then t.writer.obtain else t.writer } := by
  by_cases hw : s.writer.state = .seeking <;> simp [State.handRecord, h, hw]
  split <;> simp_all

/-! ### The stages of the start sequence -/

@[simp] theorem State.startThrough_nil (s : State) : s.startThrough [] = s := rfl

/-- The sections of the setup area taken as stages are their loads. -/
theorem State.startThrough_loads (s : State) (secs : List SetupSection) :
    s.startThrough (secs.map .load) = (s.loadSections true secs).1 := by
  unfold State.startThrough State.loadSections
  rw [List.foldl_map]
  rfl

/-- The start sequence whole: the twelve loads, then the start result and steps 2 to 5 (R181). -/
theorem State.startThrough_startStages (s : State) :
    s.startThrough startStages =
      let r := s.loadSections true SetupSection.all
      (r.1.startResult r.2).startBlocks.startDisplay.startStrips.startConverter := by
  have rest : ∀ acc : State × Word,
      (([.result, .blocks, .display, .strips, .converter] : List StartStage).foldl State.startStage acc).1 =
        (acc.1.startResult acc.2).startBlocks.startDisplay.startStrips.startConverter := fun _ => rfl
  unfold State.startThrough startStages
  rw [List.foldl_append, rest, List.foldl_map]
  simp only [State.startStage, State.loadSections]

end Sys2Proof.Machine
end

