-- ==== Sys2Proof/Laws/Grants.lean ====
section
/-!
SUPPORT. The Grant Arbiter: what a decision can do, and that the STOP sequence leaves no event between strips and arbiter under
way (R111).
-/
namespace Sys2Proof.Machine

/-- A decision grants no more strips than records leave the waiting set. -/
theorem Arbiter.decideFor_length (n : Nat) (a : Arbiter) :
    (Arbiter.decideFor n a).2.length + (Arbiter.decideFor n a).1.waiting.length ≤ a.waiting.length := by
  induction n generalizing a with
  | zero => simp [Arbiter.decideFor]
  | succ n ih =>
    unfold Arbiter.decideFor
    split
    · simp
    · next r h =>
      have hr : r ∈ a.waiting := by
        have best : ∀ l : List Request, bestRequest l = some r → r ∈ l := by
          intro l
          induction l with
          | nil => intro e; cases e
          | cons x xs ih2 =>
            unfold bestRequest
            split
            · intro e; cases e; exact List.mem_cons_self
            · next b hb =>
              split
              · intro e; cases e; exact List.mem_cons_of_mem _ (ih2 hb)
              · intro e; cases e; exact List.mem_cons_self
        unfold Arbiter.choice at h
        split at h
        · exact (List.mem_filter.mp (best _ h)).1
        · cases h
      have lt : (a.issue r).waiting.length < a.waiting.length := by
        unfold Arbiter.issue
        exact List.length_filter_lt_length_iff_exists.mpr ⟨r, hr, by simp⟩
      have := ih (a.issue r)
      simp only [List.length_cons]
      omega

/-- How many events between strips and arbiter an event can still bring, itself counted. -/
def grantWeight : Instr → Nat
  | .grantRequest _ _ => 3
  | .grant _ => 2
  | .grantReturn _ | .grantWithdrawal _ => 1
  | _ => 0

theorem grantWeight_le (e : Instr) : grantWeight e ≤ 3 := by cases e <;> simp [grantWeight]

/-- What is left of them, the records that wait counted. -/
def State.grantsLeft (s : State) : Nat := (s.inFlight.map grantWeight).sum + 2 * s.arbiter.waiting.length

theorem State.grantsLeft_le (s : State) : s.grantsLeft ≤ s.grantWork := by
  have h : ∀ l : List Instr, (l.map grantWeight).sum ≤ 3 * l.length := by
    intro l
    induction l with
    | nil => simp
    | cons e l ih =>
      have := grantWeight_le e
      simp only [List.map_cons, List.sum_cons, List.length_cons]
      omega
  have := h s.inFlight
  unfold State.grantsLeft State.grantWork
  omega

theorem filter_erase_of_not {p : Instr → Bool} {e : Instr} (h : p e = false) (l : List Instr) :
    (l.erase e).filter p = l.filter p := by
  induction l with
  | nil => rfl
  | cons x l ih =>
    by_cases hx : x = e
    · subst hx; simp [h]
    · rw [List.erase_cons_tail (by simpa using hx), List.filter_cons, List.filter_cons, ih]

/-- What an event can bring, and what the others can. -/
theorem sum_erase {e : Instr} {l : List Instr} (h : e ∈ l) :
    grantWeight e + ((l.erase e).map grantWeight).sum = (l.map grantWeight).sum := by
  induction l with
  | nil => cases h
  | cons x l ih =>
    by_cases hx : x = e
    · subst hx; simp
    · have := ih ((List.mem_cons.mp h).resolve_left fun k => hx k.symm)
      rw [List.erase_cons_tail (by simpa using hx)]
      simp only [List.map_cons, List.sum_cons]
      omega

/-- A decision brings grants alone, two of work each, for as many records as it takes. -/
theorem State.grantDecision_eq (s : State) (a : Arbiter) :
    ∃ (b : Arbiter) (l : List StripId), s.grantDecision a = { s with arbiter := b, inFlight := s.inFlight ++ l.map .grant } ∧
      l.length + b.waiting.length ≤ a.waiting.length :=
  ⟨_, _, rfl, Arbiter.decideFor_length _ a⟩

/-- A grant at a strip that is not WAITING goes back, and the strip is as it was (R31). -/
theorem State.runStrip_granted {s : State} {i : StripId} (h : (s.strip i).state.isWaiting = false) :
    s.runStrip i Ctx.granted = s.deliver (.grantReturn i) := by
  have e : Ctx.granted { id := i, strip := s.strip i, out := [] } =
      { id := i, strip := s.strip i, out := [.giveBack] } := by
    unfold Ctx.granted
    cases hs : (s.strip i).state <;> first | rfl | (rw [hs] at h; cases h)
  have set : s.setStrip i (s.strip i) = s := by
    have v : s.strips.set i s.strips[i] = s.strips := by
      apply Vector.ext
      intro j hj
      rw [Vector.getElem_set]
      split
      · next k => subst k; rfl
      · rfl
    unfold State.setStrip State.strip
    rw [v]
  unfold State.runStrip
  rw [e]
  simp only [set]
  rfl

/-- An event between strips and arbiter taken while no strip is WAITING: the arbiter changes, and fewer events are left. -/
theorem State.takeGrantEvent_eq {s : State} (hs : ∀ i, (s.strip i).state.isWaiting = false) {e : Instr} (he : grantEvent e = true) :
    ∃ (a : Arbiter) (l : List Instr),
      (s.take e).takeGrantEvent e = { s with arbiter := a, inFlight := s.inFlight.erase e ++ l } ∧
      (∀ x ∈ l, grantEvent x = true) ∧
      (l.map grantWeight).sum + 2 * a.waiting.length < grantWeight e + 2 * s.arbiter.waiting.length := by
  have decided : ∀ (t : State) (b : Arbiter), ∃ (a : Arbiter) (l : List Instr),
      t.grantDecision b = { t with arbiter := a, inFlight := t.inFlight ++ l } ∧ (∀ x ∈ l, grantEvent x = true) ∧
        (l.map grantWeight).sum + 2 * a.waiting.length ≤ 2 * b.waiting.length := by
    intro t b
    obtain ⟨a, l, h, hl⟩ := t.grantDecision_eq b
    refine ⟨a, l.map .grant, h, by simp [grantEvent], ?_⟩
    have : ((l.map Instr.grant).map grantWeight).sum = 2 * l.length := by
      clear h hl
      induction l with
      | nil => rfl
      | cons i l ih => simp only [List.map_cons, List.sum_cons, List.length_cons, ih, grantWeight]; omega
    omega
  cases e with
  | grantRequest i p =>
    obtain ⟨a, l, h, hl, hw⟩ := decided (s.take (.grantRequest i p)) (s.arbiter.request i p)
    refine ⟨a, l, h, hl, ?_⟩
    have : (s.arbiter.request i p).waiting.length ≤ s.arbiter.waiting.length + 1 := by
      unfold Arbiter.request
      split
      · omega
      · split <;> simp
    simp only [grantWeight]
    omega
  | grantWithdrawal i =>
    refine ⟨s.arbiter.withdraw i, [], by simp [State.takeGrantEvent, State.grantWithdrawal, State.take], by simp, ?_⟩
    have : (s.arbiter.withdraw i).waiting.length ≤ s.arbiter.waiting.length := List.length_filter_le _ _
    simp only [grantWeight, List.map_nil, List.sum_nil]
    omega
  | grantReturn i =>
    by_cases hi : i ∈ s.arbiter.grantSet
    · obtain ⟨a, l, h, hl, hw⟩ := decided (s.take (.grantReturn i)) (s.arbiter.giveBack i)
      refine ⟨a, l, (if_pos hi).trans h, hl, ?_⟩
      have : (s.arbiter.giveBack i).waiting = s.arbiter.waiting := by
        unfold Arbiter.giveBack
        simp only []
        split
        · split <;> rfl
        · rfl
      rw [this] at hw
      simp only [grantWeight]
      omega
    · refine ⟨s.arbiter, [], (if_neg hi).trans (by simp [State.take]), by simp, by simp [grantWeight]⟩
  | grant i =>
    refine ⟨s.arbiter, [.grantReturn i], ?_, by simp [grantEvent], by simp [grantWeight]⟩
    exact State.runStrip_granted (s := s.take (.grant i)) (hs i)
  | _ => cases he

/-- The STOP sequence's grant events (R111): while no strip is WAITING, every one under way is taken and none is left, and nothing
but the arbiter has changed. -/
theorem State.settleGrants_eq {s : State} (hs : ∀ i, (s.strip i).state.isWaiting = false) :
    ∃ a, s.settleGrants = { s with arbiter := a, inFlight := s.inFlight.filter fun e => !grantEvent e } := by
  have go : ∀ (n : Nat) (t : State), (∀ i, (t.strip i).state.isWaiting = false) → t.grantsLeft ≤ n →
      ∃ a, State.settleGrantsFor n t = { t with arbiter := a, inFlight := t.inFlight.filter fun e => !grantEvent e } := by
    intro n
    have none_left : ∀ t : State, (∀ e ∈ t.inFlight, grantEvent e = false) →
        t = { t with arbiter := t.arbiter, inFlight := t.inFlight.filter fun e => !grantEvent e } := by
      intro t h
      have : (t.inFlight.filter fun e => !grantEvent e) = t.inFlight :=
        List.filter_eq_self.mpr fun e he => by rw [h e he]; rfl
      rw [this]
    induction n with
    | zero =>
      intro t _ hn
      refine ⟨t.arbiter, none_left t fun e he => ?_⟩
      have h0 : ∀ l : List Instr, e ∈ l → grantWeight e ≤ (l.map grantWeight).sum := by
        intro l
        induction l with
        | nil => intro m; cases m
        | cons x l ih =>
          intro m
          simp only [List.map_cons, List.sum_cons]
          rcases List.mem_cons.mp m with rfl | m
          · omega
          · have := ih m
            omega
      have := h0 _ he
      unfold State.grantsLeft at hn
      cases e <;> first | rfl | (simp only [grantWeight] at this; omega)
    | succ n ih =>
      intro t ht hn
      unfold State.settleGrantsFor
      split
      · next h =>
        exact ⟨t.arbiter, none_left t fun e he => by simpa using List.find?_eq_none.mp h e he⟩
      · next e h =>
        have he : grantEvent e = true := by simpa using List.find?_some h
        have mem : e ∈ t.inFlight := List.mem_of_find?_eq_some h
        obtain ⟨a, l, eq, hl, hw⟩ := State.takeGrantEvent_eq ht he
        have sum : grantWeight e + ((t.inFlight.erase e).map grantWeight).sum = (t.inFlight.map grantWeight).sum :=
          sum_erase mem
        rw [eq]
        obtain ⟨b, hb⟩ := ih { t with arbiter := a, inFlight := t.inFlight.erase e ++ l } ht (by
          unfold State.grantsLeft at hn ⊢
          simp only [List.map_append, List.sum_append]
          omega)
        refine ⟨b, hb.trans ?_⟩
        have out : l.filter (fun e => !grantEvent e) = [] :=
          List.filter_eq_nil_iff.mpr fun x hx => by rw [hl x hx]; decide
        simp only [List.filter_append, out, List.append_nil]
        rw [filter_erase_of_not (p := fun e => !grantEvent e) (by rw [he]; rfl)]
  exact go _ s hs s.grantsLeft_le

/-- What every event between strips and arbiter keeps, the whole of the STOP sequence's keeps (R111). -/
theorem State.settleGrants_induct {P : State → Prop}
    (h : ∀ t e, grantEvent e = true → e ∈ t.inFlight → P t → P ((t.take e).takeGrantEvent e)) {s : State} (hs : P s) :
    P s.settleGrants := by
  have go : ∀ (n : Nat) (t : State), P t → P (State.settleGrantsFor n t) := by
    intro n
    induction n with
    | zero => exact fun _ ht => ht
    | succ n ih =>
      intro t ht
      unfold State.settleGrantsFor
      split
      · exact ht
      · next e he => exact ih _ (h t e (by simpa using List.find?_some he) (List.mem_of_find?_eq_some he) ht)
  exact go _ s hs

end Sys2Proof.Machine
end

