-- ==== Sys2Proof/Laws/Image.lean ====
section
/-!
SUPPORT. Every operation that writes memory keeps its canonical form, and what a posted write does when it is issued.
-/
namespace Sys2Proof.Machine

/-! ### The canonical form is kept -/

/-- `t` has memory in canonical form whenever `s` has. -/
def State.MemoryKept (s t : State) : Prop := s.memory.wf = true → t.memory.wf = true

theorem State.MemoryKept.trans {s t u : State} (h : s.MemoryKept t) (k : t.MemoryKept u) : s.MemoryKept u :=
  fun hs => k (h hs)

theorem State.MemoryKept.of_eq {s t : State} (h : t.memory = s.memory) : s.MemoryKept t := by
  intro hs; rw [h]; exact hs

theorem State.reached_memory (s : State) (n : WriteNote) : (s.reached n).memory = s.memory := by cases n <;> rfl

/-- The oldest posted write issued: its word is in memory at the image base plus its offset. -/
theorem State.issueOldest_memory (s : State) (w : PostedWrite) (rest : List PostedWrite) (h : s.posted = w :: rest) :
    s.issueOldest.memory = s.memory.writeWord (s.address w.offset) w.data := by
  unfold State.issueOldest
  rw [h]
  exact State.reached_memory _ _

theorem State.memoryKept_issueOldest (s : State) : s.MemoryKept s.issueOldest := by
  cases h : s.posted with
  | nil => exact State.MemoryKept.of_eq (by unfold State.issueOldest; rw [h])
  | cons w rest =>
    intro hs
    rw [s.issueOldest_memory w rest h]
    exact Memory.wf_writeWord hs _ _

theorem State.reportAction_memory (s : State) : s.reportAction.memory = s.memory := by
  unfold State.reportAction
  split
  · rfl
  · split
    · rfl
    · split
      · rfl
      · split <;> rfl

theorem State.memoryKept_makePlace (s : State) : s.MemoryKept s.makePlace := by
  unfold State.makePlace
  split
  · exact s.memoryKept_issueOldest
  · exact State.MemoryKept.of_eq rfl

theorem State.memoryKept_finishRequest (s : State) : s.MemoryKept s.finishRequest := by
  have h : ∀ (n : Nat) (t : State), t.MemoryKept (State.finishFor n t) := by
    intro n
    induction n with
    | zero => exact fun t => State.MemoryKept.of_eq rfl
    | succ n ih =>
      exact fun t => (t.memoryKept_makePlace.trans (State.MemoryKept.of_eq (State.reportAction_memory _))).trans (ih _)
  exact h _ s

theorem State.memoryKept_post (s : State) (w : PostedWrite) : s.MemoryKept (s.post w) :=
  (s.memoryKept_finishRequest.trans (State.memoryKept_makePlace _)).trans (State.MemoryKept.of_eq rfl)

theorem State.memoryKept_postAll (s : State) (ws : List PostedWrite) : s.MemoryKept (s.postAll ws) := by
  induction ws generalizing s with
  | nil => exact State.MemoryKept.of_eq rfl
  | cons w ws ih => exact (s.memoryKept_post w).trans (ih (s.post w))

/-- The Report Writer going on issues no write. -/
theorem State.pumpFor_memory (n : Nat) (s : State) : (State.pumpFor n s).memory = s.memory := by
  induction n generalizing s with
  | zero => rfl
  | succ n ih =>
    unfold State.pumpFor
    split
    · rw [ih, s.reportAction_memory]
    · rfl

theorem State.pump_memory (s : State) : s.pump.memory = s.memory := State.pumpFor_memory 24 s

theorem State.memoryKept_issueAll (s : State) : s.MemoryKept s.issueAll := by
  have h : ∀ (l : List PostedWrite) (t : State), t.MemoryKept (l.foldl (fun t _ => t.issueOldest) t) := by
    intro l
    induction l with
    | nil => exact fun t => State.MemoryKept.of_eq rfl
    | cons w l ih => intro t; exact t.memoryKept_issueOldest.trans (ih _)
  exact h s.posted s

theorem State.memoryKept_hostWrote (s : State) (host : List HostWrite) : s.MemoryKept (s.hostWrote host) :=
  fun hs => Memory.wf_hostWrites hs host

theorem State.memoryKept_beforeRead (s : State) (host : List HostWrite) : s.MemoryKept (s.beforeRead host) :=
  ((s.memoryKept_finishRequest.trans (State.memoryKept_issueAll _)).trans
    (State.MemoryKept.of_eq (State.pump_memory _))).trans (State.memoryKept_hostWrote _ _)

theorem State.memoryKept_place (s : State) (d : Due) : s.MemoryKept (s.place d) :=
  State.memoryKept_postAll { s with writer := (s.writer.placed d).releaseHeld } _

theorem State.memoryKept_handPage (s : State) : s.MemoryKept s.handPage := by
  have h := State.memoryKept_postAll { s with writer := { s.writer with hold := none } } s.writer.headerWords
  unfold State.handPage
  generalize State.postAll _ s.writer.headerWords = t at h
  exact h

theorem State.memoryKept_closePage (s : State) : s.MemoryKept s.closePage := by
  intro hs
  unfold State.closePage
  rw [State.deliver_memory]
  exact s.memoryKept_handPage hs

theorem State.memoryKept_placeRecord (s : State) : s.MemoryKept s.placeRecord := by
  unfold State.placeRecord
  split
  · split
    · exact State.MemoryKept.of_eq rfl
    · split
      · exact s.memoryKept_place _
      · exact s.memoryKept_closePage
  · exact State.MemoryKept.of_eq rfl

theorem State.takeOwner_memory (s : State) : s.takeOwner.memory = s.memory := by
  unfold State.takeOwner
  split
  · rfl
  · split <;> rfl

theorem State.memoryKept_ownerRead (s : State) (host : List HostWrite) : s.MemoryKept (s.ownerRead host) := by
  unfold State.ownerRead
  split
  · exact (s.memoryKept_beforeRead host).trans (State.MemoryKept.of_eq (State.takeOwner_memory _))
  · exact s.memoryKept_hostWrote host

theorem State.memoryKept_flushFor (n : Nat) (host : List HostWrite) (s : State) :
    s.MemoryKept (State.flushFor n host s).1 := by
  induction n generalizing host s with
  | zero => exact State.MemoryKept.of_eq rfl
  | succ n ih =>
    unfold State.flushFor
    split
    · split
      · exact State.MemoryKept.of_eq rfl
      · split
        · exact (s.memoryKept_place _).trans (ih _ _)
        · exact (s.memoryKept_handPage.trans (State.memoryKept_ownerRead _ host)).trans (ih _ _)
    · exact State.MemoryKept.of_eq rfl

theorem State.memoryKept_flushActivity (s : State) (host : List HostWrite) : s.MemoryKept (s.flushActivity host) := by
  have h : s.MemoryKept ((State.flushFor s.flushActions host s).1.hostWrote (State.flushFor s.flushActions host s).2) :=
    (State.memoryKept_flushFor _ host s).trans (State.memoryKept_hostWrote _ _)
  unfold State.flushActivity
  simp only []
  split
  · exact h.trans (State.memoryKept_closePage _)
  · exact h

theorem State.memoryKept_advanceStop (s : State) : s.MemoryKept s.advanceStop := by
  have drain : s.MemoryKept s.stopDrain := by
    unfold State.stopDrain
    split
    · have h := s.memoryKept_handPage
      unfold State.endDrain
      generalize s.handPage = t at h ⊢
      intro hs
      simp only []
      split
      · exact h hs
      · exact hs
    · exact State.MemoryKept.of_eq rfl
  have report : ∀ t : State, t.stopReport.memory = t.memory := by
    intro t
    have h := State.pump_memory t.beginReport
    unfold State.stopReport
    generalize t.beginReport.pump = u at h ⊢
    simp only []
    split
    · exact h
    · rfl
  have display : ∀ t : State, t.stopDisplay.memory = t.memory := by
    intro t
    unfold State.stopDisplay
    simp only []
    split <;> rfl
  unfold State.advanceStop
  split
  · exact drain.trans (State.MemoryKept.of_eq ((display _).trans (report _)))
  · exact State.MemoryKept.of_eq rfl

/-! ### Reads after writes -/

/-- A word read back from the image after it was written there. -/
theorem State.readImage_after_issue (s : State) (w : PostedWrite) (rest : List PostedWrite)
    (h : s.posted = w :: rest) (hm : s.memory.wf = true) : s.issueOldest.readImage w.offset = w.data := by
  have hp : s.issueOldest.part = s.part := s.onImage_issueOldest.part
  unfold State.readImage State.address
  rw [s.issueOldest_memory w rest h, hp]
  exact Memory.readWord_writeWord hm _ _

end Sys2Proof.Machine
end

