-- ==== Sys2Proof/Tests/Slice0.lean ====
section
/-!
SUPPORT. Tests: an ill-formed command for each check of WellFormed, the numbers of the manual's worked examples (each test
names its example), and for each obligation with hypotheses a witness that meets them, clause by clause.
-/
-- Each test waits for the kernel; elaborated one at a time, they do not hold a thread each.
set_option Elab.async false

namespace Sys2Proof.Tests
open Sys2Proof.Machine

/-! ### Ill-formed commands -/

theorem test_host_write_off_a_word : (Instr.headerCheck [{ addr := 0x2, data := 0 }]).wellFormed = false := by decide
theorem test_register_off_a_word : (Instr.registerWrite 0x6 0).wellFormed = false := by decide
theorem test_fault_outside_image : (Instr.busFault 0x8000).wellFormed = false := by decide
theorem test_fault_off_a_word : (Instr.busFault 0x0003).wellFormed = false := by decide
theorem test_word_too_long : (Instr.meterWord 0 { len := .w16, value := 0x10000 }).wellFormed = false := by decide
theorem test_stream_word_too_long : (Instr.streamWord 0 { len := .w16, value := 0x10000 }).wellFormed = false := by decide
theorem test_position_above_travel : (Instr.followUpdate 0 4096).wellFormed = false := by decide
theorem test_join_above_travel :
    (Instr.gangJoin 0 { gang := 0, serial := 0, handovers := 0, pL := 4096 }).wellFormed = false := by decide
theorem test_entries_too_few : (Instr.gangSet 0 2 [0]).wellFormed = false := by decide
theorem test_entries_past_32 : (Instr.meterReset 40 (List.replicate 40 0)).wellFormed = false := by decide
theorem test_high_before_sync : (Instr.frameSync 0 [{ fs := true, dat := false }] false).wellFormed = false := by decide
theorem test_start_fault_past_the_setup_area :
    (Instr.startSequence { host := [], cut := some (.fault 708) }).wellFormed = false := by decide
theorem test_start_stop_past_the_stages :
    (Instr.startSequence { host := [], cut := some (.stop 17) }).wellFormed = false := by decide
theorem test_visit_write_off_a_word :
    (Instr.cellVisit { host := [{ addr := 0x2, data := 0 }], fault := none }).wellFormed = false := by decide
theorem test_no_edge : (Instr.wordComplete 0 []).wellFormed = false := by decide
theorem test_no_word_spells_a_command : decodeTableWord 32 1 = none := by decide

/-! ### Small states -/

/-- A part in service in a given state: four strips, eight channels, two pages of 64 words. -/
def part (st : PartState) : Part :=
  { Part.reset with state := st, header := { version := 1, strips := 4, channels := 8, pages := 2, pageSize := 64 } }

/-- The machine in a given part state, otherwise as at reset. -/
def inState (st : PartState) : State := { State.reset with part := part st }

/-- The machine in RUNNING with one context at S0. -/
def withStrip (x : Strip) : State := (inState .running).setStrip 0 x

/-- A calibrated strip at rest at 1000. -/
def resting : Strip := { Strip.reset with state := .idle, cal := { bottom := 40, top := 990, valid := true }, p := 1000 }

/-- The entry of the move of section 2.5's worked example. -/
def example_entry : Entry :=
  { tag := 7, target := 3000, duration := 40, priority := 5, origin := .cell, touchTime := false }

/-- The arguments of that move. -/
def example_move : MoveArgs := { tag := 7, target := 3000, duration := 40, priority := 5 }

/-- A strip held by the hand. -/
def held : Strip := { resting with state := .touched, touch := true }

/-- A strip in the move of section 2.5's worked example, after its first arrival. -/
def moving : Strip :=
  { resting with
    state := .moving, current := some example_entry, grantHeld := true
    profile := { set := true, start := 1000, dist := 2000, steps := 84, k := 1, guide := 1024 } }

/-- A strip of source LINK with its stream target at its place. -/
def linked : Strip :=
  { resting with settings := { StripSettings.defaults with source := .link }, relatch := true, relatchRef := 1000 }

/-- A writer with a page of 64 words in hand. -/
def filling (used : Nat) : Writer :=
  { Writer.reset with
    state := .filling, used := used, base := some 200, hold := some 20, pages := 2, pageSize := 64
    queue := [{ record := .touch 0 0, time := 200 }] }

/-- The state a command leaves. -/
def after (c : Instr) (s : State) : State := afterCommand s (exec c s)

/-- The header words of the part above, as the host writes them. -/
def header (version strips channels pages size : Word) : List HostWrite :=
  [{ addr := 0, data := version }, { addr := 4, data := strips }, { addr := 8, data := channels },
   { addr := 12, data := pages }, { addr := 16, data := size }]

/-! ### Chapters 1 and 2 -/

/-- The table of section 1.5, "raw code to travel units". -/
theorem test_code_to_travel :
    [30, 40, 41, 515, 989, 990, 1023].map ({ bottom := 40, top := 990, valid := true } : CalRecord).convert =
      [0, 0, 4, 2048, 4091, 4095, 4095] := by decide

/-- Section 1.5, "reported position at rest": arrivals 2 and 3. -/
theorem test_jitter : ({ resting with pRepSet := true, pRep := 2048 } : Strip).reports 2050 = false ∧
    ({ resting with pRepSet := true, pRep := 2048 } : Strip).reports 2051 = true := by decide

/-- Section 2.5, "one move": the profile N = 84, and the guides at steps 1, 2, 42, 60 and 84. -/
theorem test_profile_of_the_move : (resting.plan example_entry 500).profile.steps = 84 ∧
    [1, 2, 42, 60, 83, 84].map (resting.plan example_entry 500).profile.at = [1024, 1048, 2000, 2429, 2976, 3000] := by
  decide

/-- Section 2.5: the drive values of the move, and of the settle. -/
theorem test_drive_law : [23, 38, 300, 400, 26, 10, 2, -8].map ServoClass.defaults.drive =
    [40, 40, 225, 255, 40, 40, 0, -40] := by decide

/-- Section 2.5, "a chained entry": from the chain start 3000, 21 steps, the first at 3024. -/
theorem test_chained_profile :
    (({ resting with chainStart := some 3000 } : Strip).plan { example_entry with target := 3500, duration := 0 } 500
      ).profile.steps = 21 ∧
    (({ resting with chainStart := some 3000 } : Strip).plan { example_entry with target := 3500, duration := 0 } 500
      ).profile.at 1 = 3024 := by decide

/-- Section 2.6, "a calibration": arrivals 1 and 98, and the end of phase UP at 991 over a bottom of 38. -/
theorem test_calibration_counts :
    (({ tag := 0x31, phase := .down, newBottom := 0, anchor := none, steady := 0, count := 0 } : CalRun).countArrival
      612).anchor = some 612 ∧
    (({ tag := 0x31, phase := .down, newBottom := 0, anchor := some 38, steady := 0, count := 97 } : CalRun).countArrival
      39).steady = 1 := by decide

/-- A strip at the last steady arrival of phase UP. -/
def calibrating : Strip :=
  { resting with
    state := .calibrating
    calRun := some { tag := 0x31, phase := .up, newBottom := 38, anchor := some 991, steady := 39, count := 199 } }

theorem test_calibration_ends :
    (Ctx.calStep { id := 0, strip := calibrating, out := [] } 991).strip.cal =
      { bottom := 38, top := 991, valid := true } := by decide

/-! ### Chapter 3: a move taken -/

/-- Section 2.5: the MOVE on an IDLE strip waits with its request at priority 5. -/
theorem test_move_starts : ((after (.move 0 example_move) (withStrip resting)).strip 0).state = .waiting .move ∧
    (after (.move 0 example_move) (withStrip resting)).inFlight = [.grantRequest 0 5] := by decide +kernel

/-- R60: UNCAL is refused. -/
theorem test_move_uncal : (after (.move 0 example_move) (withStrip Strip.reset)).sweep.outcome = some .notCalibrated := by
  decide +kernel

/-- R70: bits 23..12 of a 24-bit word, 15..4 of a 16-bit word. -/
theorem test_stream_positions : streamPosition { len := .w24, value := 0xABCDEF } = 0xABC ∧
    streamPosition { len := .w16, value := 0xABCD } = 0xABC := by decide

/-! ### Chapter 4: section 4.6, "a gang across the end stops" -/

theorem test_follow_clamped_high : (({ resting with offset := 1500 } : Strip).followed 3000).followTarget = some 4095 ∧
    (({ resting with offset := 1500 } : Strip).followed 3000).v = 4500 := by decide
theorem test_follow_clamped_low : (({ resting with offset := -1000 } : Strip).followed 500).followTarget = some 0 ∧
    (({ resting with offset := -1000 } : Strip).followed 500).v = -500 := by decide

/-! ### Chapter 6: section 6.6, "pages held by the host": 63 used words, and a two-word record more -/

theorem test_page_full : ({ Writer.reset with state := .filling, used := 63, base := some 200, pageSize := 64 } : Writer).fits
    (.head { record := .touch 25 0, time := 209 } []) = false := by decide
theorem test_page_fits : ({ Writer.reset with state := .filling, used := 61, base := some 200, pageSize := 64 } : Writer).fits
    (.head { record := .touch 25 0, time := 208 } []) = true := by decide

/-! ### Chapter 8: section 8.3, "the level table"; section 8.5, "rise and decay"; section 8.7, "an over" -/

theorem test_levels_24 : [0x7FFFFF, 0x800000, 1000000, 838861, 8].map
    (fun v => wordLevel { len := .w24, value := v }) = [480, 480, 406, 400, 0] := by decide +kernel
theorem test_levels_16 : [0x7FFF, 0x8000, 1, 0].map
    (fun v => wordLevel { len := .w16, value := v }) = [479, 480, 118, 0] := by decide +kernel
theorem test_level_negative : wordLevel { len := .w24, value := BitVec.ofInt 24 (-838860) } = 399 := by decide +kernel
theorem test_rise : ((Channel.reset.word Ballistics.defaults[0] 400).m,
    ((Channel.reset.word Ballistics.defaults[0] 400).word Ballistics.defaults[0] 400).m) = (2600, 4936) := by decide
theorem test_decay : (({ Channel.reset with m := 4936, hv := 400, hold := .ms 5 } : Channel).decay
    Ballistics.defaults[0]).m = 4933 := by decide
theorem test_hold_falls : (({ Channel.reset with m := 18170, hv := 440, hold := .ms 1 } : Channel).decay
    Ballistics.defaults[1]).hv = 283 := by decide
theorem test_over_at_three : ([480, 480, 479, 480, 480, 480].foldl (fun c h => c.word Ballistics.defaults[1] h)
    Channel.reset).isOver = true ∧ ([480, 480, 479, 480, 480].foldl (fun c h => c.word Ballistics.defaults[1] h)
    Channel.reset).isOver = false := by decide

/-! ### Chapter 9: "one bar across a hold" and "a scale load with a dip" -/

theorem test_bar_at_500 : barContent false (some { Channel.reset with m := 361 * 64, hv := 440, nofeed := false })
    Bars.defaultScales[0] = { lit := 26, dot := some 35, isOver := false } := by decide +kernel
theorem test_bar_table_1 : barContent false (some { Channel.reset with m := 361 * 64, hv := 440, nofeed := false })
    Bars.defaultScales[1] = { lit := 11, dot := some 30, isOver := false } := by decide +kernel
theorem test_scale_dip : checkedScale 0 [392, 400, 396, 404, 500] = [392, 400, 400, 404, 480] := by decide

/-! ### Chapters 10 and 11 -/

/-- R178: the low 16 bits of IBASE are 0. -/
theorem test_ibase : (after (.ibaseWrite 0x12345678) State.reset).part.ibase = 0x12340000 := by decide +kernel
/-- Section 10.5: PSTAT after a refused STOP in HALTED, last refused STOP in bits 17..16. -/
theorem test_pstat : (after (.partStop []) State.reset).readRegister 0x08 = 0x20000 := by decide +kernel
/-- R180: a version that is not 1 fails first. -/
theorem test_header_version : ((after (.headerCheck (header 2 0 65 0 0)) (after .start State.reset)).part.failing) =
    some .version := by decide +kernel
/-- R203: writing the bit of a cause clears it alone. -/
theorem test_attn : ((Attention.reset.set .cell).set .state).writeAttn 0x1 = Attention.reset.set .state := by decide
/-- Section 11.4, "coalescing cells and a setting change": the fourth pending event sets the cause and adopts 2 and 0. -/
theorem test_coalescing : (Attention.event { Attention.reset with
    cell := { pending := 3, timer := some 300, threshold := 4, hold := 300, thresholdStaged := some 2, holdStaged := some 0 } }
    .cell).cell = { Coalescing.reset with threshold := 2 } := by decide
/-- Section 10.5: memory is little-endian. -/
theorem test_little_endian : (Memory.writeWord [] 0x100 0x11223344).read 0x100 = 0x44 ∧
    (Memory.writeWord [] 0x100 0x11223344).readWord 0x100 = 0x11223344 := by decide
/-- R142: the fourth complete frame locks. -/
theorem test_lock : ({ LinkRx.reset with state := .acquiring, open_ := true, slot := 8, acquired := 3 } : LinkRx).takeSync.state =
    .locked := by decide +kernel
/-- R116: twice the scan period. -/
theorem test_expiry_time : (MotorChannel.reset.write 500 (-40)).expiry = some 1000 ∧
    (MotorChannel.reset.write 500 (-40)).waiting = some (40, false) := by decide

/-! ### Witnesses: for each obligation with hypotheses, states and operands that meet them, clause by clause -/

/-- The context of S0 in `withStrip x`. -/
def at0 (x : Strip) : Strip := (withStrip x).strip 0

theorem witness_StepRunsFrontCommand : State.reset.pending = [] := rfl

theorem witness_StartBeginsCheckOrIsRefused :
    (State.reset.part.state = .halted ∧ State.reset.part.checking = false) ∧
    (inState .running).part.state ≠ .halted ∧ (after .start State.reset).part.checking = true ∧
    (inState .stopping).part.state = .stopping ∧ (inState .faulted).part.state = .faulted := by decide +kernel

/-- A part in its header check. -/
def checking : State := after .start State.reset

/-- The five header words read at the check. -/
def headerRead (h : List HostWrite) : List Nat := (List.range 5).map fun k => ((checking.beforeRead h).readImage (4 * k)).toNat

/-- The five good fields at their least values, and each field bad at a boundary. -/
theorem witness_HeaderCheckDecides :
    (checking.part.state = .halted ∧ checking.part.checking = true) ∧
    headerRead (header 1 1 0 2 64) = [1, 1, 0, 2, 64] ∧ headerRead (header 1 32 64 8 256) = [1, 32, 64, 8, 256] ∧
    headerRead (header 0 1 0 2 64) = [0, 1, 0, 2, 64] ∧ headerRead (header 1 33 0 2 64) = [1, 33, 0, 2, 64] ∧
    headerRead (header 1 1 65 2 64) = [1, 1, 65, 2, 64] ∧ headerRead (header 1 1 0 1 64) = [1, 1, 0, 1, 64] ∧
    headerRead (header 1 1 0 2 63) = [1, 1, 0, 2, 63] := by decide +kernel

/-- A part with its start sequence due. -/
def due : State := after (.headerCheck (header 1 4 8 2 64)) checking

theorem witness_StartSequenceBringsUp : due.part.sequenceDue = true ∧ due.part.header.strips = 4 := by decide +kernel

/-- A fault at the last setup word, and a STOP before the first and after the last stage. -/
theorem witness_StartSequence_cut : 2 < SetupSection.report.words ∧ ¬ (3 < SetupSection.report.words) ∧ (0 : Nat) ≤ 16 ∧
    (16 : Nat) ≤ 16 := by decide

theorem witness_StopEndsTheStripsWork : (withStrip resting).part.state = .running ∧ (at0 resting).state ≠ .off ∧
    (at0 { resting with state := .off }).state = .off := by decide +kernel

/-- R100: a STOP takes the follower target of an OFF strip too. -/
theorem test_stop_clears_an_off_strip :
    ({ resting with state := .off, followTarget := some 9, freeze := true } : Strip).rest.followTarget = none ∧
    ({ resting with state := .off, followTarget := some 9, freeze := true } : Strip).rest.state = .off := by decide

/-- A moving strip with an entry queued hands two records at a STOP, and a part at rest hands none; the writer seeks or holds a page. -/
theorem witness_Stop_records :
    (stopRecords (withStrip { moving with queue := [example_entry] })).length = 2 ∧
    stopRecords (withStrip resting) = [] ∧ stopRecords (withStrip { resting with state := .off, queue := [example_entry] }) = [] ∧
    ({ filling 3 with state := .seeking } : Writer).state = .seeking ∧ ({ filling 3 with state := .seeking } : Writer).queue ≠ [] ∧
    (filling 3).state ≠ .seeking := by decide +kernel

/-- The machine in RUNNING with S0 driving on its grant and S1 waiting for one, a lower full budget pending. -/
def sharing : State :=
  let s := (withStrip moving).setStrip 1 { resting with state := .waiting .move, current := some example_entry }
  { s with arbiter := { s.arbiter with
      grantSet := [0], waiting := [{ strip := 1, priority := 5 }], full := 1, low := 0, pendingFull := some 0 } }

theorem witness_Stop_grants : (HoldersGiveBack sharing ∧ RequestersWithdraw sharing) ∧ sharing.part.state = .running ∧
    sharing.arbiter.grantSet ≠ [] ∧ sharing.arbiter.waiting ≠ [] ∧ sharing.arbiter.pendingFull = some 0 ∧
    (withStrip resting).arbiter.pendingFull = none := by
  unfold HoldersGiveBack RequestersWithdraw
  decide +kernel

/-- R111: a STOP leaves no holder and no request. -/
theorem test_stop_ends_grants : (after (.partStop []) sharing).arbiter.grantSet = [] ∧
    (after (.partStop []) sharing).arbiter.waiting = [] := by decide +kernel

theorem witness_StopAbandonsStart : due.part.state = .starting := by decide +kernel

/-- A part at the end of its STOP sequence. -/
def stopped : State := { inState .stopping with part := { part .stopping with stop := .lastWrites } }

theorem witness_StopSequenceEndHalts :
    (stopped.part.state = .stopping ∧ stopped.part.stop = .lastWrites ∧ stopped.posted = []) ∧
    ¬ ((inState .running).part.state = .stopping) := by decide +kernel

theorem witness_RegisterWritesTakeEffect : ((0 : Word) ≠ 1 ∧ (0 : Word) ≠ 2 ∧ (0 : Word) ≠ 3) ∧
    ((0x18 : Word) ≠ 0x00 ∧ (0x18 : Word) ≠ 0x04 ∧ (0x18 : Word) ≠ 0x10 ∧ (0x18 : Word) ≠ 0x14) := by decide

/-- PSTAT in STOPPING after an image found with too many strips and a refused START, by the fields of section 10.5. -/
theorem test_pstat_fields : ({ inState .stopping with part := { part .stopping with
      startResult := .imageInvalid, failing := some .strips, refused := .start } } : State).readRegister 0x08 = 0x12303 ∧
    ({ part .halted with startResult := .imageInvalid, failing := some .pageSize } : Part).resultWord = 0x503 := by decide +kernel

theorem witness_BusFaultEntersFaulted : (inState .starting).part.state = .starting ∧ (inState .running).part.state = .running ∧
    (inState .stopping).part.state = .stopping ∧ (checking.part.state = .halted ∧ checking.part.checking = true) ∧
    (State.reset.part.state = .halted ∧
      (State.reset.post { offset := 0, data := 0, note := .plain }).posted ≠ []) := by
  decide +kernel

/-- The machine in RUNNING with its scanner at a place. -/
def scanning (c : Scanner) : State := { inState .running with scanner := c }

/-- A scanner in a round of S0 and S1. -/
def round (position : Nat) : Scanner :=
  { Scanner.reset with enabled := true, timer := some 500, round := .running, list := [0, 1], position := position }

theorem witness_ScanTimerExpiryStartsOrMisses :
    ({ Scanner.reset with timer := some 500 } : Scanner).timer ≠ none ∧ (round 0).round = .running ∧
    (round 0).timer ≠ none ∧ Scanner.reset.timer = none ∧ Scanner.reset.round = .idle := by decide

theorem witness_ReferenceCheckDecides :
    ((scanning (round 0)).scanner.enabled = true ∧ (scanning (round 0)).scanner.round = .running) ∧
    (round 0).position = 0 ∧ ((round 1).position = 1 ∧ (round 1).warm = false ∧ (round 1).list ≠ []) ∧
    (1008 ≤ ({ round 1 with refHi := 1008 } : Scanner).refHi ∧ (15 : Code).toNat ≤ 15) ∧
    ({ round 1 with list := [] } : Scanner).list = [] ∧ ({ round 1 with warm := true } : Scanner).warm = true ∧
    ¬ (1008 ≤ ({ round 1 with refHi := 1007 } : Scanner).refHi) ∧
    ({ round 1 with runCount := 14 } : Scanner).runCount + 1 ≠ 16 ∧
    ({ round 1 with runCount := 15 } : Scanner).runCount + 1 = 16 := by decide +kernel

/-- R11, R187: the sixteenth failed check in a row silences the motors and ends a strip's move without a record. -/
theorem test_scan_fault : ∃ t, exec (.conversionComplete 100) { withStrip moving with
      scanner := { round 1 with refHi := 1000, runCount := 15 } } = .next t ∧ t.part.fault = .scan ∧ t.motors.enable = false ∧
    (t.strip 0).current = none ∧ t.writer.queue = [] := ⟨_, rfl, by decide +kernel⟩

theorem witness_StripConversionDelivers :
    ((round 2).position = 0 + 2 ∧ (round 2).list[0]? = some 0 ∧ 0 + 1 < (round 2).list.length ∧ (round 2).warm = false) ∧
    ((round 3).position = 1 + 2 ∧ (round 3).list[1]? = some 1 ∧ 1 + 1 = (round 3).list.length) ∧
    ({ round 3 with warm := true } : Scanner).warm = true := by decide

theorem witness_StripConversion_header : (inState .starting).reporter.run = none ∧ (inState .starting).posted.length ≤ 5 := by
  decide

theorem witness_SampleArrivalSenses : (at0 { resting with state := .off }).state = .off ∧ (at0 resting).state ≠ .off ∧
    (at0 resting).pRepSet = false := by decide +kernel

/-- S0 of `withStrip x` as an arrival of code 515 (p = 2048) senses it. -/
def sensed0 (x : Strip) : Strip := sensed (withStrip x) 0 515

/-- A strip of source LINK, in force and staged, with its stream target at 2048. -/
def streaming (st : StripState) : Strip :=
  { resting with
    settings := { StripSettings.defaults with source := .link }, staged := { StripSettings.defaults with source := .link }
    state := st, streamTarget := some 2048 }

/-- A strip in the hand with a trail interval of 2 staged, some arrivals into it and some positions in its buffer. -/
def trailing (step positions : Nat) : Strip :=
  { resting with
    state := .touched, touch := true, staged := { StripSettings.defaults with trail := 2 }, trailStep := step
    trail := List.replicate positions 0 }

/-- At rest: the deadband is 6, so 2041 is far from 2048 and 2042 is not; the trail is sampled at the second arrival, and written
at the eighth position. -/
theorem witness_SampleArrival_rest : (sensed0 Strip.reset).state = .uncal ∧
    (sensed0 { resting with state := .waiting .move }).state.isWaiting = true ∧
    (sensed0 { resting with state := .stalled }).state = .stalled ∧
    ((sensed0 { resting with queue := [example_entry] }).state = .idle ∧
      (sensed0 { resting with queue := [example_entry] }).queue = example_entry :: [] ∧
      (sensed0 { resting with queue := [example_entry] }).current = none ∧
      (sensed0 { resting with queue := [example_entry] }).freeze = false) ∧
    ((sensed0 (streaming .idle)).state = .idle ∧ (sensed0 (streaming .idle)).queue = [] ∧
      (sensed0 (streaming .idle)).settings.source = .link ∧ (sensed0 (streaming .idle)).relatch = false ∧
      (sensed0 (streaming .idle)).servo.deadband < ((2041 : Int) - (sensed0 (streaming .idle)).p).natAbs ∧
      ¬ ((sensed0 (streaming .idle)).servo.deadband < ((2042 : Int) - (sensed0 (streaming .idle)).p).natAbs)) ∧
    ((sensed0 held).state = .touched ∧ (sensed0 held).settings.trail = 0) ∧
    (sensed0 (trailing 0 0)).trailStep + 1 < (sensed0 (trailing 0 0)).settings.trail ∧
    ((sensed0 (trailing 1 6)).settings.trail ≤ (sensed0 (trailing 1 6)).trailStep + 1 ∧
      ((sensed0 (trailing 1 6)).trail ++ [0]).length < 8 ∧ 8 ≤ ((sensed0 (trailing 1 7)).trail ++ [0]).length) := by
  decide +kernel

/-- A change of source from LINK to CELLS (R75): stream motion settles, and a wait for a stream becomes IDLE and withdraws. -/
theorem witness_SampleArrival_source :
    (adopted (withStrip { streaming .moving with staged := StripSettings.defaults }) 0).state = .settling ∧
    (adopted (withStrip { streaming (.waiting .stream) with staged := StripSettings.defaults }) 0).state = .idle ∧
    adoptionEffects (withStrip { streaming (.waiting .stream) with staged := StripSettings.defaults }) 0 = [.withdraw] ∧
    adoptionEffects (withStrip (streaming (.waiting .stream))) 0 = [] := by decide +kernel

/-- The second arrival of that move. -/
theorem witness_ServoStepDrives :
    let x := at0 moving
    x.state = .moving ∧ x.current = some example_entry ∧ x.staged = x.settings ∧
    x.servo = (withStrip moving).servoLoaded[x.settings.servoClass] ∧ x.profile.set = true ∧
    x.profile.k + 1 < x.profile.steps ∧ 0 < x.servo.limit ∧ x.role ≠ .leader := by decide +kernel

/-- The error of the example's second guide, 1048, from 2048, and of its last, 3000, pass 600, so the stall count goes up: to 400
it stalls, to 399 it does not; with a queued entry the last step chains, without one it settles. -/
theorem witness_ServoStep_moving : ((sensed0 moving).state = .moving ∧ (sensed0 moving).current = some example_entry) ∧
    (sensed0 moving).servo.stallErr < ((1048 : Int) - (sensed0 moving).p).natAbs ∧
    (sensed0 moving).servo.limit ≤ ({ moving with stallCount := 399 } : Strip).stallCount + 1 ∧
    ({ moving with stallCount := 398 } : Strip).stallCount + 1 < (sensed0 moving).servo.limit ∧
    (sensed0 moving).profile.k + 1 ≠ (sensed0 moving).profile.steps ∧
    ({ (sensed0 moving).profile with k := 83 } : Profile).k + 1 = (sensed0 moving).profile.steps ∧
    ((sensed0 { moving with queue := [example_entry] }).queue = example_entry :: [] ∧
      (sensed0 { moving with queue := [example_entry] }).freeze = false) ∧ (sensed0 moving).queue = [] := by decide +kernel

/-- Following, and in stream motion at its target: the fourth arrival at rest ends it, the third does not; a guide at 1000 is far
enough from p to count toward a stall. -/
theorem witness_ServoStep_chasing :
    ((sensed0 { resting with state := .following, followTarget := some 2000 }).state = .following ∧
      (sensed0 { resting with state := .following, followTarget := some 2000 }).followTarget = some 2000 ∧
      chased 24 2048 2000 = 2024 ∧ 0 < ServoClass.defaults.limit) ∧
    ((sensed0 (streaming .moving)).state = .moving ∧ (sensed0 (streaming .moving)).current = none ∧
      (sensed0 (streaming .moving)).streamTarget = some 2048 ∧ chased 24 (sensed0 (streaming .moving)).p 2048 = 2048) ∧
    ((sensed0 (streaming .moving)).servo.settled ≤ 3 + 1 ∧ 2 + 1 < (sensed0 (streaming .moving)).servo.settled) ∧
    ((sensed0 (streaming .moving)).servo.stallErr < ((chased 24 1000 2048 : Int) - (sensed0 (streaming .moving)).p).natAbs ∧
      (sensed0 (streaming .moving)).servo.limit ≤ 399 + 1) := by decide +kernel

/-- Settling: the counts at and below S = 4, and the settle time at and past L = 400. -/
theorem witness_ServoStep_settling : (sensed0 { moving with state := .settling }).state = .settling ∧
    (ServoClass.defaults.settled ≤ 3 + 1 ∧ 2 + 1 < ServoClass.defaults.settled) ∧
    (399 + 1 ≤ ServoClass.defaults.limit ∧ ServoClass.defaults.limit < 400 + 1) ∧
    ((sensed0 { moving with state := .settling }).queue = [] ∧
      (sensed0 { moving with state := .settling, queue := [example_entry] }).queue = example_entry :: [] ∧
      (sensed0 { moving with state := .settling, queue := [example_entry] }).freeze = false) := by decide +kernel

/-- The machine in RUNNING with the touch scan running and one strip whose touch channel stands at a count. -/
def touchScan (x : Strip) (c : TouchChannel) : State :=
  { withStrip x with touchScan := { TouchScanner.reset with timer := true, chans := TouchScanner.reset.chans.set 0 c } }

theorem witness_TouchScanDebounces :
    State.reset.touchScan.timer = false ∧ (touchScan resting { touched := false, run := 1 }).touchScan.timer = true ∧
    ¬ ((0 : StripId).val < State.reset.part.header.strips) ∧
    ((0 : StripId).val < (withStrip resting).part.header.strips ∧ (at0 resting).state ≠ .off ∧
      (at0 resting).settings.policy = .active) ∧
    (at0 { resting with settings := { StripSettings.defaults with policy := .ignore } }).settings.policy = .ignore ∧
    ((1#32).getLsbD 0 = true ∧ TouchValues.defaults.ton ≤ min 17 (1 + 1) ∧ min 17 (0 + 1) < TouchValues.defaults.ton) ∧
    ((0#32).getLsbD 0 = false ∧ TouchValues.defaults.toff ≤ min 17 (5 + 1) ∧ min 17 (4 + 1) < TouchValues.defaults.toff) ∧
    (touchScan resting { touched := true, run := 5 }).touchScan.chans[0].touched = true := by decide +kernel

theorem witness_TouchOnChangesState : (at0 { resting with state := .off }).state = .off ∧
    ((at0 resting).state ≠ .off ∧ (at0 resting).gang = none) ∧
    ((at0 calibrating).state = .calibrating ∧ (at0 calibrating).calRun ≠ none) ∧ (at0 moving).state.driving = true ∧
    (at0 { resting with state := .waiting .move }).state.isWaiting = true := by decide +kernel

/-- A calibration under way, one that waits for its grant, and, which no run reaches, a state of calibration without a run. -/
theorem witness_TouchOn_calibration : ((at0 calibrating).state = .calibrating ∧
      (at0 calibrating).calRun = some { tag := 0x31, phase := .up, newBottom := 38, anchor := some 991, steady := 39, count := 199 }) ∧
    ((at0 { calibrating with state := .waiting .calibrate }).state = .waiting .calibrate ∧
      (at0 { calibrating with state := .waiting .calibrate }).calRun ≠ none) ∧
    (at0 { calibrating with calRun := none }).calRun = none := by decide +kernel

/-- R50: a touch-on in CALIBRATING cuts the run, and the record is no longer valid. -/
theorem test_touch_cuts_a_calibration : ((after (.touchOn 0) (withStrip calibrating)).strip 0).cut = 1 ∧
    ((after (.touchOn 0) (withStrip calibrating)).strip 0).cal.valid = false := by decide +kernel

/-- The machine in RUNNING with gang 2 of S0 and S1, S0 with a context of its own. -/
def ganged (x : Strip) (a : Option Activity) : State :=
  ((withStrip { x with gang := some 2 }).setStrip 1 { resting with gang := some 2 }).setGang 2
    { members := [0, 1], activity := a, serial := 1 }

/-- Activity of that gang led by S0. -/
def led : Activity := { leader := 0, pL := 1000, handovers := 0 }

/-- The machine in RUNNING with gang 2 of S0, which leads under a hand, and of S1 with a context of its own. -/
def led2 (y : Strip) : State :=
  (ganged { held with role := .leader } (some led)).setStrip 1 { y with gang := some 2 }

theorem witness_TouchOnStartsGangActivity : ((ganged resting none).strip 0).gang = some 2 ∧
    ((ganged resting none).gang 2).activity = none ∧ ((ganged resting none).strip 0).state = .idle ∧
    ((ganged moving none).strip 0).state = .moving := by decide +kernel

/-- A touch-on in a gang with activity: a member that enters, one that follows, and the leader. -/
theorem witness_TouchOn_trims :
    (((led2 resting).strip 1).gang = some 2 ∧ ((led2 resting).gang 2).activity = some led ∧ led.leader ≠ 1 ∧
      ((led2 resting).strip 1).state = .idle) ∧
    (((led2 resting).strip 1).role = .outside ∧ ((led2 resting).strip 1).freeze = false) ∧
    ¬ (((led2 { moving with role := .follower, freeze := true }).strip 1).role = .outside) ∧
    (((led2 resting).strip 0).gang = some 2 ∧ led.leader = 0) := by decide +kernel

theorem witness_TouchOffReleases : (at0 resting).touch = false ∧
    ((at0 { held with state := .uncal }).touch = true ∧ (at0 { held with state := .uncal }).state = .uncal) ∧
    ((at0 held).touch = true ∧ (at0 held).state = .touched ∧ (at0 held).role = .outside ∧ (at0 held).queue = [] ∧
      (at0 held).settings.release = .stay) ∧
    (at0 { held with settings := { StripSettings.defaults with release := .return } }).settings.release = .return ∧
    (at0 held).current = none ∧ (at0 { held with current := some example_entry }).current = some example_entry := by
  decide +kernel

/-- Releases in a gang with activity: of the leader without and with a trimming member, and of a trimming member; and releases
with entries queued, in both release modes. -/
theorem witness_TouchOff_gang :
    (((led2 resting).strip 0).touch = true ∧ ((led2 resting).strip 0).state = .touched ∧
      ((led2 resting).strip 0).role = .leader ∧ trimmers (led2 resting) 2 = []) ∧
    (trimmers (led2 { held with role := .trimming }) 2 = 1 :: [] ∧
      ((led2 { held with role := .trimming }).strip 1).role = .trimming ∧
      ((led2 { held with role := .trimming }).strip 1).touch = true ∧
      ((led2 { held with role := .trimming }).strip 1).state = .touched) ∧
    ((at0 { held with queue := [example_entry] }).queue ≠ [] ∧ (at0 { held with queue := [example_entry] }).role = .outside) ∧
    ((at0 { held with role := .follower }).role = .follower) := by decide +kernel

/-- A join to S1 by the gang's present activity, led by S0. -/
def join : JoinArgs := { gang := 2, serial := 1, handovers := 0, pL := 1000 }

theorem witness_GangJoinMakesFollower :
    (((ganged held (some led)).gang 2).activity ≠ none ∧ ((ganged held (some led)).gang 2).serial = join.serial ∧
      ((ganged held (some led)).strip 1).role = .outside ∧ ((ganged held (some led)).strip 1).state = .idle) ∧
    ((ganged held none).gang 2).activity = none ∧ ((ganged moving (some led)).strip 0).state = .moving := by decide +kernel

/-- A follower. -/
def follower (st : StripState) : Strip := { resting with state := st, role := .follower, followTarget := some 2000 }

theorem witness_FollowersFollowUntilTheEnd : (at0 (follower .following)).role = .follower ∧ (at0 resting).role ≠ .follower ∧
    ((at0 (follower .following)).state = .following ∧ (at0 (follower .following)).followTarget = some 2000) ∧
    ((at0 (follower (.waiting .follow))).state = .waiting .follow ∧ (at0 (follower (.waiting .follow))).queue = []) := by
  decide +kernel

/-- The leader's arrival, and an end event at a follower that waits with an entry queued. -/
theorem witness_Followers_leader : ((led2 resting).strip 0).state ≠ .off ∧ ((led2 resting).strip 0).role = .leader ∧
    ((led2 resting).strip 0).gang = some 2 ∧ ((led2 resting).gang 2).activity = some led ∧
    ((at0 { follower (.waiting .follow) with queue := [example_entry] }).queue = example_entry :: [] ∧
      (at0 { follower (.waiting .follow) with queue := [example_entry] }).current = none) := by decide +kernel

/-- A former follower that a hand has touched. -/
theorem witness_Followers_touched : (at0 (follower .touched)).role = .follower ∧ (at0 (follower .touched)).state ≠ .following ∧
    (at0 (follower .touched)).state ≠ .waiting .follow := by decide +kernel

/-- A former follower released before its end event: IDLE, its queue frozen with an entry in it. -/
def parted : Strip := { follower .idle with freeze := true, queue := [example_entry] }

theorem witness_Followers_idle : (at0 parted).role = .follower ∧ (at0 parted).state = .idle ∧ (at0 parted).queue ≠ [] ∧
    (at0 parted).current = none ∧ (at0 (follower .idle)).queue = [] := by decide +kernel

/-- R59: the end event that clears its freeze flag starts its queued entry. -/
theorem test_end_event_starts : ((after (.gangEnd 0) (withStrip parted)).strip 0).state = .waiting .move ∧
    ((after (.gangEnd 0) (withStrip parted)).strip 0).current = some example_entry := by decide +kernel

theorem witness_GangSetReplacesMembers : min 32 (1 : Word).toNat = 1 ∧ min 32 (2 : Word).toNat ≠ 1 ∧
    ¬ ([0, 0] : List StripId).Nodup ∧ ([0, 1] : List StripId).Nodup ∧ ((ganged held (some led)).gang 2).activity ≠ none ∧
    ((ganged held none).gang 3).activity = none ∧
    (((ganged held none).strip 0).gang ≠ none ∧ ((ganged held none).strip 0).gang ≠ some 3) ∧
    ((ganged held none).strip 2).gang = none := by decide +kernel

theorem witness_GangSet_twice : ¬ ([0, 1, 0] : List StripId).Nodup ∧ 2 ≤ ([0, 1, 0] : List StripId).count 0 ∧
    ¬ (2 ≤ ([0, 1, 0] : List StripId).count 1) := by decide

theorem witness_MoveRefusalOrder : (withStrip resting).part.header.strips ≤ (4 : StripId).val ∧
    (at0 Strip.reset).state = .uncal ∧ (at0 { resting with state := .stalled }).state = .stalled ∧
    (at0 { resting with settings := { StripSettings.defaults with source := .link } }).settings.source = .link ∧
    8 ≤ (at0 { resting with queue := List.replicate 8 example_entry }).queue.length ∧
    (¬ ((withStrip resting).part.header.strips ≤ (0 : StripId).val) ∧ (at0 resting).state = .idle ∧
      (at0 resting).settings.source = .cells ∧ (at0 resting).queue.length < 8) := by decide +kernel

theorem witness_MoveQueuesOrStarts : (0 : StripId).val < (withStrip resting).part.header.strips ∧
    ((at0 resting).state = .idle ∧ (at0 resting).current = none ∧ (at0 resting).freeze = false ∧ (at0 resting).queue = []) ∧
    ((at0 { moving with queue := List.replicate 7 example_entry }).state = .moving ∧
      (at0 { moving with queue := List.replicate 7 example_entry }).queue.length < 8) ∧
    (at0 moving).settings.source = .cells := by decide +kernel

/-- An IDLE strip that has an entry queued and none current, in source CELLS and in source LINK. -/
theorem witness_Move_idle_queued :
    ((at0 { resting with queue := [example_entry] }).state = .idle ∧ (at0 { resting with queue := [example_entry] }).current = none ∧
      (at0 { resting with queue := [example_entry] }).freeze = false ∧
      (at0 { resting with queue := [example_entry] }).queue = example_entry :: []) ∧
    ((at0 { linked with queue := [example_entry], relatch := false }).settings.source = .link ∧
      (at0 { linked with queue := [example_entry], relatch := false }).relatch = false ∧
      (at0 { linked with queue := [example_entry], relatch := false }).queue = example_entry :: [] ∧
      (at0 { linked with queue := [example_entry], relatch := false }).current = none) := by decide +kernel

theorem witness_JumpReplacesEntries : (0 : StripId).val < (withStrip moving).part.header.strips ∧ (at0 resting).state = .idle ∧
    (at0 moving).state = .moving ∧ (at0 { moving with state := .settling }).state = .settling ∧ (at0 held).state = .touched ∧
    (at0 held).settings.source = .cells := by decide +kernel

theorem witness_Jump_following : (at0 (follower .following)).state = .following ∧
    (at0 (follower (.waiting .follow))).state = .waiting .follow ∧ (at0 (follower .following)).settings.source = .cells ∧
    (at0 { resting with state := .waiting .move }).state = .waiting .move := by decide +kernel

theorem witness_StopEndsMotion : (withStrip resting).part.header.strips ≤ (4 : StripId).val ∧
    (¬ ((withStrip moving).part.header.strips ≤ (0 : StripId).val) ∧ (at0 moving).state = .moving) ∧
    (at0 calibrating).state = .calibrating ∧ (at0 { resting with state := .waiting .move }).state.isWaiting = true ∧
    ((at0 (follower .following)).state = .following ∧ (at0 (follower .following)).role = .follower) ∧
    (at0 { resting with streamTarget := some 3, settings := { StripSettings.defaults with source := .link } }).streamTarget =
      some 3 ∧ (at0 resting).streamTarget = none := by decide +kernel

theorem witness_StopEndsMotion_waiting : (at0 { calibrating with state := .waiting .calibrate }).state = .waiting .calibrate ∧
    (at0 { resting with state := .waiting .stream }).state = .waiting .stream ∧
    (at0 (follower (.waiting .follow))).state = .waiting .follow ∧ (at0 { moving with state := .settling }).state = .settling ∧
    (at0 held).state = .touched ∧ (at0 Strip.reset).state = .uncal ∧
    ((at0 { calibrating with queue := [example_entry] }).cal.valid = true ∧
      (at0 { calibrating with queue := [example_entry] }).queue ≠ []) := by decide +kernel

theorem witness_CalibrateBeginsRun : (at0 resting).role ≠ .leader ∧ (at0 { resting with state := .off }).state = .off ∧
    (at0 calibrating).state = .calibrating ∧ ((at0 resting).touch = false ∧ (at0 resting).state = .idle) ∧
    ((at0 { resting with state := .waiting .move }).state.isWaiting = true) ∧ (at0 moving).state = .moving ∧
    (at0 held).touch = true ∧ ¬ ((withStrip held).part.header.strips ≤ (0 : StripId).val) := by decide +kernel

/-- A hand on a strip at rest in UNCAL, a trimming member, a following one, and a TOUCHED strip with its touch flag clear. -/
theorem witness_Calibrate_touched : ((at0 { Strip.reset with touch := true }).touch = true ∧
      (at0 { Strip.reset with touch := true }).state = .uncal) ∧
    ((at0 { held with role := .trimming }).touch = true ∧ (at0 { held with role := .trimming }).role ≠ .leader) ∧
    ((at0 (follower .following)).touch = false ∧ (at0 (follower .following)).role ≠ .leader) ∧
    ((at0 { held with touch := false }).state = .touched ∧ (at0 { held with touch := false }).touch = false) ∧
    (at0 { resting with state := .waiting .stream }).state = .waiting .stream := by decide +kernel

/-- CALIBRATE at a leader under a hand, with and without a trimming member. -/
theorem witness_Calibrate_leader : ((led2 resting).strip 0).role = .leader ∧ ((led2 resting).strip 0).gang = some 2 ∧
    ((led2 resting).gang 2).activity = some led ∧ ¬ ((led2 resting).part.header.strips ≤ (0 : StripId).val) ∧
    ((led2 resting).strip 0).touch = true ∧ ((led2 resting).strip 0).state = .touched ∧
    trimmers (led2 { held with role := .trimming }) 2 = [1] := by decide +kernel

/-- A calibrating strip as an arrival of a code senses it. -/
def calSensed (r : CalRun) (code : Code) : Strip := sensed (withStrip { calibrating with calRun := some r }) 0 code

/-- A run in a phase, its anchor at 990. -/
def calRun (phase : CalPhase) (bottom steady count : Nat) : CalRun :=
  { tag := 0x31, phase := phase, newBottom := bottom, anchor := some 990, steady := steady, count := count }

/-- Code 991 is steady about 990 and 992 is not: the fortieth steady arrival ends a phase, 478 up to 990 spans 512 codes and
479 does not, and the 4000th arrival that is not steady is a failure. -/
theorem witness_Calibrate_arrivals : (calSensed (calRun .up 478 39 99) 991).state = .calibrating ∧
    (calSensed (calRun .up 478 39 99) 991).calRun = some (calRun .up 478 39 99) ∧
    (¬ (1 < ((991 : Int) - 990).natAbs) ∧ 1 < ((992 : Int) - 990).natAbs) ∧ 40 ≤ (calRun .up 478 39 99).steady + 1 ∧
    (calRun .up 478 38 99).steady + 1 < 40 ∧ (calRun .down 0 39 99).phase = .down ∧
    ((calRun .up 479 39 99).newBottom + 512 ≤ 991 ∧ 991 < (calRun .up 480 39 99).newBottom + 512) ∧
    (4000 ≤ (calRun .up 478 0 3999).count + 1 ∧ (calRun .up 478 0 3998).count + 1 < 4000) := by decide +kernel

/-- Spans of 511 and of 512 codes. -/
theorem witness_SetCalReplacesRecord : (at0 { resting with state := .off }).state = .off ∧ (at0 calibrating).state = .calibrating ∧
    (at0 resting).state = .idle ∧ min 1023 (611 : Half).toNat < min 1023 (100 : Half).toNat + 512 ∧
    min 1023 (100 : Half).toNat + 512 ≤ min 1023 (612 : Half).toNat ∧
    ((at0 Strip.reset).state = .uncal ∧ (at0 Strip.reset).touch = false) := by decide +kernel

theorem witness_StallAndServiceCommands : (withStrip resting).part.header.strips ≤ (4 : StripId).val ∧
    (0 : StripId).val < (withStrip resting).part.header.strips ∧ (at0 resting).state ≠ .stalled ∧
    ((at0 { resting with state := .stalled }).state = .stalled ∧ (at0 { resting with state := .stalled }).queue = []) ∧
    (at0 { resting with state := .off }).state = .off ∧ ((at0 moving).state ≠ .off ∧ (at0 moving).role ≠ .leader) ∧
    ((at0 { resting with state := .stalled, queue := [example_entry] }).queue ≠ [] ∧
      (at0 { resting with state := .stalled, queue := [example_entry] }).touch = false) := by
  decide +kernel

/-- R22, R53: a strip set OFF while touched and ON again before the next touch scan is read from UNTOUCHED with counter 0. -/
theorem test_strip_on_forgets_touch :
    (after (.stripOn 0) (after (.stripOff 0) (touchScan held { touched := true, run := 3 }))).touchScan.chans[0] =
      { touched := false, run := 0 } ∧
    (after (.stripOff 0) (touchScan held { touched := true, run := 3 })).touchScan.chans[0] = { touched := true, run := 3 } := by
  decide +kernel

/-- STRIP_OFF at a leader, with and without a trimming member. -/
theorem witness_StripOff_leader : (0 : StripId).val < (led2 resting).part.header.strips ∧
    ((led2 resting).strip 0).state ≠ .off ∧ ((led2 resting).strip 0).role = .leader ∧
    ((led2 resting).strip 0).gang = some 2 ∧ ((led2 resting).gang 2).activity = some led ∧
    trimmers (led2 resting) 2 = [] ∧ trimmers (led2 { held with role := .trimming }) 2 = [1] := by decide +kernel

theorem witness_SceneTakesEntriesInOrder : (0 : Word) = 0 ∧ (1 : Word) ≠ 0 := by decide

/-- The deadband is 6: 1005 is held, 1006 is not, and from p = 1000 only 1007 is far. -/
theorem witness_StreamWordSetsTarget : (at0 resting).settings.source = .cells ∧ (at0 linked).settings.source = .link ∧
    ((at0 linked).relatch = true ∧ ((1005 : Int) - (at0 linked).relatchRef).natAbs < (at0 linked).servo.deadband ∧
      ¬ (((1006 : Int) - (at0 linked).relatchRef).natAbs < (at0 linked).servo.deadband)) ∧
    ((at0 linked).state = .idle ∧ (at0 linked).queue = [] ∧
      ¬ ((at0 linked).servo.deadband < ((1006 : Int) - (at0 linked).p).natAbs) ∧
      (at0 linked).servo.deadband < ((1007 : Int) - (at0 linked).p).natAbs) := by decide +kernel

theorem witness_GrantEventsDecide : (0 : StripId) ∈ ({ Arbiter.reset with grantSet := [0] } : Arbiter).grantSet ∧
    (0 : StripId) ∉ Arbiter.reset.grantSet := by decide

theorem witness_GrantStartsMotion : (at0 { resting with state := .waiting .move }).state = .waiting .move ∧
    (at0 { resting with state := .waiting .stream }).state = .waiting .stream ∧
    (at0 (follower (.waiting .follow))).state = .waiting .follow ∧
    ((at0 { calibrating with state := .waiting .calibrate }).state = .waiting .calibrate ∧
      (at0 { calibrating with state := .waiting .calibrate }).calRun = calibrating.calRun) ∧
    (at0 resting).state.isWaiting = false := by decide +kernel

theorem witness_SupplyEvents : ((inState .running).part.state ≠ .halted ∧ (inState .running).part.state ≠ .faulted ∧
      (inState .running).arbiter.supply = .ok) ∧
    ({ Arbiter.reset with supply := .low, recovery := some 50 } : Arbiter).supply = .low ∧
    ¬ (State.reset.part.state ≠ .halted) ∧ ({ Arbiter.reset with supply := .low, recovery := some 50 } : Arbiter).recovery ≠ none ∧
    State.reset.arbiter.recovery = none := by decide +kernel

theorem witness_OutputsProduceDuty : (MotorChannel.reset.write 500 40).waiting = some (40, true) ∧
    MotorChannel.reset.waiting = none ∧ (MotorChannel.reset.write 500 40).expiry ≠ none ∧ MotorChannel.reset.expiry = none := by
  decide

theorem witness_PlacementWritesOrCloses :
    (Writer.reset.state ≠ .filling ∧ Writer.reset.queue = [] ∧ Writer.reset.lost = 0) ∧
    ((filling 62).state = .filling ∧ (filling 62).lost = 0 ∧ (filling 62).held = [] ∧ (filling 62).used + 2 ≤ 64) ∧
    ({ filling 62 with lost := 3 } : Writer).lost ≠ 0 ∧ ¬ ((filling 63).used + 2 ≤ (filling 63).pageSize) := by decide

/-- The machine in STOPPING at a phase of the STOP sequence, with a writer. -/
def stoppingAt (phase : StopPhase) (w : Writer) : State :=
  { inState .stopping with part := { part .stopping with stop := phase }, writer := w }

/-- The last record of the drain at a page with room: once it is placed the drain ends, the page is handed over and the final report
begins, its first two records filling the queue; with a record held, or one still queued, the drain goes on. -/
theorem witness_Placement_stop : (stoppingAt .drain (filling 3)).part.state = .stopping ∧
    (stopGoesOn (stoppingAt .drain { filling 3 with queue := [] })).part.stop = .report ∧
    (stopGoesOn (stoppingAt .drain { filling 3 with queue := [] })).writer.state = .stopped ∧
    (stopGoesOn (stoppingAt .drain { filling 3 with queue := [] })).posted.length = 8 ∧
    (stopGoesOn (stoppingAt .drain { filling 3 with queue := [], held := (filling 3).queue })).part.stop = .drain ∧
    (stopGoesOn (stoppingAt .drain (filling 3))).part.stop = .drain ∧
    (heldJoins { filling 3 with held := (filling 3).queue }).held = [] := by decide +kernel

theorem witness_PagesAreSoughtAndHeld : (inState .running).part.state ≠ .stopping ∧ (inState .stopping).part.state = .stopping ∧
    ({ Writer.reset with deadSeek := true } : Writer).deadSeek = true ∧
    (({ filling 3 with state := .seeking } : Writer).state = .seeking ∧ ({ filling 3 with state := .seeking } : Writer).deadSeek =
      false ∧ ({ filling 3 with state := .seeking } : Writer).queue ≠ []) ∧
    (((inState .running).beforeRead [{ addr := 0x2800, data := 0xFFFFFF01 }]).readImage 0x2800).toNat % 256 = 1 ∧
    ¬ (((inState .running).beforeRead []).readImage 0x2800).toNat % 256 = 1 ∧ (filling 3).state ≠ .seeking ∧
    (filling 3).hold ≠ none ∧ Writer.reset.hold = none ∧ Writer.reset.queue = [] := by decide +kernel

theorem witness_ActivityQueueTakesRecords : Writer.reset.queue.length < 16 ∧
    16 ≤ ({ Writer.reset with queue := List.replicate 16 { record := .touch 0 0, time := 0 } } : Writer).queue.length ∧
    ((filling 3).state = .filling ∧ (filling 3).held = []) := by decide

/-- A STOP sequence that hands its records while its writer seeks, the page in memory with an owner. -/
def handingAt (owner : Word) : State :=
  { inState .stopping with
    part := { part .stopping with stop := .handing }, memory := Memory.writeWord [] 0x2800 owner
    writer := { filling 3 with state := .seeking } }

/-- The owner FZ gives the page, CP does not; with no seek of its own (a dead one) and outside the handing none is read. A TRAIL
record holds 1 to 8 positions. -/
theorem witness_ActivityQueue_stop : (handingAt 1).part.state = .stopping ∧ (handingAt 1).part.stop = .handing ∧
    (handingAt 1).writer.state = .seeking ∧ (handingAt 1).writer.deadSeek = false ∧
    ((handingAt 0xFFFFFF01).readImage 0x2800).toNat % 256 = 1 ∧ ¬ (((handingAt 0x100).readImage 0x2800).toNat % 256 = 1) ∧
    stopped.part.stop ≠ .handing ∧ ({ Writer.reset with deadSeek := true } : Writer).deadSeek = true ∧
    ((filling 3).state = .filling ∧ ({ filling 3 with held := (filling 3).queue } : Writer).held ≠ []) ∧
    ([0] : List Nat).length ≤ 8 ∧ (List.replicate 8 0).length ≤ 8 ∧ (65535 : Nat) ≤ 65535 := by decide +kernel

theorem witness_FlushClosesThePage : Writer.reset.state ≠ .filling ∧ (Writer.reset.queue = [] ∧ Writer.reset.lost = 0 ∧
    Writer.reset.base = none) ∧ (({ filling 3 with queue := [] } : Writer).state = .filling ∧
      ({ filling 3 with queue := [] } : Writer).base = some 200) := by decide

/-- A machine in RUNNING with a writer. -/
def flushing (w : Writer) : State := { inState .running with writer := w }

/-- One record queued at a page with two words left, which is placed, and at one with a word left, which closes the page: the
owner of the next one is read. -/
theorem witness_Flush_places : ((filling 62).state = .filling ∧ (filling 62).held = [] ∧ 64 ≤ (filling 62).pageSize ∧
      (∀ q ∈ (filling 62).queue, q.record.length ≤ 5) ∧ 0 < (filling 62).queue.length) ∧
    (∀ n : Fin 2, (placements n (flushing (filling 62))).writer.state = .filling) ∧
    ((placements 0 (flushing (filling 63))).writer.state = .filling ∧ 0 < (filling 63).queue.length ∧
      (placements 1 (flushing (filling 63))).writer.state = .seeking) := by decide +kernel

/-- The machine in RUNNING with one receiver at L0 and the input busy. -/
def linkAt (l : LinkRx) : State :=
  { inState .running with
    links := (inState .running).links.set 0 l
    input := { service := some { route := .meter 0, word := { len := .w24, value := 0 } }, last := 0 } }

/-- A receiver in a frame of eight slots. -/
def receiving (st : LinkState) (slot bits : Nat) : LinkRx :=
  { LinkRx.reset with
    state := st, open_ := true, slot := slot, lastFs := false, timeout := some 5, map := Vector.replicate 32 (.meter 0)
    assembly := List.replicate bits true }

theorem witness_FrameSyncJudgesFrames : (linkAt (receiving .locked 8 0)).input.service ≠ none ∧
    (linkAt LinkRx.reset).links[0].state = .off ∧
    ((linkAt (receiving .locked 8 0)).links[0].state = .locked ∧ (linkAt (receiving .locked 8 0)).links[0].lastFs = false) ∧
    (linkAt (receiving .acquiring 7 0)).links[0].state = .acquiring ∧ (linkAt (receiving .lost 0 0)).links[0].state = .lost ∧
    (LinkRx.reset.settings.sync = .word) ∧ LinkRx.reset.lastFs = true ∧ ({ LinkRx.reset.settings with sync := .bit } : LinkSettings).sync = .bit := by
  decide +kernel

/-- The fourth complete frame locks, the third does not; a LOCKED link adopts another map, or its own. -/
theorem witness_FrameSync_feeds : (8 ≤ (receiving .acquiring 8 0).slot ∧ (receiving .acquiring 8 0).open_ = true ∧
      4 ≤ ({ receiving .acquiring 8 0 with acquired := 3 } : LinkRx).acquired + 1 ∧
      ¬ (4 ≤ ({ receiving .acquiring 8 0 with acquired := 2 } : LinkRx).acquired + 1)) ∧
    (receiving .locked 8 0).map ≠ LinkRx.reset.map ∧ (receiving .locked 8 0).staged = none ∧
    ((inState .running).links[0].queue = [] ∧ (inState .running).links[1].queue = []) := by decide +kernel

theorem witness_LinkBitsMakeWords : (linkAt (receiving .locked 7 23)).input.service ≠ none ∧ (receiving .off 0 0).state = .off ∧
    (receiving .lost 0 0).state = .lost ∧ ((receiving .locked 7 23).open_ = true ∧
      (receiving .locked 7 23).settings.len.bits ≤ (receiving .locked 7 23).assembly.length + 1 ∧
      ¬ ((receiving .locked 7 22).settings.len.bits ≤ (receiving .locked 7 22).assembly.length + 1)) ∧
    ((receiving .locked 8 23).settings.slots ≤ (receiving .locked 8 23).slot ∧
      (receiving .locked 7 23).slot < (receiving .locked 7 23).settings.slots) ∧
    (receiving .locked 7 23).map[(receiving .locked 7 23).slot]?.getD .null ≠ .null ∧ (receiving .locked 7 23).queue.length < 8 ∧
    8 ≤ ({ receiving .locked 7 23 with queue := List.replicate 8 { route := .meter 0, word := { len := .w24, value := 0 } } } :
      LinkRx).queue.length := by decide +kernel

/-- R148: the word that a free input finds routed is in service at once, and its queue is empty. -/
theorem test_free_input_serves : (inState .running).input.service = none ∧
    (after (.wordComplete 0 [{ fs := false, dat := true }])
      { inState .running with links := State.reset.links.set 0 (receiving .locked 7 23) }).input.service =
        some { route := .meter 0, word := { len := .w24, value := 0xFFFFFF } } := by decide +kernel

theorem witness_TimeoutAndServiceEnd : LinkRx.reset.timeout = none ∧
    ((receiving .locked 0 0).timeout ≠ none ∧ (receiving .locked 0 0).state = .locked) ∧
    (receiving .acquiring 0 0).state ≠ .locked ∧ State.reset.input.service = none ∧
    (linkAt LinkRx.reset).input.service = some { route := .meter 0, word := { len := .w24, value := 0 } } ∧
    ((linkAt LinkRx.reset).links[0].queue = [] ∧ (linkAt LinkRx.reset).links[1].queue = []) ∧
    ((1 : LinkId) ≠ 0 ∧ (linkAt { receiving .locked 0 0 with queue :=
      [{ route := .meter 0, word := { len := .w24, value := 0 } }] }).links[0].queue ≠ []) := by decide +kernel

/-- Channel 0 is below eight channels and channel 8 is not; level 480 is at the over level and 479 below it. -/
theorem witness_MeterWordRises : ((inState .running).meters.chans[0].enable = true ∧
      (0 : ChanId).val < (inState .running).part.header.channels) ∧
    ¬ ((8 : ChanId).val < (inState .running).part.header.channels) ∧
    (Channel.reset.hv < wordLevel { len := .w24, value := 0x7FFFFF }) ∧
    (wordLevel { len := .w24, value := 0 } ≤ Channel.reset.hv) ∧
    (Ballistics.defaults[0].overLevel ≤ wordLevel { len := .w24, value := 0x7FFFFF } ∧ Ballistics.defaults[0].overCount ≤
      min 16 (2 + 1)) ∧ ¬ (Ballistics.defaults[0].overLevel ≤ wordLevel { len := .w16, value := 0x7FFF }) := by decide +kernel

/-- R158: the two values without a positive counterpart take the magnitude 8388607; the 16-bit scale is 256 times coarser. -/
theorem test_magnitudes : [0x800000, 0x800001, 0xFFFFFF, 5].map (fun v => wordMagnitude { len := .w24, value := v }) =
      [8388607, 8388607, 1, 5] ∧
    [0x8000, 0xFFFF, 0x7FFF].map (fun v => wordMagnitude { len := .w16, value := v }) = [8388607, 256, 8388352] := by decide

theorem witness_MetersDecayAndReset : State.reset.meters.decay = false ∧
    ({ Meters.reset with decay := true } : Meters).decay = true ∧ (inState .running).meters.chans[0].enable = true ∧
    (0 : ChanId).val < (inState .running).part.header.channels ∧ ¬ ((8 : ChanId).val < (inState .running).part.header.channels) ∧
    Channel.reset.hold = .ms 0 ∧ Channel.reset.overTime = .stopped ∧ holdFor 65535 = .infinite ∧ holdFor 2 = .ms (0 + 2) ∧
    overFor 1 = .ms 1 ∧ overFor 2 = .ms (0 + 2) := by decide +kernel

theorem witness_BarPhasesScan : Bars.reset.phase = none ∧ (Bars.reset.beginPhase 0).phase = some 0 ∧ (1 : Fin 8).val = (0 : Fin 8).val + 1 ∧
    (Bars.reset.beginPhase 7).phase = some 7 ∧ Bars.reset.force.lampTest = false ∧
    (Bars.reset.force.map[0].chan = some 0 ∧ Channel.reset.nofeed = true) := by decide +kernel

theorem witness_SetupLoadsAndCounterClear : (0 : Word) = 0 ∧ (1 : Word) ≠ 0 ∧ (0xFFFFF000 : Word) &&& 0xFFF#32 = 0 ∧
    (0xF800 : Word) &&& 0xFFF#32 = 0x800#32 ∧ (0x008 : Word) &&& 0xFFF#32 = 0x008#32 ∧
    (0x020 : Word) &&& 0xFFF#32 = 0x020#32 := by decide

/-- Every section alone is a mask; an empty setup area holds STRIP in range and DRIVE out of it; a REPORT section read to its last
word. -/
theorem witness_SetupLoad_sections :
    (∀ x ∈ SetupSection.all, (0xFFFFF000#32 ||| 1#32 <<< x.bit) &&& 0xFFF#32 = 1#32 <<< x.bit) ∧
    (∀ i : StripId, setupValue State.reset 0x0880 (7 * i.val + 4) ≤ 255 ∧ setupValue State.reset 0x0880 (7 * i.val + 6) ≤ 15) ∧
    setupDrive State.reset ≠ setupValue State.reset 0x11D0 0 ∧
    ((0x800#32).getLsbD SetupSection.report.bit = true ∧ 2 < SetupSection.report.words) ∧
    ((0x800#32).getLsbD SetupSection.drive.bit = false) := by decide +kernel

/-- LINK loads: enabled and not, at a link that is OFF, ACQUIRING and LOCKED. -/
theorem witness_SetupLoad_link :
    (setupLink ((linkAt (receiving .locked 0 0)).beforeRead [{ addr := 0x1200, data := 1 }]) 0).enable = true ∧
    (setupLink ((linkAt (receiving .locked 0 0)).beforeRead []) 0).enable = false ∧
    (linkAt (receiving .locked 0 0)).links[0].state = .locked ∧ (linkAt LinkRx.reset).links[0].state = .off ∧
    (linkAt (receiving .acquiring 0 0)).links[0].state ≠ .off ∧ (linkAt (receiving .acquiring 0 0)).links[1].state = .off := by
  decide +kernel

/-- Masks of several sections, with LINK and ATTN among them, and faults after both. -/
theorem witness_SetupLoad_masks : (0xFFF#32).getLsbD SetupSection.link.bit = true ∧
    (0xFFF#32).getLsbD SetupSection.attn.bit = true ∧ (0x9FF#32).getLsbD SetupSection.link.bit = false ∧
    (0xFFF#32).getLsbD SetupSection.report.bit = true ∧ 9 < SetupSection.report.bit ∧
    ((linkAt (receiving .locked 0 0)).links[0].state = .locked ∧
      (setupLink ((linkAt (receiving .locked 0 0)).beforeRead []) 0).enable = false) := by decide +kernel

/-- The head of a STOP cell, and of a cell of no kind. -/
def head (kind : Word) : List Word := [1, kind, 0, 0, 0, 0, 0, 0]

theorem witness_SweepVisitsCells : State.reset.sweep.timer = none ∧ State.reset.sweep.pass = none ∧
    ({ Sweep.reset with timer := some 1000, pass := some 35 } : Sweep).timer ≠ none ∧
    ({ Sweep.reset with timer := some 1000, pass := some 35 } : Sweep).pass = some 35 ∧
    ([].getD 0 (0 : Word)).toNat % 256 ≠ 1 ∧ (((head 9).getD 0 0).toNat % 256 = 1 ∧ cellCommand 35 (head 9) [] = none) ∧
    cellCommand 4 (head 3) [] = some (.stop 0) := by decide +kernel

/-- The machine in RUNNING in a pass at a cell, with its head. -/
def visiting (k : Nat) (head : List Word) : State :=
  { inState .running with sweep := { Sweep.reset with timer := some 1000, pass := some k, readAhead := head } }

/-- A cell in hand with a command that completes, with one that reads words of its own, and with none; faults at the next head's
last word, at the first and the last entry word, and in the command's own reads. -/
theorem witness_Sweep_visits : (visiting 4 (head 3)).part.state = .running ∧ ((head 3).getD 0 0).toNat % 256 = 1 ∧
    ¬ (((0 : Word) :: []).getD 0 0).toNat % 256 = 1 ∧
    (∃ t, exec (.stop 0) (visiting 4 (head 3)) = .next t) ∧
    (4 : Nat) < 35 ∧ (7 : Nat) < 8 ∧ entriesRead [1, 18, 0, 0, 0, 0, 0, 1] = 1 ∧
    cellCommand 0 [1, 18, 0, 0, 0, 0, 0, 1] [0x800] = some (.setupLoad 1 0x800 { host := [], fault := none }) ∧
    cellCommand 0 [1, 20, 0, 0, 0, 0, 0, 0] [] = some (.activityFlush { host := [], fault := none }) :=
  ⟨by decide +kernel, by decide, by decide, ⟨_, rfl⟩, by decide, by decide, by decide, by decide +kernel, by decide +kernel⟩

theorem witness_PostedWritesReachMemory : (State.reset.memory.wf = true ∧ State.reset.reporter.run = none) ∧
    State.reset.posted = [] ∧
    (checking.postAll [{ offset := 0, data := 1, note := .plain }]).posted = [{ offset := 0, data := 1, note := .plain }] ∧
    8 ≤ (List.replicate 8 ({ offset := 0, data := 0, note := .plain } : PostedWrite)).length := by decide +kernel

/-- A machine in RUNNING with eight writes queued, the oldest of a kind, and a report being written. -/
def posting (n : WriteNote) (run : ReportRun) : State :=
  { inState .running with
    posted := { offset := 0x40, data := 0, note := n } :: List.replicate 7 { offset := 0, data := 0, note := .plain }
    reporter := { Reporter.reset with run := some run } }

/-- A returned cell's owner and a report's last word at the head of the queue; a record with words in hand, one whose next record is
due, the last one before word 9, and a report of which only its last word is to be written. -/
theorem witness_PostedWrites_reports :
    ((posting .cellOwner { bank := .b, next := 100, words := [] }).posted.head?.map (·.note) = some .cellOwner ∧
      (posting .reportEnd { bank := .b, next := 100, words := [] }).posted.head?.map (·.note) = some .reportEnd ∧
      (posting .reportEnd { bank := .b, next := 100, words := [] }).posted.tail.length = 7 ∧
      (posting .reportEnd { bank := .b, next := 100, words := [] }).reporter.run = some { bank := .b, next := 100, words := [] } ∧
      (posting .reportEnd { bank := .b, next := 100, words := [] }).memory.wf = true) ∧
    (∀ q ∈ (posting .plain { bank := .b, next := 3, words := [] }).posted, q.note ≠ .reportEnd) ∧
    (({ bank := .b, next := 3, words := [{ offset := 4, data := 0, note := .plain }] } : ReportRun).words =
      { offset := 4, data := 0, note := .plain } :: []) ∧
    (98 : Nat) < 99 ∧ ({ bank := .b, next := 99, words := [] } : ReportRun).next = 99 := by decide +kernel

/-- In STOPPING: the end of a report lets the final one begin, and the end of that one stops the display. -/
theorem witness_PostedWrites_stop :
    (stopGoesOn (stoppingAt .awaitReport Writer.reset)).part.stop = .report ∧
    (stopGoesOn (stoppingAt .report Writer.reset)).part.stop = .lastWrites ∧
    (stopGoesOn { stoppingAt .report Writer.reset with reporter := (posting .plain { bank := .b, next := 3, words := [] }).reporter
      }).part.stop = .report := by decide +kernel

theorem witness_ReportTimerHoldTimersAndTime : State.reset.reporter.timer = none ∧
    (({ Reporter.reset with timer := some 10 } : Reporter).timer ≠ none ∧ ({ Reporter.reset with timer := some 10 } :
      Reporter).run = none) ∧ (({ Reporter.reset with run := some { bank := .b, next := 0, words := [] } } : Reporter).run =
      some { bank := .b, next := 0, words := [] }) ∧ State.reset.attention.cell.timer = none ∧
    ({ Coalescing.reset with timer := some 300 } : Coalescing).timer ≠ none ∧ (inState .running).part.state = .running ∧
    State.reset.part.state = .halted := by decide +kernel

/-- Events without coalescing, at a threshold met and not met, and under a hold time alone; three places for a report's first record,
and five for its first two. -/
theorem witness_Report_coalesces : (Coalescing.reset.threshold = 0 ∧ Coalescing.reset.hold = 0) ∧
    (({ Coalescing.reset with threshold := 4, pending := 3 } : Coalescing).threshold ≤ min 255 (3 + 1) ∧
      min 255 (2 + 1) < ({ Coalescing.reset with threshold := 4, pending := 2 } : Coalescing).threshold) ∧
    ({ Coalescing.reset with hold := 300 } : Coalescing).hold ≠ 0 ∧ (8 - 4 ≤ 4 ∧ ¬ (8 - 3 ≤ 4)) := by decide

/-- The machine with START waiting: it meets every law, and its step answers a next state. -/
def waiting : State := { State.reset with pending := [.start] }

theorem witness_law_step : step waiting = .next checking := by rfl
theorem witness_MemoryStaysCanonical : waiting.MemoryOk := by unfold State.MemoryOk; decide
theorem witness_QueuesStayBounded : waiting.QueuesOk :=
  ⟨by decide, by decide, by decide +kernel, by decide +kernel, by decide, by decide, by decide⟩
theorem witness_MetersStayLawful : waiting.MetersOk := by
  refine ⟨fun c => ?_, by decide +kernel⟩
  have h : waiting.meters.chans[c] = Channel.reset := Vector.getElem_replicate c.isLt
  rw [h]
  exact ⟨by decide, by decide, by decide, by decide⟩
theorem witness_GrantsStayBounded : waiting.GrantsOk := ⟨by decide, by decide, by decide, fun _ h => by cases h⟩
theorem witness_PositionsStayLawful : waiting.PositionsOk := by
  intro i
  have h : waiting.strip i = Strip.reset := Vector.getElem_replicate i.isLt
  rw [h]
  exact ⟨by decide, by decide, by decide, by decide, by decide⟩
theorem witness_MotorsAreEnabledInRunningAlone : waiting.ControlOk :=
  ⟨by decide, by decide, by decide, by decide, by decide, by decide, by decide⟩
theorem witness_PagesNeverOverflow : waiting.PagesOk := ⟨by decide, by decide, by decide, fun h => by cases h⟩
theorem witness_ReportBanksAlternate : waiting.ControlOk ∧ waiting.ReportOk :=
  ⟨witness_MotorsAreEnabledInRunningAlone,
   ⟨fun _ h => (by cases h), fun _ h => (by cases h), fun _ h => (by cases h), fun _ => rfl, fun _ => rfl⟩⟩

end Sys2Proof.Tests
end

section
/-!
SUPPORT. Events and commands taken at one strip's context, the start check (R59), and with them the two rules of a
strip's motion settled here: SET_CAL (R51) and a grant taken (R31).
-/
namespace Sys2Proof.Machine

/-! ### An event or a command taken at a context -/

/-- The context an event or a command finds at a strip: its fields as they stand and no effect yet. -/
def State.contextAt (s : State) (i : StripId) : Ctx := { id := i, strip := s.strip i, out := [] }

@[simp] theorem State.contextAt_id (s : State) (i : StripId) : (s.contextAt i).id = i := rfl
@[simp] theorem State.contextAt_strip (s : State) (i : StripId) : (s.contextAt i).strip = s.strip i := rfl
@[simp] theorem State.contextAt_out (s : State) (i : StripId) : (s.contextAt i).out = [] := rfl

@[simp] theorem State.setStrip_strip (s : State) (i : StripId) : s.setStrip i (s.strip i) = s := by
  simp [State.setStrip, State.strip]

@[simp] theorem State.effects_nil (s : State) (i : StripId) : s.effects i [] = s := rfl

theorem State.runStrip_of_eq {s : State} {i : StripId} {f : Ctx → Ctx} {d : Ctx} (h : f (s.contextAt i) = d) :
    s.runStrip i f = (s.setStrip i d.strip).effects i d.out := by
  subst h; rfl

theorem State.runCommand_of_eq {s : State} {i : StripId} {f : Ctx → Ctx × Outcome} {d : Ctx} {o : Outcome}
    (h : f (s.contextAt i) = (d, o)) :
    s.runCommand i f = ((s.setStrip i d.strip).effects i d.out).answer o 0 := by
  have hd : (f (s.contextAt i)).1 = d := congrArg Prod.fst h
  have ho : (f (s.contextAt i)).2 = o := congrArg Prod.snd h
  rw [State.runCommand_eq, State.runStrip_of_eq hd, ← ho]
  rfl

/-- A command that its context refuses changes the Cell Sweep's answer and nothing else. -/
theorem State.runCommand_of_refused {s : State} {i : StripId} {f : Ctx → Ctx × Outcome} {o : Outcome}
    (h : f (s.contextAt i) = (s.contextAt i, o)) : s.runCommand i f = s.answer o 0 := by
  rw [State.runCommand_of_eq h]
  simp

/-! ### Facts the rules test -/

theorem Strip.calibrationStands_iff (x : Strip) :
    x.calibrationStands = true ↔ x.state = .calibrating ∨ x.state = .waiting .calibrate := by
  simp [Strip.calibrationStands]

theorem CalRecord.convert_eq_travelOf (c : CalRecord) (r : Nat) : c.convert r = travelOf c r := rfl

/-! ### The start check (R59) -/

theorem Ctx.startRule_of_ne_idle {c : Ctx} (h : c.strip.state ≠ .idle) : c.startRule = c := by
  unfold Ctx.startRule
  split
  · rfl
  · rw [if_neg fun k => h k.1]

theorem Ctx.startRule_of_idle {c : Ctx} (h : c.strip.state = .idle) :
    c.startRule = { c with strip := (startChecked c.strip).1, out := c.out ++ (startChecked c.strip).2 } := by
  unfold Ctx.startRule startChecked
  cases c.strip.queue with
  | nil => simp
  | cons e rest =>
    by_cases hk : c.strip.current = none ∧ c.strip.freeze = false
    · simp [h, hk, Ctx.await, Ctx.emit, Ctx.update]
    · simp [h, hk]

/-! ### SET_CAL (R51) -/

/-- The record SET_CAL asks for: its codes, taken into 1023, and valid. -/
def askedRecord (bottom top : Half) : CalRecord :=
  { bottom := min 1023 bottom.toNat, top := min 1023 top.toNat, valid := true }

/-- A strip with its record replaced: v follows the record, and UNCAL is left for IDLE, or for TOUCHED under a hand. -/
def Strip.recalibrated (x : Strip) (cal : CalRecord) : Strip :=
  { x with
    cal := cal, v := travelOf cal x.r
    state := if x.state = .uncal then (if x.touch then .touched else .idle) else x.state }

/-- The replaced strip after the start check that leaving UNCAL for IDLE brings, with that check's effects. -/
def Strip.recalibratedChecked (x : Strip) (cal : CalRecord) : Strip × List Effect :=
  if x.state = .uncal ∧ x.touch = false then startChecked (x.recalibrated cal) else (x.recalibrated cal, [])

theorem Strip.recalibrated_state_of_uncal {x : Strip} (cal : CalRecord) (h : x.state = .uncal) :
    (x.recalibrated cal).state = if x.touch then .touched else .idle := by
  simp [Strip.recalibrated, h]

section
variable {n : Nat} {c : Ctx} (bottom top : Half)

theorem Ctx.setCal_of_off (off : n ≤ c.id.val ∨ c.strip.state = .off) : c.setCal n bottom top = (c, .stripOff) := by
  simp [Ctx.setCal, off]

theorem Ctx.setCal_of_stands (on : ¬ (n ≤ c.id.val ∨ c.strip.state = .off)) (stands : c.strip.calibrationStands = true) :
    c.setCal n bottom top = (c, .notCalibrated) := by
  simp [Ctx.setCal, on, stands]

theorem Ctx.setCal_of_short (on : ¬ (n ≤ c.id.val ∨ c.strip.state = .off)) (free : ¬ c.strip.calibrationStands = true)
    (short : (askedRecord bottom top).top < (askedRecord bottom top).bottom + 512) :
    c.setCal n bottom top = (c, .calSpan) := by
  have short' : takenCode top < takenCode bottom + Config.leastSpan := short
  simp [Ctx.setCal, on, free, short']

/-- An accepted SET_CAL before what the start check makes of it. -/
theorem Ctx.setCal_of_accepted (on : ¬ (n ≤ c.id.val ∨ c.strip.state = .off)) (free : ¬ c.strip.calibrationStands = true)
    (long : (askedRecord bottom top).bottom + 512 ≤ (askedRecord bottom top).top) :
    c.setCal n bottom top =
      (if c.strip.state = .uncal then (c.update (·.recalibrated (askedRecord bottom top))).startRule
        else c.update (·.recalibrated (askedRecord bottom top)),
       acceptedOutcome (1023 < bottom.toNat || 1023 < top.toNat)) := by
  have long' : ¬ takenCode top < takenCode bottom + Config.leastSpan := Nat.not_lt.mpr long
  unfold Ctx.setCal
  simp only [if_neg on, if_neg free, if_neg long', CalRecord.convert_eq_travelOf]
  rfl

end

/-- Leaving UNCAL the start rule makes the start check in IDLE and does nothing in TOUCHED; no other state calls it. -/
theorem Ctx.recalibrated_startRule (c : Ctx) (cal : CalRecord) :
    (if c.strip.state = .uncal then (c.update (·.recalibrated cal)).startRule else c.update (·.recalibrated cal)) =
      { c with strip := (c.strip.recalibratedChecked cal).1, out := c.out ++ (c.strip.recalibratedChecked cal).2 } := by
  by_cases uncal : c.strip.state = .uncal
  · have state := Strip.recalibrated_state_of_uncal cal uncal
    rw [if_pos uncal]
    cases touch : c.strip.touch with
    | true =>
      have held : (c.update (·.recalibrated cal)).strip.state ≠ .idle := by simp [Ctx.update, state, touch]
      rw [Ctx.startRule_of_ne_idle held]
      simp [Strip.recalibratedChecked, touch, Ctx.update]
    | false =>
      have idle : (c.update (·.recalibrated cal)).strip.state = .idle := by simp [Ctx.update, state, touch]
      rw [Ctx.startRule_of_idle idle]
      simp [Strip.recalibratedChecked, uncal, touch, Ctx.update]
  · simp [uncal, Strip.recalibratedChecked, Ctx.update]

theorem acceptedOutcome_or (p q : Prop) [Decidable p] [Decidable q] :
    acceptedOutcome (decide p || decide q) = if p ∨ q then .clamped else .done := by
  simp [acceptedOutcome]

/-- A refused SET_CAL changes the Cell Sweep's answer and nothing else. -/
theorem exec_setCal_of_refused {s : State} {i : StripId} {bottom top : Half} {o : Outcome}
    (h : (s.contextAt i).setCal s.stripCount bottom top = (s.contextAt i, o)) :
    exec (.setCal i bottom top) s = .next (s.answer o 0) :=
  congrArg Host.Outcome.next (State.runCommand_of_refused h)

/-- An accepted SET_CAL leaves the replaced strip, then has the start check's effects, then answers. -/
theorem exec_setCal_of_accepted {s : State} {i : StripId} {bottom top : Half}
    (on : ¬ (s.stripCount ≤ i.val ∨ (s.strip i).state = .off)) (free : ¬ (s.strip i).calibrationStands = true)
    (long : (askedRecord bottom top).bottom + 512 ≤ (askedRecord bottom top).top) :
    let r := (s.strip i).recalibratedChecked (askedRecord bottom top)
    exec (.setCal i bottom top) s = .next (((s.setStrip i r.1).effects i r.2).answer
      (if 1023 < bottom.toNat ∨ 1023 < top.toNat then .clamped else .done) 0) := by
  have accepted := Ctx.setCal_of_accepted (c := s.contextAt i) bottom top on free long
  rw [Ctx.recalibrated_startRule, acceptedOutcome_or] at accepted
  exact congrArg Host.Outcome.next (State.runCommand_of_eq accepted)

/-- Settles O30: the refusals in R51's order, each leaving the context as it was, then the replaced record. -/
theorem setCalReplacesRecord : Obligations.SetCalReplacesRecord := by
  intro s i bottom top
  simp only [← Strip.calibrationStands_iff]
  exact ⟨fun off => exec_setCal_of_refused (Ctx.setCal_of_off bottom top off),
    fun on stands => exec_setCal_of_refused (Ctx.setCal_of_stands bottom top on stands),
    fun on free short => exec_setCal_of_refused (Ctx.setCal_of_short bottom top on free short),
    fun on free long => exec_setCal_of_accepted on free long⟩

/-! ### A grant taken (R31) -/

/-- The state a motion of a purpose starts in. -/
def Purpose.startState : Purpose → StripState
  | .move | .stream => .moving
  | .calibrate => .calibrating
  | .follow => .following

/-- A calibration run at the start of phase DOWN. -/
def CalRun.restarted (run : CalRun) : CalRun := { run with phase := .down, anchor := none, steady := 0, count := 0 }

/-- A strip whose motion starts by its purpose: the grant held, the counts and the profile's set flag cleared, and the
calibration run restarted where the purpose is CALIBRATE. -/
def Strip.motionStarted (x : Strip) (purpose : Purpose) : Strip :=
  { x with
    state := purpose.startState, grantHeld := true, settleCount := 0, settleTime := 0, stallCount := 0
    profile := { x.profile with set := false }
    calRun := if purpose = .calibrate then x.calRun.map CalRun.restarted else x.calRun }

theorem Ctx.granted_of_waiting {c : Ctx} {purpose : Purpose} (h : c.strip.state = .waiting purpose) :
    c.granted = c.update (·.motionStarted purpose) := by
  unfold Ctx.granted
  rw [h]
  cases purpose <;> rfl

theorem exec_grant (s : State) (i : StripId) :
    exec (.grant i) s = .next ((s.take (.grant i)).runStrip i Ctx.granted) := rfl

/-- A grant taken in WAITING changes the strip's context, and beside it only the note of the event. -/
theorem exec_grant_of_waiting {s : State} {i : StripId} {purpose : Purpose} (h : (s.strip i).state = .waiting purpose) :
    exec (.grant i) s = .next ((s.take (.grant i)).setStrip i ((s.strip i).motionStarted purpose)) := by
  have granted := Ctx.granted_of_waiting (c := (s.take (.grant i)).contextAt i) h
  rw [exec_grant, State.runStrip_of_eq granted]
  rfl

/-- A grant taken in any other state goes back to the arbiter. -/
theorem exec_grant_of_not_waiting {s : State} {i : StripId} (h : (s.strip i).state.isWaiting = false) :
    exec (.grant i) s = .next ((s.take (.grant i)).deliver (.grantReturn i)) :=
  congrArg Host.Outcome.next (State.runStrip_granted (s := s.take (.grant i)) h)

/-- Settles O35: the four purposes of WAITING, then every other state, where the grant goes back. -/
theorem grantStartsMotion : Obligations.GrantStartsMotion := by
  intro s i
  refine ⟨?moves, fun follow => exec_grant_of_waiting follow, ?calibrates, exec_grant_of_not_waiting⟩
  case moves =>
    rintro (move | stream)
    · exact exec_grant_of_waiting move
    · exact exec_grant_of_waiting stream
  case calibrates =>
    intro run calibrate hrun
    rw [exec_grant_of_waiting calibrate, Strip.motionStarted, hrun]
    rfl

end Sys2Proof.Machine
end

section
/-!
SUPPORT. The checks of MOVE, JUMP and a SCENE entry (R60, R67), and a stream word taken at a strip (R70 to R72), with the two
statements settled by them.
-/
namespace Sys2Proof.Machine

/-! ### The checks of R60, each under the negation of those before it -/

section
variable {x : Strip} {i : StripId} {n : Nat} {isMove : Bool}

theorem Strip.refusal_of_off (off : n ≤ i.val ∨ x.state = .off) : x.refusal i n isMove = some .stripOff := by
  rw [Strip.refusal, if_pos off]

theorem Strip.refusal_of_uncal (on : ¬ (n ≤ i.val ∨ x.state = .off))
    (uncal : x.state = .uncal ∨ x.calibrationStands = true) : x.refusal i n isMove = some .notCalibrated := by
  rw [Strip.refusal, if_neg on, if_pos uncal]

theorem Strip.refusal_of_stalled (on : ¬ (n ≤ i.val ∨ x.state = .off))
    (cal : ¬ (x.state = .uncal ∨ x.calibrationStands = true)) (stalled : x.state = .stalled) :
    x.refusal i n isMove = some .stalled := by
  rw [Strip.refusal, if_neg on, if_neg cal, if_pos stalled]

theorem Strip.refusal_of_link (on : ¬ (n ≤ i.val ∨ x.state = .off))
    (cal : ¬ (x.state = .uncal ∨ x.calibrationStands = true)) (works : ¬ x.state = .stalled)
    (link : x.settings.source = .link) : x.refusal i n isMove = some .wrongSource := by
  rw [Strip.refusal, if_neg on, if_neg cal, if_neg works, if_pos link]

/-- Past the first four checks only a MOVE with a full Move Queue is refused. -/
theorem Strip.refusal_of_cells (on : ¬ (n ≤ i.val ∨ x.state = .off))
    (cal : ¬ (x.state = .uncal ∨ x.calibrationStands = true)) (works : ¬ x.state = .stalled)
    (cells : ¬ x.settings.source = .link) :
    x.refusal i n isMove = if isMove ∧ 8 ≤ x.queue.length then some .queueFull else none := by
  rw [Strip.refusal, if_neg on, if_neg cal, if_neg works, if_neg cells]
  rfl

end

/-! ### A MOVE or a JUMP at its strip's context -/

/-- What MOVE, JUMP and a SCENE entry do at their strip's context. -/
def moveOrJump (jump : Bool) (n : Nat) (a : MoveArgs) (origin : Origin) : Ctx → Ctx × Outcome :=
  if jump then Ctx.jump n a origin else Ctx.move n a origin

theorem exec_move (s : State) (i : StripId) (a : MoveArgs) :
    exec (.move i a) s = .next (s.runCommand i (moveOrJump false s.stripCount a .cell)) := rfl

theorem exec_jump (s : State) (i : StripId) (a : MoveArgs) :
    exec (.jump i a) s = .next (s.runCommand i (moveOrJump true s.stripCount a .cell)) := rfl

theorem exec_sceneEntry (s : State) (i : StripId) (jump : Bool) (a : MoveArgs) :
    exec (.sceneEntry i jump a) s = .next (s.runCommand i (moveOrJump jump s.stripCount a .scene)) := rfl

section
variable {jump : Bool} {n : Nat} {a : MoveArgs} {origin : Origin}

theorem Ctx.move_of_refused {c : Ctx} {o : Outcome} (refused : c.strip.refusal c.id n true = some o) :
    c.move n a origin = (c, o) := by
  rw [Ctx.move, refused]

theorem Ctx.jump_of_refused {c : Ctx} {o : Outcome} (refused : c.strip.refusal c.id n false = some o) :
    c.jump n a origin = (c, o) := by
  rw [Ctx.jump, refused]

theorem Ctx.move_of_admitted {c : Ctx} (admitted : c.strip.refusal c.id n true = none) :
    c.move n a origin = (c.placeMove (c.strip.newEntry a origin), acceptedOutcome (moveClamped a)) := by
  rw [Ctx.move, admitted]

theorem Ctx.jump_of_admitted {c : Ctx} (admitted : c.strip.refusal c.id n false = none) :
    c.jump n a origin = (c.flush.placeJump (c.strip.newEntry a origin), acceptedOutcome (moveClamped a)) := by
  rw [Ctx.jump, admitted]

theorem moveOrJump_of_refused {c : Ctx} {o : Outcome} (refused : c.strip.refusal c.id n (!jump) = some o) :
    moveOrJump jump n a origin c = (c, o) := by
  cases jump with
  | false => exact Ctx.move_of_refused refused
  | true => exact Ctx.jump_of_refused refused

theorem moveOrJump_outcome_of_admitted {c : Ctx} (admitted : c.strip.refusal c.id n (!jump) = none) :
    (moveOrJump jump n a origin c).2 = acceptedOutcome (moveClamped a) := by
  cases jump with
  | false => exact congrArg Prod.snd (Ctx.move_of_admitted admitted)
  | true => exact congrArg Prod.snd (Ctx.jump_of_admitted admitted)

theorem State.runCommand_moveOrJump_of_refused {s : State} {i : StripId} {o : Outcome}
    (refused : (s.strip i).refusal i s.stripCount (!jump) = some o) :
    s.runCommand i (moveOrJump jump s.stripCount a origin) = s.answer o 0 :=
  State.runCommand_of_refused (moveOrJump_of_refused refused)

theorem acceptedOutcome_moveClamped (a : MoveArgs) :
    acceptedOutcome (moveClamped a) = if 4095 < a.target.toNat ∨ 16383 < a.duration.toNat then .clamped else .done :=
  acceptedOutcome_or _ _

theorem State.runCommand_moveOrJump_outcome {s : State} {i : StripId}
    (admitted : (s.strip i).refusal i s.stripCount (!jump) = none) :
    (s.runCommand i (moveOrJump jump s.stripCount a origin)).sweep.outcome =
      some (if 4095 < a.target.toNat ∨ 16383 < a.duration.toNat then .clamped else .done) := by
  have outcome := moveOrJump_outcome_of_admitted (c := s.contextAt i) (a := a) (origin := origin) admitted
  rw [acceptedOutcome_moveClamped] at outcome
  exact congrArg some outcome

end

/-- Settles O25: the first check that applies, the same for a MOVE and a JUMP but for the full queue, and past the checks the
outcome of an accepted command. -/
theorem moveRefusalOrder : Obligations.MoveRefusalOrder := by
  intro s i a jump o
  simp only [← Strip.calibrationStands_iff]
  refine ⟨fun checks => ?refused, fun on cal works cells full => ?full, fun on cal works cells => ?accepted⟩
  case refused =>
    have refused : ∀ isMove, (s.strip i).refusal i s.stripCount isMove = some o := by
      intro isMove
      obtain ⟨rfl, off⟩ | ⟨rfl, on, uncal⟩ | ⟨rfl, on, cal, stalled⟩ | ⟨rfl, on, cal, works, link⟩ := checks
      · exact Strip.refusal_of_off off
      · exact Strip.refusal_of_uncal on uncal
      · exact Strip.refusal_of_stalled on cal stalled
      · exact Strip.refusal_of_link on cal works link
    have answers : ∀ jump origin, s.runCommand i (moveOrJump jump s.stripCount a origin) = s.answer o 0 :=
      fun _ _ => State.runCommand_moveOrJump_of_refused (refused _)
    simp only [exec_move, exec_jump, exec_sceneEntry, answers, and_self]
  case full =>
    have refused : (s.strip i).refusal i s.stripCount (!false) = some .queueFull :=
      (Strip.refusal_of_cells on cal works cells).trans (if_pos ⟨rfl, full⟩)
    exact ⟨congrArg Host.Outcome.next (State.runCommand_moveOrJump_of_refused refused),
      congrArg Host.Outcome.next (State.runCommand_moveOrJump_of_refused refused)⟩
  case accepted =>
    have jumps : (s.strip i).refusal i s.stripCount (!true) = none :=
      (Strip.refusal_of_cells on cal works cells).trans (if_neg fun full => Bool.false_ne_true full.1)
    refine ⟨⟨_, exec_jump s i a, State.runCommand_moveOrJump_outcome jumps⟩,
      ⟨_, exec_sceneEntry s i true a, State.runCommand_moveOrJump_outcome jumps⟩, fun room => ?_⟩
    have moves : (s.strip i).refusal i s.stripCount (!false) = none :=
      (Strip.refusal_of_cells on cal works cells).trans (if_neg fun full => Nat.not_lt.mpr full.2 room)
    exact ⟨⟨_, exec_move s i a, State.runCommand_moveOrJump_outcome moves⟩,
      ⟨_, exec_sceneEntry s i false a, State.runCommand_moveOrJump_outcome moves⟩⟩

/-! ### The start check with nothing to start, and with an entry (R59) -/

theorem Ctx.startRule_of_rests {c : Ctx}
    (rests : c.strip.queue = [] ∨ c.strip.current ≠ none ∨ c.strip.freeze = true) : c.startRule = c := by
  unfold Ctx.startRule
  cases queue : c.strip.queue with
  | nil => rfl
  | cons e rest =>
    have stays : ¬ (c.strip.state = .idle ∧ c.strip.current = none ∧ c.strip.freeze = false) := by
      rintro ⟨-, free, thawed⟩
      simp [queue, free, thawed] at rests
    exact if_neg stays

/-- A strip whose first queued entry `e` has started, `rest` left in the queue. -/
def Strip.started (x : Strip) (e : Entry) (rest : List Entry) : Strip :=
  { x with queue := rest, current := some e, restart := false, state := .waiting .move }

theorem Ctx.startRule_of_queued {c : Ctx} {e : Entry} {rest : List Entry} (idle : c.strip.state = .idle)
    (queue : c.strip.queue = e :: rest) (free : c.strip.current = none) (thawed : c.strip.freeze = false) :
    c.startRule = (c.update (·.started e rest)).emit (.request e.priority) := by
  simp only [Ctx.startRule, queue, if_pos (And.intro idle (And.intro free thawed))]
  rfl

/-! ### The stream test (R72) -/

theorem Ctx.streamTest_of_ne_idle {c : Ctx} (busy : c.strip.state ≠ .idle) : c.streamTest = c := by
  unfold Ctx.streamTest
  split
  · rfl
  · exact if_neg fun test => busy test.1

theorem Ctx.streamTest_of_near {c : Ctx} {t : Nat} (target : c.strip.streamTarget = some t)
    (near : ¬ c.strip.servo.deadband < ((t : Int) - c.strip.p).natAbs) : c.streamTest = c := by
  simp only [Ctx.streamTest, target]
  exact if_neg fun ⟨_, _, _, far⟩ => near far

theorem Ctx.streamTest_of_far {c : Ctx} {t : Nat} (idle : c.strip.state = .idle) (link : c.strip.settings.source = .link)
    (free : c.strip.relatch = false) (target : c.strip.streamTarget = some t)
    (far : c.strip.servo.deadband < ((t : Int) - c.strip.p).natAbs) :
    c.streamTest = c.await .stream c.strip.settings.priority := by
  simp only [Ctx.streamTest, target]
  exact if_pos ⟨idle, link, free, far⟩

/-! ### A stream word at a context (R70, R71) -/

/-- A position `t` held off by the relatch flag (R71): it lies within less than the deadband of the reference. -/
def Strip.holdsOff (x : Strip) (t : Nat) : Prop :=
  x.relatch = true ∧ ((t : Int) - x.relatchRef).natAbs < x.servo.deadband

/-- A strip that has taken `t` as its stream target, its relatch flag clear. -/
def Strip.retargeted (x : Strip) (t : Nat) : Strip := { x with streamTarget := some t, relatch := false }

theorem Strip.retargeted_of_clear {x : Strip} (t : Nat) (clear : x.relatch = false) :
    x.retargeted t = { x with streamTarget := some t } := by
  rw [Strip.retargeted, ← clear]

/-- The start check and the stream test leave a strip outside IDLE alone, so that asking for IDLE first changes nothing. -/
theorem Ctx.newTarget_eq (c : Ctx) (t : Nat) :
    c.newTarget t = (c.update fun x => { x with streamTarget := some t }).startRule.streamTest := by
  unfold Ctx.newTarget
  by_cases idle : (c.update fun x => { x with streamTarget := some t }).strip.state = .idle
  · exact if_pos idle
  · rw [Ctx.startRule_of_ne_idle idle, Ctx.streamTest_of_ne_idle idle]
    exact if_neg idle

theorem Ctx.streamWord_of_discarded {c : Ctx} {t : Nat} (discarded : c.strip.settings.source = .cells ∨ c.strip.holdsOff t) :
    c.streamWord t = c := by
  unfold Ctx.streamWord
  by_cases cells : c.strip.settings.source = .cells
  · exact if_pos cells
  · obtain ⟨flag, close⟩ := discarded.resolve_left cells
    rw [if_neg cells, if_pos flag, if_pos close]

theorem Ctx.streamWord_of_taken {c : Ctx} {t : Nat} (link : c.strip.settings.source = .link) (taken : ¬ c.strip.holdsOff t) :
    c.streamWord t = (c.update (·.retargeted t)).startRule.streamTest := by
  have fed : ¬ c.strip.settings.source = .cells := by simp [link]
  rw [Ctx.streamWord, if_neg fed, Ctx.newTarget_eq, Ctx.newTarget_eq]
  cases flag : c.strip.relatch with
  | true => exact (if_pos rfl).trans (if_neg fun close => taken ⟨flag, close⟩)
  | false =>
    have same : c.update (·.retargeted t) = c.update fun x => { x with streamTarget := some t } := by
      simp only [Ctx.update, Strip.retargeted_of_clear t flag]
    rw [same]
    exact if_neg Bool.false_ne_true

/-! ### STREAM_WORD on the state -/

/-- The context of a strip that has taken a stream word as its target, before the start check. -/
def State.retargetedAt (s : State) (i : StripId) (w : LinkWord) : Ctx :=
  ((s.take (.streamWord i w)).contextAt i).update (·.retargeted (streamPosition w))

section
variable {s : State} {i : StripId} {w : LinkWord}

theorem exec_streamWord_of_eq {d : Ctx}
    (taken : ((s.take (.streamWord i w)).contextAt i).streamWord (streamPosition w) = d) :
    exec (.streamWord i w) s = .next (((s.take (.streamWord i w)).setStrip i d.strip).effects i d.out) :=
  congrArg Host.Outcome.next (State.runStrip_of_eq taken)

theorem exec_streamWord_of_discarded
    (discarded : (s.strip i).settings.source = .cells ∨ (s.strip i).holdsOff (streamPosition w)) :
    exec (.streamWord i w) s = .next (s.take (.streamWord i w)) := by
  rw [exec_streamWord_of_eq (Ctx.streamWord_of_discarded discarded)]
  exact congrArg Host.Outcome.next (State.setStrip_strip _ i)

variable (link : (s.strip i).settings.source = .link) (taken : ¬ (s.strip i).holdsOff (streamPosition w))
include link taken

theorem exec_streamWord_of_taken {d : Ctx} (follows : (s.retargetedAt i w).startRule.streamTest = d) :
    exec (.streamWord i w) s = .next (((s.take (.streamWord i w)).setStrip i d.strip).effects i d.out) :=
  exec_streamWord_of_eq ((Ctx.streamWord_of_taken link taken).trans follows)

/-- A stream word taken at a strip that starts nothing sets the target and no more. -/
theorem exec_streamWord_of_stays
    (stays : (s.strip i).state ≠ .idle ∨
      ((s.strip i).queue = [] ∨ (s.strip i).current ≠ none ∨ (s.strip i).freeze = true) ∧
        ¬ (s.strip i).servo.deadband < ((streamPosition w : Int) - (s.strip i).p).natAbs) :
    exec (.streamWord i w) s =
      .next ((s.take (.streamWord i w)).setStrip i ((s.strip i).retargeted (streamPosition w))) := by
  have stay : (s.retargetedAt i w).startRule.streamTest = s.retargetedAt i w := by
    obtain busy | ⟨rests, near⟩ := stays
    · rw [Ctx.startRule_of_ne_idle busy, Ctx.streamTest_of_ne_idle busy]
    · rw [Ctx.startRule_of_rests rests, Ctx.streamTest_of_near rfl near]
  exact exec_streamWord_of_taken link taken stay

/-- A stream word taken at an IDLE strip with no entry to start, its target beyond the deadband: the strip waits for stream
motion. -/
theorem exec_streamWord_of_far (idle : (s.strip i).state = .idle)
    (rests : (s.strip i).queue = [] ∨ (s.strip i).current ≠ none ∨ (s.strip i).freeze = true)
    (far : (s.strip i).servo.deadband < ((streamPosition w : Int) - (s.strip i).p).natAbs) :
    exec (.streamWord i w) s = .next (((s.take (.streamWord i w)).setStrip i
      { (s.strip i).retargeted (streamPosition w) with state := .waiting .stream }).deliver
        (.grantRequest i (s.strip i).settings.priority)) := by
  have waits : (s.retargetedAt i w).startRule.streamTest =
      (s.retargetedAt i w).await .stream (s.strip i).settings.priority := by
    rw [Ctx.startRule_of_rests rests]
    exact Ctx.streamTest_of_far idle link rfl rfl far
  exact exec_streamWord_of_taken link taken waits

/-- A stream word taken at an IDLE strip with an entry to start: the entry starts, and the stream test finds the strip
waiting. -/
theorem exec_streamWord_of_queued {e : Entry} {rest : List Entry} (idle : (s.strip i).state = .idle)
    (queue : (s.strip i).queue = e :: rest) (free : (s.strip i).current = none) (thawed : (s.strip i).freeze = false) :
    exec (.streamWord i w) s = .next (((s.take (.streamWord i w)).setStrip i
      (((s.strip i).retargeted (streamPosition w)).started e rest)).deliver (.grantRequest i e.priority)) := by
  have starts : (s.retargetedAt i w).startRule.streamTest =
      ((s.retargetedAt i w).update (·.started e rest)).emit (.request e.priority) := by
    rw [Ctx.startRule_of_queued idle queue free thawed]
    exact Ctx.streamTest_of_ne_idle nofun
  exact exec_streamWord_of_taken link taken starts

end

/-- Settles O33: a word discarded, one that sets the target and no more, one that begins the wait for stream motion, and one
whose start check starts the first queued entry. -/
theorem streamWordSetsTarget : Obligations.StreamWordSetsTarget := by
  intro s i w
  exact ⟨exec_streamWord_of_discarded, exec_streamWord_of_stays, exec_streamWord_of_far,
    fun _ _ link taken => exec_streamWord_of_queued link taken⟩

end Sys2Proof.Machine
end

section
/-!
SUPPORT. What every event and command does to the quantities the laws of Safety.lean bound in one context: its code, positions,
virtual position, calibration record and Move Queue. One relation, one lemma per operation of a context.
-/
namespace Sys2Proof.Machine

/-! ### The relation -/

/-- `y` meets the laws of a context (positions and record, and the places of the Move Queue) where `x` does. -/
structure Strip.Kept (x y : Strip) : Prop where
  lawful : x.Lawful → y.Lawful
  places : x.queue.length ≤ Config.moveQueueSize → y.queue.length ≤ Config.moveQueueSize

theorem Strip.Kept.refl (x : Strip) : x.Kept x := ⟨id, id⟩

theorem Strip.Kept.trans {x y z : Strip} (h : x.Kept y) (k : y.Kept z) : x.Kept z :=
  ⟨fun l => k.lawful (h.lawful l), fun l => k.places (h.places l)⟩

/-- A context whose positions, record and queue are as they were. -/
theorem Strip.Kept.same {x y : Strip} (r : y.r = x.r) (p : y.p = x.p) (pRep : y.pRep = x.pRep) (v : y.v = x.v)
    (cal : y.cal = x.cal) (queue : y.queue = x.queue) : x.Kept y :=
  ⟨fun l => ⟨r ▸ l.code, p ▸ l.position, pRep ▸ l.reported, v ▸ l.virtual, cal ▸ l.record⟩, fun l => queue ▸ l⟩

/-- A context whose positions and record are as they were, and whose queue has not grown. -/
theorem Strip.Kept.fewer {x y : Strip} (r : y.r = x.r) (p : y.p = x.p) (pRep : y.pRep = x.pRep) (v : y.v = x.v)
    (cal : y.cal = x.cal) (queue : y.queue.length ≤ x.queue.length) : x.Kept y :=
  ⟨fun l => ⟨r ▸ l.code, p ▸ l.position, pRep ▸ l.reported, v ▸ l.virtual, cal ▸ l.record⟩, fun l => Nat.le_trans queue l⟩

/-- A context whose virtual position has taken its travel position. -/
theorem Strip.Kept.atPosition {x y : Strip} (r : y.r = x.r) (p : y.p = x.p) (pRep : y.pRep = x.pRep) (v : y.v = (x.p : Int))
    (cal : y.cal = x.cal) (queue : y.queue = x.queue) : x.Kept y := by
  refine ⟨fun l => ⟨r ▸ l.code, p ▸ l.position, pRep ▸ l.reported, ?_, cal ▸ l.record⟩, fun l => queue ▸ l⟩
  have := l.position
  rw [v]
  simp only [Config.travelTop, Config.virtualLow, Config.virtualHigh] at *
  omega

/-- A context whose record has lost its valid flag and changed in nothing else. -/
theorem Strip.Kept.spoiled {x y : Strip} (r : y.r = x.r) (p : y.p = x.p) (pRep : y.pRep = x.pRep) (v : y.v = x.v)
    (cal : y.cal.valid = true → y.cal = x.cal) (queue : y.queue = x.queue) : x.Kept y :=
  ⟨fun l => ⟨r ▸ l.code, p ▸ l.position, pRep ▸ l.reported, v ▸ l.virtual, fun h => cal h ▸ l.record (cal h ▸ h)⟩,
    fun l => queue ▸ l⟩

/-- The same of a context at work. -/
def Ctx.Kept (c d : Ctx) : Prop := c.strip.Kept d.strip

theorem Ctx.Kept.refl (c : Ctx) : c.Kept c := Strip.Kept.refl _

theorem Ctx.Kept.trans {c d e : Ctx} (h : c.Kept d) (k : d.Kept e) : c.Kept e := Strip.Kept.trans h k

/-- The last operation first: its lemma then says what the one before it has to keep. -/
theorem Strip.Kept.comp {x y z : Strip} (k : y.Kept z) (h : x.Kept y) : x.Kept z := h.trans k

theorem Ctx.Kept.comp {c d e : Ctx} (k : d.Kept e) (h : c.Kept d) : c.Kept e := h.trans k

/-- What both branches of a choice keep, the choice keeps. -/
theorem Ctx.Kept.ite {p : Prop} [Decidable p] {c d e : Ctx} (h : c.Kept d) (k : c.Kept e) : c.Kept (if p then d else e) := by
  split <;> assumption

/-- An update after which positions, record and queue are as they were. -/
theorem Ctx.kept_update (c : Ctx) {f : Strip → Strip} (h : ∀ x : Strip, x.Kept (f x)) : c.Kept (c.update f) := h _

theorem Ctx.kept_emit (c : Ctx) (e : Effect) : c.Kept (c.emit e) := Strip.Kept.refl _

/-! ### Pieces that several chapters use -/

theorem Strip.kept_countFinish (x : Strip) (k : FinishKind) : x.Kept (x.countFinish k) := by
  cases k <;> exact .same rfl rfl rfl rfl rfl rfl

theorem Ctx.kept_finish (c : Ctx) (k : FinishKind) (tag : Half) (o : Origin) : c.Kept (c.finish k tag o) :=
  Strip.kept_countFinish _ k

theorem Ctx.kept_finishCurrent (c : Ctx) (k : FinishKind) : c.Kept (c.finishCurrent k) := by
  unfold Ctx.finishCurrent
  split
  · exact Ctx.Kept.refl c
  · exact (c.kept_finish k _ _).trans (Ctx.kept_update _ fun _ => .same rfl rfl rfl rfl rfl rfl)

/-- Entries finished one after another. -/
theorem Ctx.kept_finishes (k : FinishKind) (l : List Entry) (c : Ctx) :
    c.Kept (l.foldl (fun c e => c.finish k e.tag e.origin) c) := by
  induction l generalizing c with
  | nil => exact Ctx.Kept.refl c
  | cons e l ih => exact (c.kept_finish k _ _).trans (ih _)

theorem Ctx.kept_flushQueue (c : Ctx) : c.Kept c.flushQueue :=
  (c.kept_finishes _ _).trans (Ctx.kept_update _ fun _ => .fewer rfl rfl rfl rfl rfl (Nat.zero_le _))

theorem Ctx.kept_flush (c : Ctx) : c.Kept c.flush :=
  (c.kept_flushQueue.trans (Ctx.kept_finishCurrent _ _)).trans
    (Ctx.kept_update _ fun _ => .same rfl rfl rfl rfl rfl rfl)

theorem Ctx.kept_stopDriving (c : Ctx) : c.Kept c.stopDriving := .same rfl rfl rfl rfl rfl rfl

theorem Ctx.kept_letGo (c : Ctx) : c.Kept c.letGo := by
  unfold Ctx.letGo
  split
  · exact c.kept_stopDriving
  · split
    · exact c.kept_emit _
    · exact Ctx.Kept.refl c

theorem Ctx.kept_await (c : Ctx) (w : Purpose) (p : Priority) : c.Kept (c.await w p) := .same rfl rfl rfl rfl rfl rfl

theorem Strip.kept_leaveActivity (x : Strip) : x.Kept x.leaveActivity := by
  unfold Strip.leaveActivity
  split <;> exact .same rfl rfl rfl rfl rfl rfl

theorem Ctx.kept_startRule (c : Ctx) : c.Kept c.startRule := by
  rcases c.startRule_cases with h | ⟨e, rest, hq, -, -, -, h⟩
  · rw [h]; exact Ctx.Kept.refl c
  · rw [h]
    refine .fewer rfl rfl rfl rfl rfl ?_
    rw [hq]
    exact Nat.le_succ _

/-! ### Sensing and motion -/

theorem CalRecord.convert_le (c : CalRecord) (r : Nat) : c.convert r ≤ Config.travelTop := by
  unfold CalRecord.convert Config.travelTop
  split
  · omega
  · split
    · omega
    · next low high =>
      rw [Nat.div_le_iff_le_mul (by omega)]
      have : r - c.bottom + 1 ≤ c.top - c.bottom := by omega
      omega

theorem Strip.position_le (x : Strip) (r : Nat) : x.position r ≤ Config.travelTop := by
  unfold Strip.position
  split
  · exact Nat.zero_le _
  · exact CalRecord.convert_le _ _

theorem Strip.kept_sense (x : Strip) {r : Nat} (hr : r ≤ 1023) : x.Kept (x.sense r) := by
  have hp := x.position_le r
  refine ⟨fun l => ⟨hr, hp, ?_, ?_, l.record⟩, fun l => l⟩
  · show (if x.reports (x.position r) then x.position r else x.pRep) ≤ _
    split
    · exact hp
    · exact l.reported
  · show Config.virtualLow ≤ (if x.takesPosition then ((x.position r : Nat) : Int) else x.v) ∧
      (if x.takesPosition then ((x.position r : Nat) : Int) else x.v) ≤ Config.virtualHigh
    split
    · simp only [Config.travelTop, Config.virtualLow, Config.virtualHigh] at *
      omega
    · exact l.virtual

theorem Ctx.kept_adopt (c : Ctx) (classes : Vector ServoClass 4) : c.Kept (c.adopt classes) := by
  unfold Ctx.adopt
  simp only []
  split
  · split
    · exact .same rfl rfl rfl rfl rfl rfl
    · split <;> exact .same rfl rfl rfl rfl rfl rfl
  · exact .same rfl rfl rfl rfl rfl rfl

theorem Ctx.kept_stall (c : Ctx) : c.Kept c.stall := by
  have work : c.Kept (((c.finishCurrent .stalled).flushQueue.update fun x => { x with chainStart := none }).stopDriving) :=
    Ctx.Kept.comp (Ctx.kept_stopDriving _) (((c.kept_finishCurrent _).trans (Ctx.kept_flushQueue _)).trans
      (Ctx.kept_update _ fun _ => .same rfl rfl rfl rfl rfl rfl))
  refine work.trans (Strip.Kept.trans (Strip.kept_leaveActivity _) ?_)
  exact .same rfl rfl rfl rfl rfl rfl

theorem Ctx.kept_drive (c : Ctx) {goOn : Ctx → Ctx} (h : ∀ d : Ctx, d.Kept (goOn d)) : c.Kept (c.drive goOn) := by
  have count : c.Kept (c.update Strip.countStall) := .same rfl rfl rfl rfl rfl rfl
  unfold Ctx.drive
  simp only []
  split
  · exact count.trans (Ctx.kept_stall _)
  · exact (count.trans (Ctx.kept_emit _ _)).trans (h _)

theorem Ctx.kept_endOfGuide (c : Ctx) : c.Kept c.endOfGuide := by
  unfold Ctx.endOfGuide
  split
  · next next rest e hq _ _ =>
    refine ⟨fun l => ?_, fun l => ?_⟩
    · have k := (c.kept_finishCurrent .arrived).lawful l
      exact ⟨k.code, k.position, k.reported, k.virtual, k.record⟩
    · show rest.length ≤ _
      rw [hq] at l
      exact Nat.le_trans (Nat.le_succ _) l
  · exact .same rfl rfl rfl rfl rfl rfl

theorem Ctx.kept_servoStep (c : Ctx) (period : Nat) (e : Entry) : c.Kept (c.servoStep period e) := by
  unfold Ctx.servoStep
  simp only []
  refine Ctx.Kept.comp (Ctx.kept_drive _ fun d => ?_)
    (Ctx.Kept.comp (Ctx.kept_update _ fun _ => .same rfl rfl rfl rfl rfl rfl) ?_)
  · split
    · exact d.kept_endOfGuide
    · exact Ctx.Kept.refl d
  · split
    · exact Ctx.Kept.refl c
    · exact .same rfl rfl rfl rfl rfl rfl

theorem Ctx.kept_followStep (c : Ctx) : c.Kept c.followStep :=
  Ctx.Kept.comp (Ctx.kept_drive _ Ctx.Kept.refl) (.same rfl rfl rfl rfl rfl rfl)

theorem Ctx.kept_streamStep (c : Ctx) : c.Kept c.streamStep := by
  refine Ctx.Kept.comp (Ctx.kept_drive _ fun d => ?_) (.same rfl rfl rfl rfl rfl rfl)
  exact .ite (Ctx.Kept.comp (Ctx.kept_startRule _) (.same rfl rfl rfl rfl rfl rfl)) (.same rfl rfl rfl rfl rfl rfl)

theorem Ctx.kept_settleEnd (c : Ctx) : c.Kept c.settleEnd :=
  Ctx.Kept.comp (Ctx.kept_startRule _) (((c.kept_finishCurrent _).trans (Ctx.kept_stopDriving _)).trans
    (Ctx.kept_update _ fun _ => .same rfl rfl rfl rfl rfl rfl))

theorem Ctx.kept_settleStep (c : Ctx) : c.Kept c.settleStep := by
  unfold Ctx.settleStep
  exact .ite (Ctx.Kept.comp (Ctx.kept_settleEnd _) (.same rfl rfl rfl rfl rfl rfl))
    (.ite (Ctx.Kept.comp (Ctx.kept_stall _) (.same rfl rfl rfl rfl rfl rfl)) (.same rfl rfl rfl rfl rfl rfl))

theorem Ctx.kept_failCalibration (c : Ctx) (run : CalRun) (k : FaultKind) : c.Kept (c.failCalibration run k) :=
  (c.kept_stopDriving.trans (Ctx.kept_finish _ _ _ _)).trans (.spoiled rfl rfl rfl rfl nofun rfl)

/-- The end of a calibration phase at a code: an accepted record spans at least 512 codes (R47). -/
theorem Ctx.kept_endPhase (c : Ctx) (run : CalRun) (r : Nat) : c.Kept (c.endPhase run r) := by
  unfold Ctx.endPhase
  split
  · exact .same rfl rfl rfl rfl rfl rfl
  · split
    · next span =>
      refine Ctx.Kept.comp (Ctx.kept_startRule _) 
        (Ctx.Kept.trans (c.kept_stopDriving.trans (Ctx.kept_finish _ .arrived run.tag .cell)) ?_)
      exact ⟨fun l => ⟨l.code, l.position, l.reported, ⟨(by decide : (-4095 : Int) ≤ (4095 : Nat)),
        (by decide : ((4095 : Nat) : Int) ≤ 8190)⟩, fun _ => span⟩, fun l => l⟩
    · exact c.kept_failCalibration run _

theorem Ctx.kept_calStep (c : Ctx) (r : Nat) : c.Kept (c.calStep r) := by
  unfold Ctx.calStep
  split
  · exact Ctx.Kept.refl c
  · next run0 _ =>
    have count : c.Kept (c.update fun x => { x with calRun := some (run0.countArrival r) }) :=
      .same rfl rfl rfl rfl rfl rfl
    exact .ite (count.trans (Ctx.kept_endPhase _ _ _))
      (.ite (count.trans (Ctx.kept_failCalibration _ _ _)) (count.trans (Ctx.kept_emit _ _)))

theorem Ctx.kept_streamTest (c : Ctx) : c.Kept c.streamTest := by
  unfold Ctx.streamTest
  split
  · exact Ctx.Kept.refl c
  · split
    · exact c.kept_await _ _
    · exact Ctx.Kept.refl c

theorem Ctx.kept_writeTrail (c : Ctx) : c.Kept c.writeTrail := by
  unfold Ctx.writeTrail
  split
  · exact Ctx.Kept.refl c
  · exact .same rfl rfl rfl rfl rfl rfl

theorem Ctx.kept_trailStep (c : Ctx) : c.Kept c.trailStep := by
  unfold Ctx.trailStep
  simp only []
  split
  · exact Ctx.Kept.refl c
  · split
    · exact .same rfl rfl rfl rfl rfl rfl
    · split
      · exact Ctx.Kept.comp (Ctx.kept_writeTrail _) (.same rfl rfl rfl rfl rfl rfl)
      · exact .same rfl rfl rfl rfl rfl rfl

theorem Ctx.kept_act (c : Ctx) (period r : Nat) : c.Kept (c.act period r) := by
  unfold Ctx.act
  split
  · exact c.kept_startRule.trans (Ctx.kept_streamTest _)
  · exact c.kept_calStep r
  · split
    · exact c.kept_servoStep period _
    · exact c.kept_streamStep
  · exact c.kept_settleStep
  · exact c.kept_followStep
  · exact c.kept_trailStep
  all_goals exact Ctx.Kept.refl c

/-- A sample arrival (R12). -/
theorem Ctx.kept_arrive (c : Ctx) (classes : Vector ServoClass 4) (period : Nat) (code : Code) :
    c.Kept (c.arrive classes period code.toNat) := by
  unfold Ctx.arrive
  split
  · exact Ctx.Kept.refl c
  · have range : code.toNat ≤ 1023 := by have := code.isLt; omega
    exact Ctx.Kept.comp (Ctx.kept_act _ _ _)
      ((c.kept_adopt classes).trans (Ctx.kept_update _ fun x => Strip.kept_sense x range))

/-- A grant taken (R31). -/
theorem Ctx.kept_granted (c : Ctx) : c.Kept c.granted := by
  unfold Ctx.granted
  split
  · simp only []
    split <;> exact .same rfl rfl rfl rfl rfl rfl
  · exact c.kept_emit _

/-! ### The hand and gangs -/

theorem Ctx.kept_enterActivity (c : Ctx) : c.Kept c.enterActivity :=
  (c.kept_finishCurrent _).trans (Ctx.kept_update _ fun _ => .same rfl rfl rfl rfl rfl rfl)

theorem Ctx.kept_joinState (c : Ctx) : c.Kept c.joinState := by
  unfold Ctx.joinState
  split <;> first | exact Ctx.Kept.refl c | exact .same rfl rfl rfl rfl rfl rfl

theorem Ctx.kept_join (c : Ctx) (pL : Nat) : c.Kept (c.join pL) := by
  have enter : c.Kept (c.update fun x => { x with offset := x.v - pL }).enterActivity :=
    Ctx.Kept.comp (Ctx.kept_enterActivity _) (.same rfl rfl rfl rfl rfl rfl)
  exact Ctx.Kept.comp (Ctx.kept_update _ fun _ => .same rfl rfl rfl rfl rfl rfl)
    (Ctx.Kept.comp (Ctx.kept_joinState _) (enter.trans (Ctx.kept_update _ fun _ => .same rfl rfl rfl rfl rfl rfl)))

theorem Strip.kept_followed (x : Strip) (pL : Nat) : x.Kept (x.followed pL) := by
  refine ⟨fun l => ⟨l.code, l.position, l.reported, ?_, l.record⟩, fun l => l⟩
  show Config.virtualLow ≤ clampInt Config.virtualLow Config.virtualHigh _ ∧ clampInt _ _ _ ≤ Config.virtualHigh
  simp only [clampInt, Config.virtualLow, Config.virtualHigh]
  omega

theorem Ctx.kept_activityEnded (c : Ctx) : c.Kept c.activityEnded := by
  unfold Ctx.activityEnded
  simp only []
  split
  · exact .same rfl rfl rfl rfl rfl rfl
  · exact Ctx.Kept.comp (Ctx.kept_startRule _) (.same rfl rfl rfl rfl rfl rfl)
  · exact Ctx.Kept.comp (Ctx.kept_startRule _) (.same rfl rfl rfl rfl rfl rfl)

theorem Ctx.kept_beginTrimming (c : Ctx) : c.Kept c.beginTrimming := by
  unfold Ctx.beginTrimming
  simp only []
  split
  · exact c.kept_enterActivity.trans (.same rfl rfl rfl rfl rfl rfl)
  · exact .same rfl rfl rfl rfl rfl rfl

/-- The touch-time flags of a queue cleared leave its length. -/
theorem Strip.kept_mapQueue (x : Strip) (f : Entry → Entry) : x.Kept { x with queue := x.queue.map f } :=
  .fewer rfl rfl rfl rfl rfl (by simp)

theorem Ctx.kept_rejoin (c : Ctx) (pL : Nat) : c.Kept (c.rejoin pL) := by
  have lift : c.Kept (c.writeTrail.update fun x => { x with touch := false, trailStep := 0, v := x.p }) :=
    c.kept_writeTrail.trans (Ctx.kept_update _ fun _ => .atPosition rfl rfl rfl rfl rfl rfl)
  exact lift.trans (Strip.Kept.trans (Strip.kept_mapQueue _ fun q => { q with touchTime := false })
    (.same rfl rfl rfl rfl rfl rfl))

theorem Strip.kept_beTouched (x : Strip) : x.Kept x.beTouched := .same rfl rfl rfl rfl rfl rfl

/-- A calibration run ended before its time: the record may lose its valid flag (R50). -/
theorem Ctx.kept_endRun (c : Ctx) (k : FinishKind) (spoil : Bool) : c.Kept (c.endRun k spoil) := by
  unfold Ctx.endRun
  split
  · exact Ctx.Kept.refl c
  · refine (c.kept_finish k _ _).trans (.spoiled rfl rfl rfl rfl (fun h => ?_) rfl)
    obtain ⟨valid, -⟩ := (Bool.and_eq_true _ _).mp h
    show CalRecord.mk _ _ _ = _
    rw [show (_ && !spoil) = true from h, ← valid]

theorem Ctx.kept_abortCalibration (c : Ctx) : c.Kept c.abortCalibration :=
  (c.kept_letGo.trans (Ctx.kept_endRun _ _ _)).trans (Ctx.kept_update _ fun _ => .same rfl rfl rfl rfl rfl rfl)

theorem Ctx.kept_touchState (c : Ctx) : c.Kept c.touchState := by
  unfold Ctx.touchState
  split
  case h_2 => exact c.kept_abortCalibration
  case h_3 => exact c.kept_abortCalibration
  all_goals first | exact Ctx.Kept.refl c | exact .same rfl rfl rfl rfl rfl rfl

/-- A touch-on at a context (R77). -/
theorem Ctx.kept_touchOn (c : Ctx) : c.Kept c.touchOn :=
  Ctx.Kept.comp (Ctx.kept_touchState _) (.same rfl rfl rfl rfl rfl rfl)

theorem Ctx.kept_releaseHead (c : Ctx) : c.Kept c.releaseHead :=
  c.kept_writeTrail.trans (.atPosition rfl rfl rfl rfl rfl rfl)

theorem Strip.kept_clearTouchTime (x : Strip) : x.Kept x.clearTouchTime :=
  (x.kept_mapQueue fun q => { q with touchTime := false }).trans (.same rfl rfl rfl rfl rfl rfl)

theorem Strip.kept_setRelatch (x : Strip) : x.Kept x.setRelatch := by
  unfold Strip.setRelatch
  split
  · split <;> exact .same rfl rfl rfl rfl rfl rfl
  · exact Strip.Kept.refl x

theorem Ctx.kept_releaseStay (c : Ctx) : c.Kept c.releaseStay := by
  have cut : c.Kept ((c.finishCurrent .cut).update fun x => { x with restart := false }) :=
    (c.kept_finishCurrent _).trans (Ctx.kept_update _ fun _ => .same rfl rfl rfl rfl rfl rfl)
  have empty : ∀ x : Strip,
      x.Kept ({ x with queue := x.queue.filter (·.touchTime), state := .idle } : Strip).setRelatch := fun x =>
    Strip.Kept.comp (Strip.kept_setRelatch _) (.fewer rfl rfl rfl rfl rfl (List.length_filter_le _ _))
  exact Ctx.Kept.comp (Ctx.kept_update _ empty) (cut.trans (Ctx.kept_finishes _ _ _))

theorem Ctx.kept_releaseReturn (c : Ctx) : c.Kept c.releaseReturn := by
  unfold Ctx.releaseReturn
  split <;> exact .same rfl rfl rfl rfl rfl rfl

/-- A release (R82). -/
theorem Ctx.kept_release (c : Ctx) : c.Kept c.release := by
  unfold Ctx.release
  simp only []
  refine (Ctx.Kept.trans ?_ (Ctx.kept_update _ Strip.kept_clearTouchTime)).trans (Ctx.kept_startRule _)
  split
  · exact c.kept_releaseHead.trans (Ctx.kept_releaseStay _)
  · exact c.kept_releaseHead.trans (Ctx.kept_releaseReturn _)

theorem Ctx.kept_followNewLeader (c : Ctx) (pL : Nat) : c.Kept (c.followNewLeader pL) :=
  (c.kept_enterActivity.trans (Ctx.kept_update _ Strip.kept_clearTouchTime)).trans (.same rfl rfl rfl rfl rfl rfl)

/-! ### Commands -/

theorem Ctx.kept_placeMove (c : Ctx) (e : Entry) (h : c.strip.queue.length < Config.moveQueueSize) :
    c.Kept (c.placeMove e) := by
  refine Ctx.Kept.comp (Ctx.kept_startRule _)
    ⟨fun l => ⟨l.code, l.position, l.reported, l.virtual, l.record⟩, fun _ => ?_⟩
  show (c.strip.queue ++ [e]).length ≤ _
  rw [List.length_append]
  exact h

theorem Strip.room_of_admitted {x : Strip} {i : StripId} {n : Nat} (h : x.refusal i n true = none) :
    x.queue.length < Config.moveQueueSize := by
  refine Decidable.byContradiction fun full => ?_
  have full : true = true ∧ Config.moveQueueSize ≤ x.queue.length := ⟨rfl, Nat.le_of_not_lt full⟩
  unfold Strip.refusal at h
  rw [if_pos full] at h
  repeat' split at h
  all_goals cases h

theorem Ctx.kept_move (c : Ctx) (n : Nat) (a : MoveArgs) (o : Origin) : c.Kept (c.move n a o).1 := by
  unfold Ctx.move
  split
  · exact Ctx.Kept.refl c
  · next admitted => exact c.kept_placeMove _ (Strip.room_of_admitted admitted)

theorem Ctx.kept_placeJump (c : Ctx) (e : Entry) : c.Kept (c.placeJump e) := by
  unfold Ctx.placeJump
  simp only []
  split
  case h_6 => exact ⟨fun l => ⟨l.code, l.position, l.reported, l.virtual, l.record⟩, fun _ => (by decide : 1 ≤ 8)⟩
  all_goals exact .same rfl rfl rfl rfl rfl rfl

theorem Ctx.kept_jump (c : Ctx) (n : Nat) (a : MoveArgs) (o : Origin) : c.Kept (c.jump n a o).1 := by
  unfold Ctx.jump
  split
  · exact Ctx.Kept.refl c
  · exact c.kept_flush.trans (Ctx.kept_placeJump _ _)

theorem Ctx.kept_moveOrJump (c : Ctx) (jump : Bool) (n : Nat) (a : MoveArgs) (o : Origin) :
    c.Kept (moveOrJump jump n a o c).1 := by
  cases jump
  · exact c.kept_move n a o
  · exact c.kept_jump n a o

theorem Ctx.kept_stopState (c : Ctx) : c.Kept c.stopState := by
  unfold Ctx.stopState
  split
  · exact Strip.Kept.trans (Strip.kept_leaveActivity _) (.same rfl rfl rfl rfl rfl rfl)
  · exact .same rfl rfl rfl rfl rfl rfl
  · exact .same rfl rfl rfl rfl rfl rfl
  · exact .same rfl rfl rfl rfl rfl rfl
  · exact Strip.Kept.trans (Strip.kept_leaveActivity _) (.same rfl rfl rfl rfl rfl rfl)
  · exact Ctx.Kept.refl c

theorem Ctx.kept_stop (c : Ctx) (n : Nat) : c.Kept (c.stop n).1 := by
  unfold Ctx.stop
  split
  · exact Ctx.Kept.refl c
  · split
    · exact Ctx.Kept.comp (Ctx.kept_startRule _) ((c.kept_letGo.trans (Ctx.kept_endRun _ _ _)).trans
        (Ctx.kept_update _ fun _ => .same rfl rfl rfl rfl rfl rfl))
    · exact (c.kept_flush.trans (Ctx.kept_stopState _)).trans (Ctx.kept_update _ Strip.kept_setRelatch)

theorem Ctx.kept_calibrate (c : Ctx) (n : Nat) (tag : Half) : c.Kept (c.calibrate n tag).1 := by
  have leave : ∀ x : Strip, x.Kept (x.leaveActivity.newRun tag) := fun x =>
    (Strip.kept_leaveActivity x).trans (.same rfl rfl rfl rfl rfl rfl)
  unfold Ctx.calibrate
  split
  · exact Ctx.Kept.refl c
  · split
    · exact Ctx.Kept.refl c
    · split
      · exact Ctx.Kept.comp (Ctx.kept_update _ Strip.kept_leaveActivity) (Ctx.Kept.comp (Ctx.kept_abortCalibration _)
          (c.kept_flush.trans (Ctx.kept_update _ fun _ => .same rfl rfl rfl rfl rfl rfl)))
      · split
        · exact (c.kept_flush.trans (Ctx.kept_update _ leave)).trans (Ctx.kept_await _ _ _)
        case h_5 => exact .same rfl rfl rfl rfl rfl rfl
        all_goals exact c.kept_flush.trans (Strip.Kept.trans (leave _) (.same rfl rfl rfl rfl rfl rfl))

/-- A record replaced spans at least 512 codes, and the virtual position is on the travel (R51). -/
theorem Ctx.kept_setCal (c : Ctx) (n : Nat) (bottom top : Half) : c.Kept (c.setCal n bottom top).1 := by
  by_cases off : n ≤ c.id.val ∨ c.strip.state = .off
  · rw [Ctx.setCal_of_off _ _ off]; exact Ctx.Kept.refl c
  by_cases stands : c.strip.calibrationStands = true
  · rw [Ctx.setCal_of_stands _ _ off stands]; exact Ctx.Kept.refl c
  unfold Ctx.setCal
  simp only []
  rw [if_neg off, if_neg stands]
  split
  · exact Ctx.Kept.refl c
  · next span =>
    have recalibrated : ∀ st : StripState, c.strip.Kept { c.strip with
        cal := { bottom := takenCode bottom, top := takenCode top, valid := true }
        v := (CalRecord.convert { bottom := takenCode bottom, top := takenCode top, valid := true } c.strip.r : Nat)
        state := st } := by
      intro st
      refine ⟨fun l => ⟨l.code, l.position, l.reported, ?_, fun _ => Nat.le_of_not_lt span⟩, fun l => l⟩
      have := CalRecord.convert_le { bottom := takenCode bottom, top := takenCode top, valid := true } c.strip.r
      simp only [Config.travelTop, Config.virtualLow, Config.virtualHigh] at *
      omega
    split
    · exact Ctx.Kept.comp (Ctx.kept_startRule _) (recalibrated _)
    · exact recalibrated _

theorem Ctx.kept_clearStall (c : Ctx) (n : Nat) : c.Kept (c.clearStall n).1 := by
  unfold Ctx.clearStall
  split
  · exact Ctx.Kept.refl c
  · split
    · exact Ctx.Kept.comp (Ctx.kept_startRule _) (.same rfl rfl rfl rfl rfl rfl)
    · exact Ctx.Kept.refl c

theorem Ctx.kept_stripOff (c : Ctx) (n : Nat) : c.Kept (c.stripOff n).1 := by
  unfold Ctx.stripOff
  split
  · exact Ctx.Kept.refl c
  · split
    · exact Ctx.Kept.refl c
    · exact (((c.kept_endRun _ _).trans (Ctx.kept_flush _)).trans (Ctx.kept_letGo _)).trans
        (Strip.Kept.trans (Strip.kept_leaveActivity _) (.same rfl rfl rfl rfl rfl rfl))

theorem Ctx.kept_stripOn (c : Ctx) (n : Nat) : c.Kept (c.stripOn n).1 := by
  unfold Ctx.stripOn
  split
  · exact Ctx.Kept.refl c
  · split
    · exact .same rfl rfl rfl rfl rfl rfl
    · exact Ctx.Kept.refl c

theorem Ctx.kept_newTarget (c : Ctx) (t : Nat) : c.Kept (c.newTarget t) := by
  unfold Ctx.newTarget
  simp only []
  split
  · exact Ctx.Kept.comp ((Ctx.kept_startRule _).trans (Ctx.kept_streamTest _)) (.same rfl rfl rfl rfl rfl rfl)
  · exact .same rfl rfl rfl rfl rfl rfl

/-- A stream word (R70). -/
theorem Ctx.kept_streamWord (c : Ctx) (t : Nat) : c.Kept (c.streamWord t) := by
  unfold Ctx.streamWord
  split
  · exact Ctx.Kept.refl c
  · split
    · split
      · exact Ctx.Kept.refl c
      · exact Ctx.Kept.comp (Ctx.kept_newTarget _ t) (.same rfl rfl rfl rfl rfl rfl)
    · exact c.kept_newTarget t

/-! ### The part's changes of state -/

theorem Strip.kept_rest (x : Strip) : x.Kept x.rest := by
  unfold Strip.rest
  split <;> exact .same rfl rfl rfl rfl rfl rfl

theorem Ctx.kept_endWork (c : Ctx) : c.Kept c.endWork := by
  unfold Ctx.endWork
  split
  · exact Ctx.kept_update _ Strip.kept_rest
  · exact (((c.kept_endRun _ _).trans (Ctx.kept_flush _)).trans (Ctx.kept_letGo _)).trans
      (Ctx.kept_update _ Strip.kept_rest)

theorem Strip.kept_discard (x : Strip) : x.Kept x.discard :=
  Strip.Kept.comp (Strip.kept_rest _) (.fewer rfl rfl rfl rfl rfl (Nat.zero_le _))

theorem Strip.kept_softReset (x : Strip) : x.Kept x.softReset :=
  ⟨fun l => ⟨Nat.zero_le _, Nat.zero_le _, Nat.zero_le _, (by decide : (-4095 : Int) ≤ 0 ∧ (0 : Int) ≤ 8190), l.record⟩,
    fun _ => Nat.zero_le _⟩

end Sys2Proof.Machine
end

section
/-!
SUPPORT. What the operations of the Attention Unit, the Activity Writer, the Grant Arbiter, the Meter Engine and the link
receivers do to the quantities the laws of Safety.lean bound in them. Each law is told of the block alone, with a lemma per
operation.
-/
namespace Sys2Proof.Machine

/-! ### The Attention Unit: pending counts -/

/-- Neither pending count passes 255 (R204). -/
def Attention.Bounded (a : Attention) : Prop := a.cell.pending ≤ 255 ∧ a.activity.pending ≤ 255

theorem Attention.bounded_withCoalescing {a : Attention} (w : Coalesced) {co : Coalescing} (h : a.Bounded)
    (hc : co.pending ≤ 255) : (a.withCoalescing w co).Bounded := by
  cases w
  · exact ⟨hc, h.2⟩
  · exact ⟨h.1, hc⟩

theorem Attention.bounded_set {a : Attention} (c : Cause) (h : a.Bounded) : (a.set c).Bounded := h

/-- A coalesced cause set leaves no event pending (R204). -/
theorem Attention.bounded_raise {a : Attention} (w : Coalesced) (h : a.Bounded) : (a.raise w).Bounded :=
  Attention.bounded_withCoalescing w h (Nat.zero_le _)

theorem Attention.pending_le {a : Attention} (w : Coalesced) (h : a.Bounded) : (a.coalescing w).pending ≤ 255 := by
  cases w
  · exact h.1
  · exact h.2

theorem Attention.bounded_event {a : Attention} (w : Coalesced) (h : a.Bounded) : (a.event w).Bounded := by
  have counted : (a.withCoalescing w (a.coalescing w).counted).Bounded :=
    Attention.bounded_withCoalescing w h (Nat.min_le_left _ _)
  unfold Attention.event
  simp only []
  split
  · exact Attention.bounded_raise w h
  · split
    · exact Attention.bounded_raise w counted
    · exact counted

theorem Attention.bounded_holdExpiry {a : Attention} (w : Coalesced) (h : a.Bounded) : (a.holdExpiry w).Bounded := by
  unfold Attention.holdExpiry
  split
  · exact Attention.bounded_raise w h
  · exact h

theorem Attention.bounded_load {a : Attention} (w : Coalesced) (threshold hold : Nat) (h : a.Bounded) :
    (a.load w threshold hold).Bounded := by
  have loaded : ∀ co : Coalescing, co.pending = (a.coalescing w).pending → (a.withCoalescing w co).Bounded :=
    fun co e => Attention.bounded_withCoalescing w h (e ▸ Attention.pending_le w h)
  unfold Attention.load
  simp only []
  split
  · exact Attention.bounded_raise w (loaded _ rfl)
  · split
    · exact Attention.bounded_withCoalescing w (loaded _ rfl) (Attention.pending_le w h)
    · exact loaded _ rfl

theorem Attention.bounded_loadAtStart {a : Attention} (w : Coalesced) (threshold hold : Nat) (h : a.Bounded) :
    (a.loadAtStart w threshold hold).Bounded :=
  Attention.bounded_withCoalescing w h (Attention.pending_le w h)

theorem Attention.bounded_flush {a : Attention} (w : Coalesced) (h : a.Bounded) : (a.flush w).Bounded := by
  unfold Attention.flush
  split
  · exact Attention.bounded_raise w h
  · exact Attention.bounded_withCoalescing w h (Nat.zero_le _)

theorem Attention.bounded_flushBoth {a : Attention} (h : a.Bounded) : a.flushBoth.Bounded :=
  Attention.bounded_flush _ (Attention.bounded_flush _ h)

/-! ### The Activity Writer: its queue and its page -/

/-- A writer in service stands at a page it has, its used words in bounds (R122 to R124, R127). -/
structure Writer.InPage (w : Writer) : Prop where
  used    : w.state = .filling → Config.emptyPage ≤ w.used ∧ w.used ≤ w.pageSize
  service : w.state ≠ .stopped → 64 ≤ w.pageSize ∧ 2 ≤ w.pages ∧ w.page < w.pages
  hold    : w.hold ≠ none → w.state = .filling

/-- `w` meets the laws of the writer where `v` does. -/
structure Writer.Kept (v w : Writer) : Prop where
  places : v.queue.length ≤ Config.activityQueueSize → w.queue.length ≤ Config.activityQueueSize
  lost   : v.lost ≤ Config.lostMax → w.lost ≤ Config.lostMax
  inPage : v.InPage → w.InPage

theorem Writer.Kept.refl (w : Writer) : w.Kept w := ⟨fun h => h, fun h => h, fun h => h⟩

theorem Writer.Kept.trans {u v w : Writer} (h : u.Kept v) (k : v.Kept w) : u.Kept w :=
  ⟨fun l => k.places (h.places l), fun l => k.lost (h.lost l), fun l => k.inPage (h.inPage l)⟩

theorem Writer.kept_drop (w : Writer) : w.Kept w.drop :=
  ⟨fun h => h, fun _ => Nat.min_le_left _ _, fun h => ⟨h.used, h.service, h.hold⟩⟩

theorem Writer.kept_join (w : Writer) (q : QueuedRec) (room : w.queue.length < Config.activityQueueSize) :
    w.Kept (w.join q) :=
  ⟨fun _ => by rw [Writer.join, List.length_append]; exact room, fun h => h, fun h => ⟨h.used, h.service, h.hold⟩⟩

/-- A record handed to the writer (R120, R121). -/
theorem Writer.kept_hand (w : Writer) (stopping : Bool) (q : QueuedRec) : w.Kept (w.hand stopping q) := by
  unfold Writer.hand
  split
  · split
    · split
      · next room => exact w.kept_join q room.1
      · exact ⟨fun h => h, fun h => h, fun h => ⟨h.used, h.service, h.hold⟩⟩
    · split
      · exact w.kept_drop
      · split
        · next room => exact w.kept_join q room
        · exact w.kept_drop
  · split
    · next room => exact w.kept_join q room
    · exact w.kept_drop

/-- The fields a record handed leaves alone. -/
theorem Writer.hand_state (w : Writer) (stopping : Bool) (q : QueuedRec) : (w.hand stopping q).state = w.state := by
  unfold Writer.hand
  repeat' split
  all_goals rfl

/-- A page obtained while the writer is SEEKING (R123). -/
theorem Writer.kept_obtain (w : Writer) (h : w.state = .seeking) : w.Kept w.obtain := by
  refine ⟨fun l => l, fun l => l, fun l => ?_⟩
  have service := l.service (by rw [h]; nofun)
  exact ⟨fun _ => ⟨Nat.le_refl _, Nat.le_trans (by decide : 3 ≤ 64) service.1⟩, fun _ => service, fun _ => rfl⟩

theorem Writer.kept_releaseHeld (w : Writer) : w.Kept w.releaseHeld := by
  unfold Writer.releaseHeld
  split
  · exact Writer.Kept.refl w
  · split
    · next room =>
      exact ⟨fun _ => by rw [List.length_append]; exact room, fun l => l, fun l => ⟨l.used, l.service, l.hold⟩⟩
    · exact Writer.Kept.refl w

/-- A placement that is due and passes its checks (R124). -/
theorem Writer.kept_placed (w : Writer) {now : Word} {d : Due} (filling : w.state = .filling) (due : w.due now = some d)
    (fits : w.fits d = true) : w.Kept (w.placed d) := by
  have room : w.used + d.length ≤ w.pageSize := by
    have := (Bool.and_eq_true _ _).mp fits
    exact of_decide_eq_true this.2
  have page : w.InPage → ∀ v : Writer, v.used = w.used + d.length → v.pageSize = w.pageSize → v.pages = w.pages →
      v.page = w.page → v.state = w.state → v.InPage := by
    intro l v used size pages page state
    refine ⟨fun _ => ?_, fun _ => ?_, fun _ => state ▸ filling⟩
    · have := (l.used filling).1
      omega
    · rw [size, pages, page]
      exact l.service (by rw [filling]; nofun)
  cases d with
  | gap t => exact ⟨fun l => l, fun _ => Nat.zero_le _, fun l => page l _ rfl rfl rfl rfl rfl⟩
  | head q rest =>
    refine ⟨fun l => ?_, fun l => l, fun l => page l _ rfl rfl rfl rfl rfl⟩
    have : w.queue = q :: rest := by
      unfold Writer.due at due
      split at due
      · split at due <;> cases due
      · next hq =>
        split at due <;> cases due
        exact hq
    rw [this] at l
    exact Nat.le_trans (Nat.le_succ _) l

/-- A page closed (R126). -/
theorem Writer.kept_closed (w : Writer) (filling : w.state = .filling) : w.Kept w.closed := by
  refine ⟨fun l => l, fun l => l, fun l => ⟨nofun, fun _ => ?_, nofun⟩⟩
  obtain ⟨size, pages, -⟩ := l.service (by rw [filling]; nofun)
  refine ⟨size, pages, ?_⟩
  show (if w.page + 1 < w.pages then w.page + 1 else 0) < w.pages
  split <;> omega

theorem Writer.kept_unhold (w : Writer) : w.Kept { w with hold := none } :=
  ⟨fun l => l, fun l => l, fun l => ⟨l.used, l.service, nofun⟩⟩

/-- A writer taken out of service, its queue perhaps discarded (R131, R132). -/
theorem Writer.Kept.stopped {v w : Writer} (state : w.state = .stopped) (hold : w.hold = none)
    (queue : w.queue.length ≤ v.queue.length) (lost : w.lost ≤ v.lost) : v.Kept w :=
  ⟨Nat.le_trans queue, Nat.le_trans lost, fun _ =>
    ⟨fun h => absurd (state.symm.trans h) nofun, fun h => absurd state h, fun h => absurd hold h⟩⟩

theorem Writer.kept_dropAll (w : Writer) : w.Kept w.dropAll := by
  have drops : ∀ (l : List QueuedRec) (v : Writer), v.Kept (l.foldl (fun v _ => v.drop) v) := by
    intro l
    induction l with
    | nil => exact Writer.Kept.refl
    | cons q l ih => exact fun v => v.kept_drop.trans (ih _)
  have all := drops (w.queue ++ w.held) w
  exact ⟨fun _ => Nat.zero_le _, all.lost, fun l =>
    ⟨(all.inPage l).used, (all.inPage l).service, (all.inPage l).hold⟩⟩

/-- The writer at START, with a header R180 accepts (R122). -/
theorem Writer.inPage_begin (w : Writer) {h : HeaderCounts} (accepted : h.Accepted) : (w.begin h).InPage :=
  ⟨nofun, fun _ => ⟨accepted.size.1, accepted.pages.1, Nat.lt_of_lt_of_le (by decide : 0 < 2) accepted.pages.1⟩, fun k => absurd rfl k⟩

/-! ### The Grant Arbiter -/

/-- The grant set within the full budget, no strip twice, and the budgets in order (R102, R105). -/
structure Arbiter.Lawful (a : Arbiter) : Prop where
  bounded : a.grantSet.length ≤ a.full
  once    : (a.grantSet ++ a.waiting.map (·.strip)).Nodup
  low     : a.low ≤ a.full
  pending : ∀ g, a.pendingFull = some g → g ≤ a.full ∧ a.low ≤ g

theorem State.grantsOk_iff (s : State) : s.GrantsOk ↔ s.arbiter.Lawful :=
  ⟨fun h => ⟨h.bounded, h.once, h.low, h.pending⟩, fun h => ⟨h.bounded, h.once, h.low, h.pending⟩⟩

theorem bestRequest_mem {l : List Request} {r : Request} (h : bestRequest l = some r) : r ∈ l := by
  induction l generalizing r with
  | nil => cases h
  | cons x xs ih =>
    unfold bestRequest at h
    split at h
    · cases h; exact List.mem_cons_self
    · next b hb =>
      split at h <;> cases h
      · exact List.mem_cons_of_mem _ (ih hb)
      · exact List.mem_cons_self

/-- A choice is a record that waits, made while the budget has room (R105). -/
theorem Arbiter.choice_eq_some {a : Arbiter} {r : Request} (h : a.choice = some r) :
    a.grantSet.length < a.decisionBudget ∧ r ∈ a.waiting := by
  unfold Arbiter.choice at h
  split at h
  · next room => exact ⟨room, (List.mem_filter.mp (bestRequest_mem h)).1⟩
  · cases h

theorem Arbiter.Lawful.decisionBudget_le {a : Arbiter} (h : a.Lawful) : a.decisionBudget ≤ a.full := by
  have current : a.currentBudget ≤ a.full := by
    unfold Arbiter.currentBudget
    split
    · exact Nat.le_refl _
    · exact h.low
  unfold Arbiter.decisionBudget
  split
  · next g hg =>
    split
    · exact (h.pending g hg).1
    · exact current
  · exact current

theorem Arbiter.lawful_issue {a : Arbiter} {r : Request} (h : a.Lawful) (chosen : a.choice = some r) : (a.issue r).Lawful := by
  obtain ⟨room, waits⟩ := Arbiter.choice_eq_some chosen
  refine ⟨?_, ?_, h.low, h.pending⟩
  · show (a.grantSet ++ [r.strip]).length ≤ a.full
    rw [List.length_append]
    exact Nat.lt_of_lt_of_le room h.decisionBudget_le
  · obtain ⟨granted, requests, apart⟩ := List.nodup_append.mp h.once
    have free : r.strip ∉ a.grantSet := fun held => apart _ held _ (List.mem_map_of_mem waits) rfl
    have fewer : ((a.waiting.filter (·.strip ≠ r.strip)).map (·.strip)).Sublist (a.waiting.map (·.strip)) :=
      List.filter_sublist.map _
    show ((a.grantSet ++ [r.strip]) ++ (a.waiting.filter (·.strip ≠ r.strip)).map (·.strip)).Nodup
    refine List.nodup_append.mpr ⟨?_, requests.sublist fewer, ?_⟩
    · exact List.nodup_append.mpr ⟨granted, List.pairwise_singleton _ _, fun x hx y hy e => free (by
        rw [← List.mem_singleton.mp hy, ← e]; exact hx)⟩
    · intro x hx y hy e
      rcases List.mem_append.mp hx with held | new
      · exact apart x held y (fewer.subset hy) e
      · obtain ⟨q, hq, rfl⟩ := List.mem_map.mp hy
        have := (List.mem_filter.mp hq).2
        simp only [ne_eq, decide_not, Bool.not_eq_true', decide_eq_false_iff_not] at this
        exact this (e ▸ List.mem_singleton.mp new)

/-- A decision (R105). -/
theorem Arbiter.lawful_decideFor (n : Nat) {a : Arbiter} (h : a.Lawful) : (Arbiter.decideFor n a).1.Lawful := by
  induction n generalizing a with
  | zero => exact h
  | succ n ih =>
    unfold Arbiter.decideFor
    split
    · exact h
    · next r chosen => exact ih (Arbiter.lawful_issue h chosen)

theorem Arbiter.lawful_request {a : Arbiter} (i : StripId) (p : Priority) (h : a.Lawful) : (a.request i p).Lawful := by
  unfold Arbiter.request
  split
  · exact h
  · next notHeld =>
    split
    · refine ⟨h.bounded, ?_, h.low, h.pending⟩
      have same : ((a.waiting.map fun r : Request => if r.strip = i then { r with priority := p } else r).map
          (·.strip)) = a.waiting.map (·.strip) := by
        rw [List.map_map]
        refine List.map_congr_left fun r _ => ?_
        simp only [Function.comp]
        split <;> rfl
      show (a.grantSet ++ _).Nodup
      rw [same]
      exact h.once
    · next notWaiting =>
      refine ⟨h.bounded, ?_, h.low, h.pending⟩
      show (a.grantSet ++ (a.waiting ++ [({ strip := i, priority := p } : Request)]).map (·.strip)).Nodup
      rw [List.map_append, ← List.append_assoc]
      refine List.nodup_append.mpr ⟨h.once, List.pairwise_singleton _ _, fun x hx y hy e => ?_⟩
      obtain rfl : y = i := List.mem_singleton.mp hy
      subst e
      rcases List.mem_append.mp hx with held | waits
      · exact notHeld held
      · obtain ⟨r, hr, hri⟩ := List.mem_map.mp waits
        exact notWaiting (List.any_eq_true.mpr ⟨r, hr, by simpa using hri⟩)

/-- Fewer holders and fewer requests break no law. -/
theorem Arbiter.Lawful.fewer {a b : Arbiter} (h : a.Lawful) (grants : b.grantSet.Sublist a.grantSet)
    (requests : b.waiting.Sublist a.waiting) (full : b.full = a.full) (low : b.low = a.low)
    (pending : b.pendingFull = a.pendingFull) : b.Lawful :=
  ⟨full ▸ Nat.le_trans grants.length_le h.bounded, h.once.sublist (grants.append (requests.map _)), by rw [full, low]; exact h.low,
    by rw [full, low, pending]; exact h.pending⟩

theorem Arbiter.lawful_withdraw {a : Arbiter} (i : StripId) (h : a.Lawful) : (a.withdraw i).Lawful :=
  h.fewer (List.Sublist.refl _) List.filter_sublist rfl rfl rfl

theorem Arbiter.lawful_giveBack {a : Arbiter} (i : StripId) (h : a.Lawful) : (a.giveBack i).Lawful := by
  have less : ({ a with grantSet := a.grantSet.filter (· ≠ i) } : Arbiter).Lawful :=
    h.fewer List.filter_sublist (List.Sublist.refl _) rfl rfl rfl
  unfold Arbiter.giveBack
  simp only []
  split
  · next g hg =>
    split
    · next down => exact ⟨down, less.once, (h.pending g hg).2, nofun⟩
    · exact less
  · exact less

theorem Arbiter.lawful_load {a : Arbiter} {v : GrantValues} (h : a.Lawful) (order : v.low ≤ v.full) : (a.load v).Lawful := by
  unfold Arbiter.load
  simp only []
  split
  · next room => exact ⟨room, h.once, order, nofun⟩
  · next short =>
    have above : v.full ≤ a.full := Nat.le_trans (Nat.le_of_lt (Nat.lt_of_not_le short)) h.bounded
    refine ⟨h.bounded, h.once, Nat.le_trans order above, fun g hg => ?_⟩
    cases hg
    exact ⟨above, order⟩

/-- The GRANT section's low budget is taken into the full one (R102). -/
theorem takeGrant_order (ws : List Word) : (takeGrant ws).1.low ≤ (takeGrant ws).1.full := by
  simp only [takeGrant, takeRange, clampNat]
  omega

theorem Arbiter.lawful_empty {a : Arbiter} (h : a.Lawful) : a.empty.Lawful :=
  h.fewer (List.nil_sublist _) (List.nil_sublist _) rfl rfl rfl

/-- The supply's state and the recovery timer bear on no law. -/
theorem Arbiter.Lawful.withSupply {a : Arbiter} (h : a.Lawful) (supply : Supply) (recovery : Option Nat) :
    ({ a with supply := supply, recovery := recovery } : Arbiter).Lawful :=
  h.fewer (List.Sublist.refl _) (List.Sublist.refl _) rfl rfl rfl

/-! ### The Meter Engine -/

/-- Every channel lawful, and the rise fractions in range (R153, R154, R165). -/
structure Meters.Lawful (m : Meters) : Prop where
  chans : ∀ c : ChanId, m.chans[c].Lawful
  rises : ∀ k : Fin 4, m.profiles[k].rise ≤ 256

theorem State.metersOk_iff (s : State) : s.MetersOk ↔ s.meters.Lawful :=
  ⟨fun h => ⟨h.chans, h.rises⟩, fun h => ⟨h.chans, h.rises⟩⟩

/-- Every channel changed by operations that keep the law, the profiles as they were. -/
theorem Meters.Lawful.ofFn {m : Meters} (h : m.Lawful) {f : ChanId → Channel} (hf : ∀ c, (f c).Lawful) (decay : Bool) :
    ({ m with chans := Vector.ofFn f, decay := decay } : Meters).Lawful :=
  ⟨fun c => by simpa using hf c, h.rises⟩

/-- The decay timer bears on no law. -/
theorem Meters.Lawful.decays {m : Meters} (h : m.Lawful) (decay : Bool) : ({ m with decay := decay } : Meters).Lawful :=
  ⟨h.chans, h.rises⟩

theorem Meters.Lawful.set {m : Meters} (h : m.Lawful) (c : ChanId) {x : Channel} (hx : x.Lawful) :
    ({ m with chans := m.chans.set c x } : Meters).Lawful := by
  refine ⟨fun k => ?_, h.rises⟩
  show (m.chans.set c.val x)[k.val].Lawful
  rw [Vector.getElem_set]
  split
  · exact hx
  · exact h.chans k

theorem Meters.Lawful.rise_le {m : Meters} (h : m.Lawful) (c : ChanId) : (m.profileOf c).rise ≤ 256 :=
  h.rises _

theorem levelUpTo_le (x n : Nat) : levelUpTo x n ≤ n := by
  induction n with
  | zero => exact Nat.le_refl _
  | succ n ih =>
    unfold levelUpTo
    split
    · exact Nat.le_refl _
    · exact Nat.le_trans ih (Nat.le_succ _)

/-- The rise moves the meter value toward the level and not past it (R160). -/
theorem Channel.rise_m_le (c : Channel) {b : Ballistics} (h : Nat) (fraction : b.rise ≤ 256) :
    (c.rise b h).m ≤ max c.m (h * 64) := by
  unfold Channel.rise
  split
  · have : ((h * 64 - c.m) * b.rise + 255) / 256 ≤ h * 64 - c.m := by
      have : (h * 64 - c.m) * b.rise ≤ (h * 64 - c.m) * 256 := Nat.mul_le_mul_left _ fraction
      omega
    show c.m + _ ≤ _
    omega
  · exact Nat.le_max_left _ _

theorem Channel.rise_eq (c : Channel) (b : Ballistics) (h : Nat) : c.rise b h = { c with m := (c.rise b h).m } := by
  unfold Channel.rise
  split <;> rfl

/-- The peak hold after a level: the higher of the two (R163). -/
theorem Channel.peak_eq (c : Channel) (b : Ballistics) (h : Nat) :
    c.peak b h = { c with hv := max c.hv h, hold := (c.peak b h).hold } := by
  unfold Channel.peak
  split
  · next below => rw [Nat.max_eq_right (Nat.le_of_lt below)]
  · next above => rw [Nat.max_eq_left (Nat.le_of_not_lt above)]

theorem Channel.lawful_countOver {c : Channel} (b : Ballistics) (h : Nat) (lawful : c.Lawful) : (c.countOver b h).Lawful := by
  unfold Channel.countOver
  simp only []
  split
  · split <;> exact ⟨lawful.value, lawful.peak, lawful.order, Nat.min_le_left _ _⟩
  · exact ⟨lawful.value, lawful.peak, lawful.order, Nat.zero_le _⟩

/-- A word taken (R157). -/
theorem Channel.lawful_word {c : Channel} {b : Ballistics} {h : Nat} (lawful : c.Lawful) (fraction : b.rise ≤ 256)
    (level : h ≤ 480) : (c.word b h).Lawful := by
  refine Channel.lawful_countOver b h ?_
  have rise := c.rise_m_le h fraction
  have order : c.m / 64 ≤ c.hv := lawful.order
  have value := lawful.value
  have peak := lawful.peak
  rw [Channel.peak_eq, Channel.rise_eq]
  refine ⟨?_, ?_, ?_, lawful.run⟩
  · show (c.rise b h).m ≤ 30720
    omega
  · show max c.hv h ≤ 480
    omega
  · show (c.rise b h).m / 64 ≤ max c.hv h
    omega

/-- A peak hold that follows the level (R164, R168). -/
theorem Channel.Lawful.atLevel {c d : Channel} (h : c.Lawful) (m : d.m ≤ c.m) (hv : d.hv = d.level)
    (run : d.overRun ≤ c.overRun) : d.Lawful := by
  have value := h.value
  refine ⟨Nat.le_trans m value, ?_, Nat.le_of_eq hv.symm, Nat.le_trans run h.run⟩
  rw [hv, Channel.level]
  omega

theorem Channel.lawful_runHold {c : Channel} (h : c.Lawful) : c.runHold.Lawful := by
  unfold Channel.runHold
  split
  · exact h
  · exact h.atLevel (Nat.le_refl _) rfl (Nat.le_refl _)
  · split
    · exact h.atLevel (Nat.le_refl _) rfl (Nat.le_refl _)
    · exact ⟨h.value, h.peak, h.order, h.run⟩

theorem Channel.lawful_runOver {c : Channel} (h : c.Lawful) : c.runOver.Lawful := by
  unfold Channel.runOver
  split
  · exact h
  · exact h
  · split <;> exact ⟨h.value, h.peak, h.order, h.run⟩

/-- A decay expiry (R161). -/
theorem Channel.lawful_decay {c : Channel} (b : Ballistics) (h : c.Lawful) : (c.decay b).Lawful := by
  refine Channel.lawful_runOver (Channel.lawful_runHold ⟨Nat.le_trans (Nat.sub_le _ _) h.value, h.peak, ?_, h.run⟩)
  exact Nat.le_trans (Nat.div_le_div_right (Nat.sub_le _ _)) h.order

theorem Channel.lawful_reset_ {c : Channel} (h : c.Lawful) : c.reset_.Lawful :=
  h.atLevel (Nat.le_refl _) rfl (Nat.zero_le _)

theorem Channel.lawful_clear (c : Channel) (nofeed : Bool) (profile : Fin 4) (enable : Bool) :
    ({ c.clear with nofeed := nofeed, profile := profile, enable := enable } : Channel).Lawful :=
  ⟨Nat.zero_le _, Nat.zero_le _, Nat.le_of_eq (Nat.zero_div 64), Nat.zero_le _⟩

theorem Channel.lawful_load {c : Channel} (profile : Fin 4) (enable : Bool) (b : Ballistics) (h : c.Lawful) :
    (c.load profile enable b).Lawful := by
  unfold Channel.load
  split
  · exact Channel.lawful_clear c c.clear.nofeed profile false
  · exact ⟨h.value, h.peak, h.order, h.run⟩

theorem takeBallistics_rise (ws : List Word) (k : Nat) : (takeBallistics ws k).1.rise ≤ 256 := by
  simp only [takeBallistics, takeRange, clampNat]
  omega

/-- The METER section loaded (R155). -/
theorem Meters.lawful_load {m : Meters} {profiles : Vector Ballistics 4} (entry : ChanId → Fin 4 × Bool) (h : m.Lawful)
    (rises : ∀ k : Fin 4, profiles[k].rise ≤ 256) : (m.load profiles entry).Lawful := by
  refine ⟨fun c => ?_, rises⟩
  show (Vector.ofFn fun c => m.chans[c].load (entry c).1 (entry c).2 profiles[(entry c).1])[c.val].Lawful
  rw [Vector.getElem_ofFn]
  exact Channel.lawful_load _ _ _ (h.chans c)

theorem Meters.lawful_clearAll {m : Meters} (h : m.Lawful) : m.clearAll.Lawful := by
  refine ⟨fun c => ?_, h.rises⟩
  show (m.chans.map fun c : Channel => ({ c.clear with nofeed := true } : Channel))[c.val].Lawful
  rw [Vector.getElem_map]
  exact Channel.lawful_clear _ true _ _

/-- A NOFEED condition bears on no law. -/
theorem Channel.Lawful.withFeed {c : Channel} (h : c.Lawful) (nofeed : Bool) : ({ c with nofeed := nofeed } : Channel).Lawful :=
  ⟨h.value, h.peak, h.order, h.run⟩

theorem Meters.lawful_reset : Meters.reset.Lawful := by
  refine ⟨fun c => ?_, fun k => ?_⟩
  · show (Vector.replicate 64 Channel.reset)[c.val].Lawful
    rw [Vector.getElem_replicate]
    exact ⟨Nat.zero_le _, Nat.zero_le _, Nat.zero_le _, Nat.zero_le _⟩
  · revert k
    decide

/-! ### The link receivers -/

/-- `m` meets the law of the receive queue where `l` does (R147). -/
def LinkRx.Kept (l m : LinkRx) : Prop :=
  l.queue.length ≤ Config.receiveQueueSize → m.queue.length ≤ Config.receiveQueueSize

theorem LinkRx.Kept.of_eq {l m : LinkRx} (h : m.queue = l.queue) : l.Kept m := fun k => h ▸ k

theorem LinkRx.kept_adopt (l : LinkRx) : l.Kept l.adopt := by
  unfold LinkRx.adopt
  split <;> exact .of_eq rfl

theorem LinkRx.judge_queue (l : LinkRx) : l.judge.queue = l.queue := by
  unfold LinkRx.judge
  simp only []
  repeat' split
  all_goals rfl

theorem LinkRx.adopt_queue (l : LinkRx) : l.adopt.queue = l.queue := by
  unfold LinkRx.adopt
  split <;> rfl

theorem LinkRx.takeSync_queue (l : LinkRx) : l.takeSync.queue = l.queue :=
  l.judge.adopt_queue.trans l.judge_queue

theorem LinkRx.reacquire_queue (l : LinkRx) : l.reacquire.queue = l.queue :=
  LinkRx.adopt_queue { l with state := .acquiring, acquired := 0 }

theorem LinkRx.kept_enqueue (l : LinkRx) (w : RoutedWord) : l.Kept (l.enqueue w) := by
  unfold LinkRx.enqueue
  split
  · next room =>
    intro _
    show (l.queue ++ [w]).length ≤ _
    rw [List.length_append]
    exact room
  · exact .of_eq rfl

theorem LinkRx.kept_deliverWord (l : LinkRx) (w : LinkWord) : l.Kept (l.deliverWord w) := by
  unfold LinkRx.deliverWord
  split
  · exact .of_eq rfl
  · exact l.kept_enqueue _
  · exact .of_eq rfl

theorem LinkRx.kept_completeWord (l : LinkRx) (w : LinkWord) : l.Kept (l.completeWord w) := by
  unfold LinkRx.completeWord
  split
  · exact l.kept_deliverWord w
  · exact .of_eq rfl

theorem LinkRx.kept_shiftBit (l : LinkRx) (b : Bool) : l.Kept (l.shiftBit b) := by
  unfold LinkRx.shiftBit
  simp only []
  split
  · exact .of_eq rfl
  · exact LinkRx.kept_completeWord { l with assembly := [] } _

/-- One rising edge of the link clock (R138, R139). -/
theorem LinkRx.kept_edge (l : LinkRx) (x : LinkSample) : l.Kept (l.edge x) := by
  unfold LinkRx.edge
  simp only []
  split
  · exact .of_eq rfl
  · split
    · have opened : ∀ m : LinkRx, m.queue = l.queue → l.Kept (if l.settings.sync = .word then m.shiftBit x.dat else m) := by
        intro m e
        split
        · exact fun k => m.kept_shiftBit x.dat (e ▸ k)
        · exact .of_eq e
      refine opened _ ?_
      split
      · exact LinkRx.reacquire_queue _
      · exact LinkRx.takeSync_queue _
    · split
      · exact LinkRx.kept_shiftBit { l with lastFs := x.fs } x.dat
      · exact .of_eq rfl

theorem LinkRx.kept_leave (l : LinkRx) : l.Kept l.leave := fun _ => Nat.zero_le _

theorem LinkRx.kept_load (l : LinkRx) (start : Bool) (settings : LinkSettings) (map : Vector Slot 32) :
    l.Kept (l.load start settings map) := by
  unfold LinkRx.load
  simp only []
  split
  · split
    · split <;> exact .of_eq rfl
    · exact .of_eq rfl
  · split
    · exact .of_eq rfl
    · exact l.kept_leave

end Sys2Proof.Machine
end

section
/-!
SUPPORT. What a step does, said once for all the laws. `State.Steady` relates a state to one in which every block has kept its own
law and the image and the part's control stand as they were; `StepKeeps` lists what is left: the image, the reports and the
changes of the part state. A property that meets the list is kept by every command.
-/
namespace Sys2Proof.Machine

/-! ### Steady changes -/

/-- `t` comes from `s` without an access to the image, a report begun or a change of the part's control, each block keeping its
own law. -/
structure State.Steady (s t : State) : Prop where
  pending   : t.pending = s.pending
  memory    : t.memory = s.memory
  posted    : t.posted = s.posted
  strips    : ∀ i : StripId, (s.strip i).Kept (t.strip i)
  arbiter   : s.arbiter.Lawful → t.arbiter.Lawful
  meters    : s.meters.Lawful → t.meters.Lawful
  links     : ∀ k : LinkId, s.links[k].Kept t.links[k]
  writer    : s.writer.Kept t.writer
  attention : s.attention.Bounded → t.attention.Bounded
  enable    : t.motors.enable = s.motors.enable
  state     : t.part.state = s.part.state
  checking  : t.part.checking = true → s.part.checking = true
  due       : t.part.sequenceDue = true → s.part.sequenceDue = true
  stop      : t.part.stop = s.part.stop
  header    : t.part.header = s.part.header
  enabled   : t.scanner.enabled = true → s.scanner.enabled = true
  warm      : t.scanner.warm = true → s.scanner.warm = true
  run       : t.reporter.run = s.reporter.run
  bank      : t.reporter.bank = s.reporter.bank
  timer     : t.reporter.timer ≠ none → s.reporter.timer ≠ none

theorem State.Steady.refl (s : State) : s.Steady s :=
  { pending := rfl, memory := rfl, posted := rfl, strips := fun _ => .refl _, arbiter := fun h => h, meters := fun h => h
    links := fun _ => .of_eq rfl, writer := .refl _, attention := fun h => h, enable := rfl, state := rfl
    checking := fun h => h, due := fun h => h, stop := rfl, header := rfl, enabled := fun h => h, warm := fun h => h
    run := rfl, bank := rfl, timer := fun h => h }

theorem State.Steady.trans {s t u : State} (h : s.Steady t) (k : t.Steady u) : s.Steady u where
  pending := k.pending.trans h.pending
  memory := k.memory.trans h.memory
  posted := k.posted.trans h.posted
  strips i := (h.strips i).trans (k.strips i)
  arbiter l := k.arbiter (h.arbiter l)
  meters l := k.meters (h.meters l)
  links i l := k.links i (h.links i l)
  writer := h.writer.trans k.writer
  attention l := k.attention (h.attention l)
  enable := k.enable.trans h.enable
  state := k.state.trans h.state
  checking l := h.checking (k.checking l)
  due l := h.due (k.due l)
  stop := k.stop.trans h.stop
  header := k.header.trans h.header
  enabled l := h.enabled (k.enabled l)
  warm l := h.warm (k.warm l)
  run := k.run.trans h.run
  bank := k.bank.trans h.bank
  timer l := h.timer (k.timer l)

theorem State.Steady.comp {s t u : State} (k : t.Steady u) (h : s.Steady t) : s.Steady u := h.trans k

theorem State.Steady.ite {p : Prop} [Decidable p] {s t u : State} (h : s.Steady t) (k : s.Steady u) :
    s.Steady (if p then t else u) := by
  split <;> assumption

/-! ### One block at a time -/

theorem State.steady_strips (s : State) {v : Vector Strip 32} (h : ∀ i : StripId, (s.strip i).Kept v[i]) :
    s.Steady { s with strips := v } := { State.Steady.refl s with strips := h }

theorem State.steady_ofFnStrips (s : State) {f : StripId → Strip} (h : ∀ i, (s.strip i).Kept (f i)) :
    s.Steady { s with strips := Vector.ofFn f } := s.steady_strips fun i => by simpa using h i

theorem State.steady_setStrip (s : State) (i : StripId) {x : Strip} (h : (s.strip i).Kept x) : s.Steady (s.setStrip i x) := by
  refine s.steady_strips fun j => ?_
  show (s.strip j).Kept (s.strips.set i.val x)[j.val]
  rw [Vector.getElem_set]
  split
  · next e =>
    obtain rfl : i = j := Fin.ext e
    exact h
  · exact .refl _

theorem State.steady_gangs (s : State) (v : Vector Gang 8) : s.Steady { s with gangs := v } := { State.Steady.refl s with }

theorem State.steady_inFlight (s : State) (l : List Instr) : s.Steady { s with inFlight := l } := { State.Steady.refl s with }

theorem State.steady_deliver (s : State) (e : Instr) : s.Steady (s.deliver e) := s.steady_inFlight _

theorem State.steady_deliverAll (s : State) (js : List StripId) (e : StripId → Instr) : s.Steady (s.deliverAll js e) :=
  s.steady_inFlight _

theorem State.steady_take (s : State) (e : Instr) : s.Steady (s.take e) := s.steady_inFlight _

theorem State.steady_sweep (s : State) (v : Sweep) : s.Steady { s with sweep := v } := { State.Steady.refl s with }

theorem State.steady_answer (s : State) (o : Outcome) (r : Word) : s.Steady (s.answer o r) := s.steady_sweep _

theorem State.steady_touchScan (s : State) (v : TouchScanner) : s.Steady { s with touchScan := v } :=
  { State.Steady.refl s with }

theorem State.steady_bars (s : State) (v : Bars) : s.Steady { s with bars := v } := { State.Steady.refl s with }

theorem State.steady_input (s : State) (v : MeterInput) : s.Steady { s with input := v } := { State.Steady.refl s with }

theorem State.steady_msupOk (s : State) (v : Bool) : s.Steady { s with msupOk := v } := { State.Steady.refl s with }

theorem State.steady_servo (s : State) (v : Vector ServoClass 4) : s.Steady { s with servoLoaded := v } :=
  { State.Steady.refl s with }

theorem State.steady_motors (s : State) {v : Motors} (h : v.enable = s.motors.enable) : s.Steady { s with motors := v } :=
  { State.Steady.refl s with enable := h }

theorem State.steady_arbiter (s : State) {a : Arbiter} (h : s.arbiter.Lawful → a.Lawful) : s.Steady { s with arbiter := a } :=
  { State.Steady.refl s with arbiter := h }

theorem State.steady_meters (s : State) {m : Meters} (h : s.meters.Lawful → m.Lawful) : s.Steady { s with meters := m } :=
  { State.Steady.refl s with meters := h }

theorem State.steady_links (s : State) {v : Vector LinkRx 2} (h : ∀ k : LinkId, s.links[k].Kept v[k]) :
    s.Steady { s with links := v } := { State.Steady.refl s with links := h }

theorem State.steady_writer (s : State) {w : Writer} (h : s.writer.Kept w) : s.Steady { s with writer := w } :=
  { State.Steady.refl s with writer := h }

theorem State.steady_attention (s : State) {a : Attention} (h : s.attention.Bounded → a.Bounded) :
    s.Steady { s with attention := a } := { State.Steady.refl s with attention := h }

theorem State.steady_setCause (s : State) (c : Cause) : s.Steady (s.setCause c) := s.steady_attention fun h => h

/-- The scanner changed, the converter not enabled and no warm round begun by it. -/
theorem State.steady_scanner (s : State) {c : Scanner} (enabled : c.enabled = true → s.scanner.enabled = true)
    (warm : c.warm = true → s.scanner.warm = true) : s.Steady { s with scanner := c } :=
  { State.Steady.refl s with enabled := enabled, warm := warm }

/-- Part Control's registers changed, its states and phases as they were or the header check or start sequence no longer due. -/
theorem State.steady_part (s : State) {p : Part} (state : p.state = s.part.state)
    (checking : p.checking = true → s.part.checking = true) (due : p.sequenceDue = true → s.part.sequenceDue = true)
    (stop : p.stop = s.part.stop) (header : p.header = s.part.header) : s.Steady { s with part := p } :=
  { State.Steady.refl s with state := state, checking := checking, due := due, stop := stop, header := header }

/-- The Report Writer's timer and periods changed, with no report begun. -/
theorem State.steady_reporter (s : State) {r : Reporter} (run : r.run = s.reporter.run) (bank : r.bank = s.reporter.bank)
    (timer : r.timer ≠ none → s.reporter.timer ≠ none) : s.Steady { s with reporter := r } :=
  { State.Steady.refl s with run := run, bank := bank, timer := timer }

/-! ### Records and contexts -/

theorem State.steady_handRecord (s : State) (r : Rec) : s.Steady (s.handRecord r) := by
  have hand : s.Steady { s with
      writer := s.writer.hand (s.part.state = .stopping) { record := r, time := s.part.time } } :=
    s.steady_writer (s.writer.kept_hand _ _)
  unfold State.handRecord
  simp only []
  split
  · exact hand
  · next seeking =>
    split
    · exact hand.trans (State.steady_deliver _ _)
    · split
      · refine hand.trans (State.steady_writer _ (Writer.kept_obtain _ ?_))
        exact (Writer.hand_state _ _ _).trans (Classical.not_not.mp seeking)
      · exact hand

theorem State.steady_effect (s : State) (i : StripId) (e : Effect) : s.Steady (s.effect i e) := by
  cases e with
  | record r => exact s.steady_handRecord r
  | drive u => exact s.steady_motors rfl
  | request p => exact s.steady_deliver _
  | withdraw => exact s.steady_deliver _
  | giveBack => exact s.steady_deliver _
  | cause c => exact s.steady_setCause c

theorem State.steady_effects (s : State) (i : StripId) (es : List Effect) : s.Steady (s.effects i es) := by
  induction es generalizing s with
  | nil => exact .refl s
  | cons e es ih => exact (s.steady_effect i e).trans (ih _)

/-- An event taken at a context. -/
theorem State.steady_runStrip (s : State) (i : StripId) {f : Ctx → Ctx} (h : ∀ c : Ctx, c.Kept (f c)) :
    s.Steady (s.runStrip i f) := 
  (s.steady_setStrip i (x := (f (s.contextAt i)).strip) (h (s.contextAt i))).trans (State.steady_effects _ i _)

/-- A command taken at a context. -/
theorem State.steady_runCommand (s : State) (i : StripId) {f : Ctx → Ctx × Outcome} (h : ∀ c : Ctx, c.Kept (f c).1) :
    s.Steady (s.runCommand i f) := (s.steady_runStrip i h).trans (State.steady_answer _ _ _)

/-! ### Sensing, the hand and gangs -/

theorem State.steady_setGang (s : State) (g : GangId) (x : Gang) : s.Steady (s.setGang g x) := s.steady_gangs _

theorem State.steady_leaderMoved (s : State) (i : StripId) : s.Steady (s.leaderMoved i) := by
  unfold State.leaderMoved
  simp only []
  split
  · split
    · exact (s.steady_setGang _ _).trans (State.steady_deliverAll _ _ _)
    · exact .refl s
  · exact .refl s

theorem State.steady_sampleArrival (s : State) (i : StripId) (code : Code) : s.Steady (s.sampleArrival i code) :=
  .ite (.refl s) ((s.steady_runStrip i fun c => c.kept_arrive _ _ code).trans (State.steady_leaderMoved _ i))

theorem State.steady_startActivity (s : State) (g : GangId) (i : StripId) : s.Steady (s.startActivity g i) := by
  have lead : s.Steady ((s.setGang g { s.gang g with
      activity := some { leader := i, pL := (s.strip i).p, handovers := 0 }, serial := (s.gang g).serial + 1 }).setStrip i
      { s.strip i with role := .leader, v := (s.strip i).p, freeze := false, followTarget := none }) :=
    (s.steady_setGang g _).trans (State.steady_setStrip _ i (.atPosition rfl rfl rfl rfl rfl rfl))
  exact (lead.trans (State.steady_handRecord _ _)).trans (State.steady_deliverAll _ _ _)

theorem State.strip_handRecord (s : State) (r : Rec) (i : StripId) : (s.handRecord r).strip i = s.strip i := by
  obtain ⟨w, es, h⟩ := s.handRecord_eq r
  rw [h]
  rfl

theorem State.steady_handOver (s : State) (g : GangId) (a : Activity) (old new : StripId) {oldLeader : Nat → Ctx → Ctx}
    (h : ∀ (p : Nat) (c : Ctx), c.Kept (oldLeader p c)) : s.Steady (s.handOver g a old new oldLeader) := by
  have told : s.Steady ((s.setGang g { s.gang g with
      activity := some { leader := new, pL := (s.strip new).p, handovers := a.handovers + 1 } }).handRecord
      (.gang g new .leader)) := (s.steady_setGang g _).trans (State.steady_handRecord _ _)
  refine State.Steady.comp (State.steady_deliverAll _ _ _) (State.Steady.comp (State.steady_runStrip _ old (h _))
    (told.trans (State.steady_setStrip _ new ?_)))
  exact .atPosition rfl rfl rfl (by rw [State.strip_handRecord]; rfl) rfl rfl

theorem State.steady_endActivity (s : State) (g : GangId) (i : StripId) : s.Steady (s.endActivity g i) :=
  State.Steady.comp (State.steady_deliverAll _ _ _) (State.Steady.comp
    (State.steady_setStrip _ i (.same rfl rfl rfl rfl rfl rfl))
    (State.Steady.comp (State.steady_handRecord _ _) (s.steady_setGang g _)))

theorem State.steady_leaderDeparts (s : State) (i : StripId) : s.Steady (s.leaderDeparts i) := by
  unfold State.leaderDeparts
  simp only []
  split
  · split
    · split
      · exact s.steady_handOver _ _ _ _ fun _ _ => .same rfl rfl rfl rfl rfl rfl
      · exact s.steady_endActivity _ _
    · exact .refl s
  · exact .refl s

theorem State.steady_touchGang (s : State) (i : StripId) : s.Steady (s.touchGang i) := by
  unfold State.touchGang
  split
  · exact .refl s
  · split
    · exact s.steady_startActivity _ _
    · exact .ite (.refl s) (s.steady_runStrip i Ctx.kept_beginTrimming)

theorem State.steady_touchOn (s : State) (i : StripId) : s.Steady (s.touchOn i) :=
  have touched := s.steady_runStrip i Ctx.kept_touchOn
  .ite (.refl s) (.ite (touched.trans (State.steady_touchGang _ i)) touched)

theorem State.steady_release (s : State) (i : StripId) : s.Steady (s.release i) := by
  have whole := s.steady_runStrip i Ctx.kept_release
  unfold State.release
  simp only []
  split
  · split
    · split
      · exact (s.steady_runStrip i Ctx.kept_releaseHead).trans
          (State.steady_handOver _ _ _ _ _ fun p c => c.kept_followNewLeader p)
      · exact whole.trans (State.steady_endActivity _ _ _)
    · exact whole
  · exact whole

theorem State.steady_touchOff (s : State) (i : StripId) : s.Steady (s.touchOff i) := by
  unfold State.touchOff
  simp only []
  split
  · exact .refl s
  · split
    · exact s.steady_setStrip i (.same rfl rfl rfl rfl rfl rfl)
    · exact s.steady_setStrip i (.same rfl rfl rfl rfl rfl rfl)
    · exact .ite (s.steady_runStrip i fun c => c.kept_rejoin _) (s.steady_release i)
    · exact .refl s

theorem State.steady_gangJoin (s : State) (i : StripId) (j : JoinArgs) : s.Steady (s.gangJoin i j) := by
  unfold State.gangJoin
  simp only []
  split
  · exact .refl s
  · exact .ite (.refl s) (s.steady_runStrip i fun c => c.kept_join _)

theorem State.steady_followUpdate (s : State) (i : StripId) (pL : Nat) : s.Steady (s.followUpdate i pL) :=
  .ite (s.steady_setStrip i (Strip.kept_followed _ pL)) (.refl s)

theorem State.steady_reOffset (s : State) (i : StripId) (pL : Nat) : s.Steady (s.reOffset i pL) :=
  .ite (s.steady_setStrip i (.same rfl rfl rfl rfl rfl rfl)) (.refl s)

theorem State.steady_gangEnd (s : State) (i : StripId) : s.Steady (s.gangEnd i) :=
  .ite (s.steady_runStrip i Ctx.kept_activityEnded) (.refl s)

theorem State.steady_setMembers (s : State) (g : GangId) (l : List StripId) : s.Steady (s.setMembers g l) := by
  have listed := s.steady_setGang g { s.gang g with members := allStrips.filter (· ∈ l) }
  exact listed.trans (State.steady_ofFnStrips _ fun i => .same rfl rfl rfl rfl rfl rfl)

theorem State.steady_gangSet (s : State) (g : GangId) (count : Word) (entries : List Word) :
    s.Steady (s.gangSet g count entries) := by
  unfold State.gangSet
  simp only []
  split
  · exact s.steady_answer _ _
  · split
    · exact s.steady_answer _ _
    · split
      · exact s.steady_answer _ _
      · split
        · exact s.steady_answer _ _
        · exact (s.steady_setMembers _ _).trans (State.steady_answer _ _ _)

/-! ### Commands of the cells -/

theorem State.steady_calibrate (s : State) (i : StripId) (tag : Half) : s.Steady (s.calibrate i tag) :=
  have taken := s.steady_runCommand i fun c => c.kept_calibrate s.stripCount tag
  .ite (taken.trans (State.steady_leaderDeparts _ i)) taken

theorem State.steady_stripOff (s : State) (i : StripId) : s.Steady (s.stripOff i) :=
  have taken := s.steady_runCommand i fun c => c.kept_stripOff s.stripCount
  .ite (taken.trans (State.steady_leaderDeparts _ i)) taken

theorem State.steady_stripOn (s : State) (i : StripId) : s.Steady (s.stripOn i) :=
  have taken := s.steady_runCommand i fun c => c.kept_stripOn s.stripCount
  .ite (taken.trans (State.steady_touchScan _ _)) taken

theorem State.steady_sceneEntry (s : State) (i : StripId) (jump : Bool) (a : MoveArgs) : s.Steady (s.sceneEntry i jump a) :=
  s.steady_runCommand i fun c => c.kept_moveOrJump jump _ a .scene

theorem State.steady_sceneEntries (a : SceneArgs) (ws : List Word) (s : State) (r : Word) :
    s.Steady (State.sceneEntries a ws (s, r)).1 := by
  induction ws generalizing s r with
  | nil => exact .refl s
  | cons w ws ih => exact (s.steady_sceneEntry _ _ _).trans (ih _ _)

theorem State.steady_scene (s : State) (a : SceneArgs) (entries : List Word) : s.Steady (s.scene a entries) :=
  .ite (s.steady_answer _ _) ((State.steady_sceneEntries a _ s 0).trans (State.steady_answer _ _ _))

/-- The event counters bear on no law. -/
theorem State.steady_clearCounters (s : State) : s.Steady s.clearCounters where
  pending := rfl
  memory := rfl
  posted := rfl
  strips i := by
    show (s.strip i).Kept (s.strips.map Strip.zeroCounters)[i.val]
    rw [Vector.getElem_map]
    exact .same rfl rfl rfl rfl rfl rfl
  arbiter h := h
  meters h := h
  links k := by
    show s.links[k].Kept (s.links.map LinkRx.zeroCounters)[k.val]
    rw [Vector.getElem_map]
    exact .of_eq rfl
  writer := ⟨fun h => h, fun h => h, fun h => ⟨h.used, h.service, h.hold⟩⟩
  attention h := h
  enable := rfl
  state := rfl
  checking h := h
  due h := h
  stop := rfl
  header := rfl
  enabled h := h
  warm h := h
  run := rfl
  bank := rfl
  timer h := h

/-! ### Grants and the motor supply -/

theorem State.steady_grantDecision (s : State) {a : Arbiter} (h : s.arbiter.Lawful → a.Lawful) : s.Steady (s.grantDecision a) :=
  (s.steady_arbiter fun l => Arbiter.lawful_decideFor _ (h l)).trans (State.steady_inFlight _ _)

theorem State.steady_grantRequest (s : State) (i : StripId) (p : Priority) : s.Steady (s.grantRequest i p) :=
  s.steady_grantDecision (Arbiter.lawful_request i p)

theorem State.steady_grantWithdrawal (s : State) (i : StripId) : s.Steady (s.grantWithdrawal i) :=
  s.steady_arbiter (Arbiter.lawful_withdraw i)

theorem State.steady_grantReturn (s : State) (i : StripId) : s.Steady (s.grantReturn i) :=
  .ite (s.steady_grantDecision (Arbiter.lawful_giveBack i)) (.refl s)

theorem State.steady_takeGrantEvent (s : State) (e : Instr) : s.Steady (s.takeGrantEvent e) := by
  unfold State.takeGrantEvent
  split
  · exact s.steady_grantRequest _ _
  · exact s.steady_grantWithdrawal _
  · exact s.steady_grantReturn _
  · exact s.steady_runStrip _ Ctx.kept_granted
  · exact .refl s

theorem State.steady_settleGrants (s : State) : s.Steady s.settleGrants :=
  State.settleGrants_induct (P := s.Steady)
    (fun t e _ _ h => h.trans ((t.steady_take e).trans (State.steady_takeGrantEvent _ e))) (.refl s)

theorem State.steady_supplyLow (s : State) : s.Steady s.supplyLow := by
  have level := s.steady_msupOk false
  unfold State.supplyLow
  simp only []
  split
  · split
    · exact (level.trans (State.steady_arbiter _ fun h => h.withSupply .low s.arbiter.recovery)).trans
        (State.steady_setCause _ _)
    · exact level.trans (State.steady_arbiter _ fun h => h.withSupply s.arbiter.supply none)
  · exact level

theorem State.steady_supplyRise (s : State) : s.Steady s.supplyRise :=
  have level := s.steady_msupOk true
  .ite (level.trans (State.steady_arbiter _ fun h => h.withSupply s.arbiter.supply _)) level

theorem State.steady_recoveryExpiry (s : State) : s.Steady s.recoveryExpiry :=
  .ite ((s.steady_setCause .supply).trans (State.steady_grantDecision _ fun h => h.withSupply .ok none)) (.refl s)

theorem State.steady_readSupply (s : State) : s.Steady s.readSupply :=
  .ite (s.steady_arbiter fun h => h.withSupply .ok none)
    ((s.steady_arbiter fun h => h.withSupply .low none).trans (State.steady_setCause _ _))

theorem State.steady_driveExpiry (s : State) (i : StripId) : s.Steady (s.driveExpiry i) :=
  .ite (s.steady_motors rfl) (.refl s)

/-! ### Meters and links -/

theorem State.steady_setChan (s : State) (c : ChanId) {x : Channel} (h : s.meters.Lawful → x.Lawful) :
    s.Steady (s.setChan c x) := s.steady_meters fun l => l.set c (h l)

theorem State.steady_meterWord (s : State) (c : ChanId) (w : LinkWord) : s.Steady (s.meterWord c w) :=
  .ite (s.steady_setChan c fun l => Channel.lawful_word (l.chans c) (l.rise_le c) (levelUpTo_le _ _)) (.refl s)

theorem State.steady_decayExpiry (s : State) : s.Steady s.decayExpiry := by
  refine .ite (s.steady_meters fun l => l.ofFn (fun c => ?_) _) (.refl s)
  split
  · exact Channel.lawful_decay _ (l.chans c)
  · exact l.chans c

theorem State.steady_resetChan (s : State) (c : ChanId) : s.Steady (s.resetChan c) :=
  .ite (s.steady_setChan c fun l => Channel.lawful_reset_ (l.chans c)) (.refl s)

theorem State.steady_meterReset (s : State) (count : Word) (entries : List Word) : s.Steady (s.meterReset count entries) := by
  have resets : ∀ (l : List ChanId) (t : State), t.Steady (l.foldl State.resetChan t) := by
    intro l
    induction l with
    | nil => exact State.Steady.refl
    | cons c l ih => exact fun t => (t.steady_resetChan c).trans (ih _)
  exact .ite ((resets _ s).trans (State.steady_answer _ _ _)) ((resets _ s).trans (State.steady_answer _ _ _))

theorem State.steady_deriveFeed (s : State) : s.Steady s.deriveFeed :=
  s.steady_meters fun l => l.ofFn (fun c => (l.chans c).withFeed _) _

theorem State.steady_setLink (s : State) (k : LinkId) {l : LinkRx} (h : s.links[k].Kept l) : s.Steady (s.setLink k l) := by
  have set : s.Steady { s with links := s.links.set k l } := by
    refine s.steady_links fun j => ?_
    show s.links[j].Kept (s.links.set k.val l)[j.val]
    rw [Vector.getElem_set]
    split
    · next e =>
      obtain rfl : k = j := Fin.ext e
      exact h
    · exact .of_eq rfl
  have news := State.Steady.ite (p := linkNews s.links[k] l) (set.trans (State.steady_setCause _ .link)) set
  exact .ite (news.trans (State.steady_deriveFeed _)) news

theorem State.steady_leaveLinks (s : State) : s.Steady s.leaveLinks := by
  refine State.Steady.comp (State.steady_deriveFeed _) (s.steady_links fun k => ?_)
  show s.links[k].Kept (s.links.map LinkRx.leave)[k.val]
  rw [Vector.getElem_map]
  exact LinkRx.kept_leave _

theorem State.steady_beginService (s : State) : s.Steady s.beginService := by
  unfold State.beginService
  split
  · next k _ _ =>
    refine (State.steady_links s (v := s.links.set k { s.links[k] with queue := s.links[k].queue.tail }) fun j => ?_).trans
      (State.steady_input _ _)
    show s.links[j].Kept (s.links.set k.val { s.links[k] with queue := s.links[k].queue.tail })[j.val]
    rw [Vector.getElem_set]
    split
    · next e =>
      obtain rfl : k = j := Fin.ext e
      intro l
      show s.links[k].queue.tail.length ≤ _
      rw [List.length_tail]
      exact Nat.le_trans (Nat.sub_le _ _) l
    · exact .of_eq rfl
  · exact .refl s

theorem State.steady_deliverRouted (s : State) (w : RoutedWord) : s.Steady (s.deliverRouted w) := by
  unfold State.deliverRouted
  split
  · exact .ite (s.steady_deliver _) (.refl s)
  · exact .ite (s.steady_deliver _) (.refl s)
  · exact .refl s

theorem State.steady_serviceEnd (s : State) : s.Steady s.serviceEnd := by
  unfold State.serviceEnd
  split
  · exact .refl s
  · exact ((s.steady_input _).trans (State.steady_deliverRouted _ _)).trans (State.steady_beginService _)

theorem State.steady_linkEdge (s : State) (k : LinkId) (x : LinkSample) : s.Steady (s.linkEdge k x) :=
  (s.steady_setLink k (LinkRx.kept_edge _ x)).trans (State.steady_beginService _)

theorem State.steady_linkEdges (s : State) (k : LinkId) (xs : List LinkSample) : s.Steady (s.linkEdges k xs) := by
  unfold State.linkEdges
  induction xs generalizing s with
  | nil => exact .refl s
  | cons x xs ih => exact (s.steady_linkEdge k x).trans (ih _)

theorem State.steady_linkTimeout (s : State) (k : LinkId) : s.Steady (s.linkTimeout k) :=
  .ite (s.steady_setLink k (.of_eq rfl)) (.refl s)

/-! ### Setup loads -/

theorem State.steady_loadLink (s : State) (start : Bool) (ws : List Word) (k : LinkId) : s.Steady (s.loadLink start ws k) :=
  s.steady_setLink k (LinkRx.kept_load _ _ _ _)

/-- A section handed to its owner (R195). -/
theorem State.steady_handSection (s : State) (start : Bool) (ws : List Word) (sec : SetupSection) :
    s.Steady (s.handSection start ws sec) := by
  cases sec with
  | servo => exact s.steady_servo _
  | strip => exact s.steady_ofFnStrips fun i => .same rfl rfl rfl rfl rfl rfl
  | scan => exact s.steady_scanner (fun h => h) (fun h => h)
  | touch => exact s.steady_touchScan _
  | grant => exact s.steady_grantDecision fun h => Arbiter.lawful_load h (takeGrant_order ws)
  | drive => exact s.steady_motors rfl
  | meter => exact s.steady_meters fun h => Meters.lawful_load _ h fun k => by simpa using takeBallistics_rise ws k.val
  | scale => exact s.steady_bars _
  | bars => exact s.steady_bars _
  | link => exact (s.steady_loadLink start ws 0).trans (State.steady_loadLink _ start ws 1)
  | attn =>
    show s.Steady (s.loadAttn start _)
    unfold State.loadAttn
    split
    · exact s.steady_attention fun h => Attention.bounded_loadAtStart _ _ _ (Attention.bounded_loadAtStart _ _ _ h)
    · exact s.steady_attention fun h => Attention.bounded_load _ _ _ (Attention.bounded_load _ _ _ h)
  | report =>
    exact { State.Steady.refl s with writer := ⟨fun h => h, fun h => h, fun h => ⟨h.used, h.service, h.hold⟩⟩ }

theorem State.steady_loadSection (start : Bool) (acc : State × Word) (sec : SetupSection) :
    acc.1.Steady (State.loadSection start acc sec).1 := acc.1.steady_handSection start _ sec

theorem State.steady_loadSections (s : State) (start : Bool) (secs : List SetupSection) :
    s.Steady (s.loadSections start secs).1 := by
  have loads : ∀ (secs : List SetupSection) (acc : State × Word),
      acc.1.Steady (secs.foldl (State.loadSection start) acc).1 := by
    intro secs
    induction secs with
    | nil => exact fun acc => .refl _
    | cons sec secs ih => exact fun acc => (State.steady_loadSection start acc sec).trans (ih _)
  exact loads secs (s, 0)

/-! ### Scans and the end of work -/

theorem State.steady_scanExpiry (s : State) : s.Steady s.scanExpiry := by
  unfold State.scanExpiry
  simp only []
  split
  · split
    · exact s.steady_scanner (fun h => h) nofun
    · exact s.steady_scanner (fun h => h) (fun h => h)
  · exact .refl s

theorem State.steady_touchExpiry (s : State) (tch : BitVec 32) : s.Steady (s.touchExpiry tch) := by
  unfold State.touchExpiry
  simp only []
  exact .ite { State.Steady.refl s with } (.refl s)

theorem State.steady_endGang (s : State) (g : GangId) : s.Steady (s.endGang g) := by
  unfold State.endGang
  split
  · exact s.steady_handRecord _
  · exact .refl s

/-- Steps 1 and 2 of the STOP sequence (R183). -/
theorem State.steady_stopWork (s : State) : s.Steady s.stopWork := by
  have gangs : ∀ (l : List GangId) (t : State), t.Steady (l.foldl State.endGang t) := by
    intro l
    induction l with
    | nil => exact State.Steady.refl
    | cons g l ih => exact fun t => (t.steady_endGang g).trans (ih _)
  have strips : ∀ (l : List StripId) (t : State), t.Steady (l.foldl (fun t i => t.runStrip i Ctx.endWork) t) := by
    intro l
    induction l with
    | nil => exact State.Steady.refl
    | cons i l ih => exact fun t => (t.steady_runStrip i Ctx.kept_endWork).trans (ih _)
  exact State.Steady.comp (State.steady_settleGrants _) (State.Steady.comp (strips _ _)
    (State.Steady.comp (State.steady_gangs _ _) (gangs _ s)))

end Sys2Proof.Machine
end

section
/-!
SUPPORT. The list of what a step can do beside steady changes, and the proof that a property which meets the list is kept by every
command.
-/
namespace Sys2Proof.Machine

/-! ### The list -/

theorem State.readSupply_part (s : State) : s.readSupply.part = s.part := by
  unfold State.readSupply
  split <;> rfl

theorem State.issueOldest_posted (s : State) : s.issueOldest.posted = s.posted.tail := by
  unfold State.issueOldest
  split
  · next h => rw [h]; rfl
  · next w rest h =>
    rw [h]
    cases w.note <;> rfl

/-- A place in the posted-write queue, if `P` bounds that queue by its 8 places. -/
def Roomy (P : State → Prop) (s : State) : Prop :=
  (∀ u, P u → u.posted.length ≤ Config.postedQueueSize) → s.posted.length < Config.postedQueueSize

/-- The part as it enters RUNNING, its header words handed (R182). -/
def State.running (t : State) : State :=
  { t with
    part := { t.part with state := .running }
    motors := { t.motors with enable := true }
    scanner := { t.scanner with timer := some t.scanner.period }
    touchScan := { t.touchScan with timer := true }
    sweep := { t.sweep with period := t.sweep.periodStaged, timer := some t.sweep.periodStaged }
    reporter := { t.reporter with
      bank := .a, count := 0, period := t.reporter.periodStaged, timer := some t.reporter.periodStaged } }

theorem State.entryRunning_eq (s : State) : s.entryRunning = (s.postAll s.firstHeader).running.setCause .state := rfl

/-- The part as it enters HALTED at the end of the STOP sequence (R183). -/
def State.halted (s : State) : State :=
  { s with
    inFlight := s.inFlight.filter isArrival
    part := { s.part with state := .halted, stop := .idle }
    meters := { s.meters with decay := false }
    writer := { s.writer with lost := 0, deadSeek := false }
    arbiter := { s.arbiter with recovery := none }
    attention := s.attention.flushBoth.set .state }

theorem State.steady_startStrips (s : State) : s.Steady s.startStrips :=
  s.steady_ofFnStrips (f := fun i => s.strips[i].begin (decide (i.val < s.stripCount))) fun _ => .same rfl rfl rfl rfl rfl rfl

theorem State.startStrips_part (s : State) : s.startStrips.part = s.part := by
  unfold State.startStrips
  rfl

/-- A property kept by steady changes, by what is done at the image and the reports, and by the changes of the part's control. -/
structure StepKeeps (P : State → Prop) : Prop where
  steady : ∀ {s t : State}, s.Steady t → P s → P t
  host : ∀ {s : State} (ws : List HostWrite), P s → P (s.hostWrote ws)
  issue : ∀ {s : State}, P s → P s.issueOldest
  action : ∀ {s : State}, P s → Roomy P s → P s.reportAction
  append : ∀ {s : State} (w : PostedWrite), P s → Roomy P s → P { s with posted := s.posted ++ [w] }
  report : ∀ {s : State}, P s → s.reporter.run = none →
    s.reporter.timer ≠ none ∨ s.part.state = .stopping ∧ s.part.stop = .awaitReport → P s.beginReport
  close : ∀ {s₀ s : State}, P s₀ → s₀.writer.state = .filling ∨ s₀.writer.hold ≠ none →
    s.writer = { s₀.writer with hold := none } → P s →
    P { s with attention := s.attention.event .activity, writer := s.writer.closed }
  check : ∀ {s : State}, P s → s.part.state = .halted →
    P { s with part := { s.part with base := s.part.ibase, checking := true } }
  accept : ∀ {s₀ s : State} (h : HeaderCounts), P s₀ → s₀.part.checking = true → s.part = s₀.part → headerFailure h = none →
    P s → P { s with part := { s.part with
      checking := false, startResult := .noResult, failing := none, header := h, state := .starting,
      sequenceDue := true, time := 0 } }
  beginWriter : ∀ {s₀ s : State}, P s₀ → s₀.part.sequenceDue = true → s.part.header = s₀.part.header → P s →
    P { s with writer := s.writer.begin s.part.header }
  convert : ∀ {s₀ s : State}, P s₀ → s₀.part.sequenceDue = true → s.part.state = s₀.part.state →
    s.part.sequenceDue = false → P s → P s.startConverter
  abandon : ∀ {s₀ s : State}, P s₀ → s₀.part.sequenceDue = true ∨ s₀.part.state = .starting →
    s.part.state = s₀.part.state → P s → P s.abandonStart
  run : ∀ {s₀ s : State}, P s₀ → s₀.scanner.enabled = true → s₀.scanner.warm = true → s.scanner.warm = false →
    s.part = s₀.part → P s → P s.running
  enterStopping : ∀ {s : State}, P s → s.part.state = .running → P s.enterStopping
  phase : ∀ {s : State} (ph : StopPhase), P s → s.part.state = .stopping → (ph = .lastWrites → s.reporter.run = none) →
    P { s with part := { s.part with stop := ph } }
  halt : ∀ {s : State}, P s → s.part.state = .stopping → s.part.stop = .lastWrites → P s.halted
  fault : ∀ {s : State} (code : FaultCode), P s → P (s.faultEntry code)
  powerOn : ∀ {s : State}, P s → P s.powerOnReset
  softReset : ∀ {s : State}, P s → P s.softReset

namespace StepKeeps

variable {P : State → Prop} (k : StepKeeps P) {s : State}
include k

/-! ### The Image Port and the Report Writer -/

theorem makePlace (h : P s) : P s.makePlace ∧ Roomy P s.makePlace := by
  unfold State.makePlace
  split
  · next full =>
    refine ⟨k.issue h, fun bound => ?_⟩
    have := bound s h
    rw [State.issueOldest_posted, List.length_tail]
    simp only [Config.postedQueueSize] at *
    omega
  · next room => exact ⟨h, fun _ => Nat.lt_of_not_le room⟩

theorem finishRequest (h : P s) : P s.finishRequest := by
  have go : ∀ (n : Nat) {t : State}, P t → P (State.finishFor n t) := by
    intro n
    induction n with
    | zero => exact fun ht => ht
    | succ n ih => exact fun ht => ih (k.action (k.makePlace ht).1 (k.makePlace ht).2)
  exact go _ h

theorem post (w : PostedWrite) (h : P s) : P (s.post w) :=
  have place := k.makePlace (k.finishRequest h)
  k.append w place.1 place.2

theorem postAll (ws : List PostedWrite) (h : P s) : P (s.postAll ws) := by
  induction ws generalizing s with
  | nil => exact h
  | cons w ws ih => exact ih (k.post w h)

theorem pump (h : P s) : P s.pump := by
  have go : ∀ (n : Nat) {t : State}, P t → P (State.pumpFor n t) := by
    intro n
    induction n with
    | zero => exact fun ht => ht
    | succ n ih =>
      intro t ht
      unfold State.pumpFor
      split
      · next room => exact ih (k.action ht fun _ => room)
      · exact ht
  exact go _ h

theorem issueAll (h : P s) : P s.issueAll := by
  have go : ∀ (l : List PostedWrite) {t : State}, P t → P (l.foldl (fun t _ => t.issueOldest) t) := by
    intro l
    induction l with
    | nil => exact fun ht => ht
    | cons w l ih => exact fun ht => ih (k.issue ht)
  exact go s.posted h

theorem beforeRead (ws : List HostWrite) (h : P s) : P (s.beforeRead ws) :=
  k.host ws (k.pump (k.issueAll (k.finishRequest h)))

theorem reportExpiry (h : P s) : P s.reportExpiry := by
  unfold State.reportExpiry
  simp only []
  split
  · next running =>
    have timed : s.reporter.timer ≠ none := Option.isSome_iff_ne_none.mp running
    split
    · next idle =>
      exact k.pump (k.report (k.steady (s.steady_reporter rfl rfl fun _ => timed) h) idle (.inl nofun))
    · exact k.steady (s.steady_reporter rfl rfl fun _ => timed) h
  · exact h

/-! ### The Activity Writer -/

theorem place {d : Due} (filling : s.writer.state = .filling) (due : s.writer.due s.part.time = some d)
    (fits : s.writer.fits d = true) (h : P s) : P (s.place d) :=
  k.postAll _ (k.steady (s.steady_writer ((s.writer.kept_placed filling due fits).trans (Writer.kept_releaseHeld _))) h)

theorem handPage (open_ : s.writer.state = .filling ∨ s.writer.hold ≠ none) (h : P s) : P s.handPage :=
  have unheld := k.postAll s.writer.headerWords (k.steady (s.steady_writer s.writer.kept_unhold) h)
  k.close h open_ (State.onImage_postAll _ _).writer unheld

theorem closePage (open_ : s.writer.state = .filling ∨ s.writer.hold ≠ none) (h : P s) : P s.closePage :=
  k.steady (State.steady_deliver _ _) (k.handPage open_ h)

theorem placeRecord (h : P s) : P s.placeRecord := by
  unfold State.placeRecord
  split
  · next filling =>
    split
    · exact h
    · next d due =>
      split
      · next fits => exact k.place filling due fits h
      · exact k.closePage (.inl filling) h
  · exact h

theorem takeOwner (seeking : s.writer.state = .seeking) (h : P s) : P s.takeOwner := by
  unfold State.takeOwner
  split
  · exact k.steady (s.steady_writer (s.writer.kept_obtain seeking)) h
  · split
    · exact k.steady (s.steady_writer s.writer.kept_dropAll) h
    · exact h

theorem ownerRead (ws : List HostWrite) (h : P s) : P (s.ownerRead ws) := by
  unfold State.ownerRead
  split
  · next seeks => exact k.takeOwner ((s.onImage_beforeRead ws).writer ▸ seeks.1) (k.beforeRead ws h)
  · exact k.host ws h

theorem flushFor (n : Nat) (ws : List HostWrite) (h : P s) : P (State.flushFor n ws s).1 := by
  induction n generalizing ws s with
  | zero => exact h
  | succ n ih =>
    unfold State.flushFor
    split
    · next filling =>
      split
      · exact h
      · next d due =>
        split
        · next fits => exact ih _ (k.place filling due fits h)
        · exact ih _ (k.ownerRead ws (k.handPage (.inl filling) h))
    · exact h

theorem flushActivity (ws : List HostWrite) (h : P s) : P (s.flushActivity ws) := by
  have flushed := k.host (State.flushFor s.flushActions ws s).2 (k.flushFor s.flushActions ws h)
  unfold State.flushActivity
  simp only []
  split
  · next open_ => exact k.closePage (.inl open_.1) flushed
  · exact flushed

theorem accessFault (o : Word) (h : P s) : P (s.accessFault o) :=
  k.steady (State.steady_part _ rfl (fun c => c) (fun c => c) rfl rfl) (k.fault .bus h)

theorem flushFaultFor (n : Nat) (ws : List HostWrite) (j : Nat) (h : P s) {t : State}
    (cut : State.flushFaultFor n ws s j = some t) : P t := by
  induction n generalizing ws s j with
  | zero => cases cut
  | succ n ih =>
    unfold State.flushFaultFor at cut
    split at cut
    · next filling =>
      split at cut
      · cases cut
      · next d due =>
        split at cut
        · next fits => exact ih _ _ (k.place filling due fits h) cut
        · have handed := k.handPage (.inl filling) h
          cases j with
          | zero => exact Option.some.inj cut ▸ k.accessFault _ (k.beforeRead ws handed)
          | succ j => exact ih _ _ (k.ownerRead ws handed) cut
    · cases cut

/-! ### The STOP sequence -/

theorem endDrain (stopping : s.part.state = .stopping) (h : P s) : P s.endDrain := by
  have stop : ∀ {t : State}, t.part.state = .stopping → P t → P { t with
      writer := { t.writer with state := .stopped, hold := none }
      part := { t.part with stop := .awaitReport } } := by
    intro t ht hp
    have stopped := k.steady (t.steady_writer (w := { t.writer with state := .stopped, hold := none })
      (.stopped rfl rfl (Nat.le_refl _) (Nat.le_refl _))) hp
    exact k.phase .awaitReport stopped ht nofun
  unfold State.endDrain
  simp only []
  split
  · next open_ => exact stop (s.onJournal_handPage.part ▸ stopping) (k.handPage (.inl open_.1) h)
  · exact stop stopping h

theorem advanceStop (h : P s) : P s.advanceStop := by
  unfold State.advanceStop
  split
  · next stopping =>
    have drain : P s.stopDrain ∧ s.stopDrain.part.state = .stopping := by
      unfold State.stopDrain
      split
      · refine ⟨k.endDrain stopping h, ?_⟩
        show (if _ then s.handPage else s).part.state = _
        split
        · rw [s.onJournal_handPage.part]; exact stopping
        · exact stopping
      · exact ⟨h, stopping⟩
    have report : ∀ {t : State}, P t → t.part.state = .stopping →
        P t.stopReport ∧ t.stopReport.part.state = .stopping := by
      intro t ht stopping
      have part := t.beginReport.onImage_pump.part
      unfold State.stopReport
      simp only []
      split
      · next awaits =>
        have begun := k.pump (k.report ht awaits.2 (.inr ⟨stopping, awaits.1⟩))
        exact ⟨k.phase .report begun (part ▸ stopping) nofun, part ▸ stopping⟩
      · exact ⟨ht, stopping⟩
    have display : ∀ {t : State}, P t → t.part.state = .stopping → P t.stopDisplay := by
      intro t ht stopping
      unfold State.stopDisplay
      simp only []
      split
      · next reported =>
        have dark := k.steady ((t.steady_leaveLinks).trans (State.steady_bars _ t.leaveLinks.bars.blank)) ht
        exact k.phase .lastWrites dark stopping fun _ => reported.2
      · exact ht
    have reported := report drain.1 drain.2
    exact display reported.1 reported.2
  · exact h

/-- STOP in RUNNING (R183). -/
theorem stopRunning (ws : List HostWrite) (running : s.part.state = .running) (h : P s) : P (s.stopRunning ws) := by
  have stopWork : ∀ {t : State}, P t → t.part.state = .running →
      P t.enterStopping.stopWork.beginDrain.lastOwnerRead.advanceStop := by
    intro t ht running
    have worked := t.enterStopping.steady_stopWork
    have drained := k.phase .drain (k.steady worked (k.enterStopping ht running)) (worked.state.trans rfl) nofun
    refine k.advanceStop ?_
    unfold State.lastOwnerRead
    split
    · exact k.steady (State.steady_deliver _ _) drained
    · exact drained
  unfold State.stopRunning
  simp only []
  split
  · exact stopWork (k.beforeRead ws h) ((s.onImage_beforeRead ws).part ▸ running)
  · exact stopWork (k.host ws h) running

theorem partStop (ws : List HostWrite) (h : P s) : P (s.partStop ws) := by
  have refused := k.host ws (k.steady (s.steady_part (p := { s.part with refused := .stop }) rfl (fun c => c) (fun c => c)
    rfl rfl) h)
  unfold State.partStop
  split
  · next running => exact k.stopRunning ws running h
  · next starting => exact k.abandon h (.inr starting) rfl (k.host ws h)
  all_goals exact refused

theorem stopEnd (h : P s) : P s.stopEnd := by
  unfold State.stopEnd
  split
  · next ends => exact k.halt h ends.1 ends.2.1
  · exact h

/-! ### START -/

theorem start (h : P s) : P s.start := by
  unfold State.start
  split
  · next free => exact k.check h free.1
  · exact k.steady (s.steady_part rfl (fun c => c) (fun c => c) rfl rfl) h

theorem headerCheck (ws : List HostWrite) (h : P s) : P (s.headerCheck ws) := by
  unfold State.headerCheck
  simp only []
  split
  · next checking =>
    have read := k.beforeRead ws h
    unfold State.checkHeader
    split
    · exact k.steady (State.steady_setCause _ _) (k.post _
        (k.steady (State.steady_part _ rfl nofun (fun c => c) rfl rfl) read))
    · next good => exact k.accept _ h checking (s.onImage_beforeRead ws).part good read
  · exact k.host ws h

/-- What stands through the stages of a start sequence begun at `s₀`. -/
structure Starting (P : State → Prop) (s₀ s : State) : Prop where
  kept   : P s
  header : s.part.header = s₀.part.header
  state  : s.part.state = s₀.part.state
  due    : s.part.sequenceDue = false

omit k in
/-- A change that leaves the part alone. -/
theorem Starting.of_part {s₀ t : State} (h : Starting P s₀ s) (kept : P t) (part : t.part = s.part) : Starting P s₀ t :=
  ⟨kept, part ▸ h.header, part ▸ h.state, part ▸ h.due⟩

theorem startStage {s₀ : State} {acc : State × Word} (h₀ : P s₀) (due : s₀.part.sequenceDue = true)
    (h : Starting P s₀ acc.1) (stage : StartStage) : Starting P s₀ (State.startStage acc stage).1 := by
  cases stage with
  | load sec =>
    exact h.of_part (k.steady (State.steady_loadSection true acc sec) h.kept) (State.onSetup_handSection _ _ _ _).part
  | result =>
    have told : Starting P s₀ { acc.1 with part := { acc.1.part with
        startResult := if acc.2 = 0 then .ok else .clamped } } :=
      ⟨k.steady (State.steady_part _ rfl (fun c => c) (fun c => c) rfl rfl) h.kept, h.header, h.state, h.due⟩
    exact told.of_part (k.post _ told.kept) (State.onImage_post _ _).part
  | blocks =>
    have cleared := k.steady (State.steady_meters _ Meters.lawful_clearAll) (k.beginWriter h₀ due h.header h.kept)
    exact h.of_part (t := acc.1.startBlocks) (k.steady (State.steady_readSupply _) cleared) (State.readSupply_part _)
  | display =>
    refine h.of_part (k.steady (t := acc.1.startDisplay) ?_ h.kept) rfl
    refine { State.Steady.refl acc.1 with
      meters := fun l => ⟨l.chans, l.rises⟩
      links := fun i => ?_ }
    show acc.1.links[i].Kept (acc.1.links.map fun l => if l.settings.enable then l.enterAcquiring else l)[i.val]
    rw [Vector.getElem_map]
    split <;> exact .of_eq rfl
  | strips =>
    exact h.of_part (t := acc.1.startStrips) (k.steady (State.steady_startStrips _) h.kept) (State.startStrips_part _)
  | converter => exact h.of_part (t := acc.1.startConverter) (k.convert h₀ due h.state h.due h.kept) rfl

theorem startThrough {s₀ : State} (h₀ : P s₀) (due : s₀.part.sequenceDue = true) (h : Starting P s₀ s)
    (stages : List StartStage) : Starting P s₀ (s.startThrough stages) := by
  have go : ∀ (l : List StartStage) (acc : State × Word), Starting P s₀ acc.1 →
      Starting P s₀ (l.foldl State.startStage acc).1 := by
    intro l
    induction l with
    | nil => exact fun _ h => h
    | cons stage l ih => exact fun acc h => ih _ (k.startStage h₀ due h stage)
  exact go stages (s, 0) h

theorem setupFault (start : Bool) (secs : List SetupSection) (j : Nat) (h : P s) {t : State}
    (cut : s.setupFault start secs j = some t) : P t := by
  obtain ⟨r, -, rfl⟩ := Option.map_eq_some_iff.mp cut
  exact k.accessFault _ (k.steady (s.steady_loadSections start r.1) h)

omit k in
/-- What both the value and the default meet. -/
theorem getD_of {o : Option State} {t : State} (value : ∀ u, o = some u → P u) (default : P t) : P (o.getD t) := by
  cases o with
  | none => exact default
  | some u => exact value u rfl

/-- The start sequence (R181). -/
theorem startSequence (bus : StartBus) (h : P s) : P (s.startSequence bus) := by
  unfold State.startSequence
  split
  · next due =>
    have begun : Starting P s (s.startBegun bus.host) := by
      have at0 : Starting P s { s with
          part := { s.part with sequenceDue := false, time := 0 }, sweep := { s.sweep with count := 0 } } :=
        ⟨k.steady { State.Steady.refl s with due := fun e => absurd e Bool.false_ne_true } h, rfl, rfl, rfl⟩
      exact at0.of_part (k.beforeRead _ at0.kept) (State.onImage_beforeRead _ _).part
    have through := k.startThrough h due begun
    unfold State.startCut
    split
    · exact (through _).kept
    · exact k.abandon h (.inl due) (through _).state (through _).kept
    · exact getD_of (fun _ cut => k.setupFault _ _ _ begun.kept cut) (through _).kept
  · exact k.host _ h

/-! ### Cells -/

theorem setupLoad (count mask : Word) (ws : List HostWrite) (h : P s) : P (s.setupLoad count mask ws) := by
  have answered : ∀ (t : State) (o : Outcome) (r : Word), P t → P (t.answer o r) := fun t o r ht =>
    k.steady (t.steady_answer o r) ht
  unfold State.setupLoad
  simp only []
  split
  · exact answered _ _ _ (k.host ws h)
  · split
    · exact answered _ _ _ (k.host ws h)
    · exact answered _ _ _ (k.steady (State.steady_loadSections _ _ _) (k.beforeRead ws h))

theorem activityFlush (bus : Bus) (h : P s) :
    P ((bus.fault.bind (s.flushFault bus.host)).getD ((s.flushActivity bus.host).answer .done 0)) := by
  refine getD_of (fun t cut => ?_) (k.steady (State.steady_answer _ _ _) (k.flushActivity bus.host h))
  obtain ⟨j, -, cut⟩ := Option.bind_eq_some_iff.mp cut
  exact k.flushFaultFor _ _ _ h cut

theorem setupLoadWhole (count mask : Word) (bus : Bus) (h : P s) :
    P ((bus.fault.bind (s.setupLoadFault count mask bus.host)).getD (s.setupLoad count mask bus.host)) := by
  refine getD_of (fun t cut => ?_) (k.setupLoad count mask bus.host h)
  obtain ⟨j, -, cut⟩ := Option.bind_eq_some_iff.mp cut
  exact k.setupFault _ _ _ (k.beforeRead _ h) cut

/-- A cell's command (R194). -/
theorem deliverCommand (c : Instr) (h : P s) : P (s.deliverCommand c) := by
  cases c with
  | move i a => exact k.steady (s.steady_runCommand i fun c => c.kept_move _ a .cell) h
  | jump i a => exact k.steady (s.steady_runCommand i fun c => c.kept_jump _ a .cell) h
  | stop i => exact k.steady (s.steady_runCommand i fun c => c.kept_stop _) h
  | calibrate i tag => exact k.steady (s.steady_calibrate i tag) h
  | setCal i b t => exact k.steady (s.steady_runCommand i fun c => c.kept_setCal _ b t) h
  | clearStall i => exact k.steady (s.steady_runCommand i fun c => c.kept_clearStall _) h
  | stripOff i => exact k.steady (s.steady_stripOff i) h
  | stripOn i => exact k.steady (s.steady_stripOn i) h
  | scene a entries => exact k.steady (s.steady_scene a entries) h
  | gangSet g count entries => exact k.steady (s.steady_gangSet g count entries) h
  | meterReset count entries => exact k.steady (s.steady_meterReset count entries) h
  | activityFlush bus => exact k.activityFlush bus h
  | setupLoad count mask bus => exact k.setupLoadWhole count mask bus h
  | counterClear => exact k.steady (s.steady_clearCounters.trans (State.steady_answer _ _ _)) h
  | _ => exact h

theorem lookAhead (cell : Nat) (ws : List HostWrite) (h : P s) : P (s.lookAhead cell ws) := by
  unfold State.lookAhead
  simp only []
  split
  · exact k.steady (State.steady_sweep _ _) (k.beforeRead ws h)
  · exact k.steady (State.steady_sweep _ _) (k.host ws h)

theorem visitEnd (cell : Nat) (h : P s) : P (s.visitEnd cell) := by
  unfold State.visitEnd
  simp only []
  split
  · exact k.steady (State.steady_sweep _ _) h
  · exact k.post _ (k.steady (State.steady_sweep _ _) h)

theorem visit (cell : Nat) (ws : List HostWrite) (h : P s) : P (s.visit cell ws) := by
  have ahead := k.lookAhead cell ws h
  unfold State.visit
  simp only []
  split
  · refine k.visitEnd cell (k.postAll _ ?_)
    unfold State.takeCommand
    split
    · exact k.deliverCommand _ ahead
    · exact k.steady (State.steady_answer _ _ _) ahead
  · exact k.visitEnd cell ahead

theorem visitFault (cell : Nat) (ws : List HostWrite) (j : Nat) (h : P s) {t : State}
    (cut : s.visitFault cell ws j = some t) : P t := by
  have ahead := k.lookAhead cell ws h
  unfold State.visitFault at cut
  simp only [] at cut
  split at cut
  · exact Option.some.inj cut ▸ k.accessFault _ (k.beforeRead ws h)
  · split at cut
    · split at cut
      · exact Option.some.inj cut ▸ k.accessFault _ ahead
      · unfold State.commandFault at cut
        split at cut
        · exact k.flushFaultFor _ _ _ ahead cut
        · exact k.setupFault _ _ _ (k.beforeRead _ ahead) cut
        · cases cut
    · cases cut

theorem cellVisit (bus : Bus) (h : P s) : P (s.cellVisit bus) := by
  unfold State.cellVisit
  split
  · refine getD_of (fun t cut => ?_) (k.visit _ _ h)
    obtain ⟨j, -, cut⟩ := Option.bind_eq_some_iff.mp cut
    exact k.visitFault _ _ _ h cut
  · exact k.host _ h

theorem sweepExpiry (ws : List HostWrite) (h : P s) : P (s.sweepExpiry ws) := by
  unfold State.sweepExpiry
  split
  · exact k.host ws h
  · exact k.host ws (k.steady (State.steady_sweep _ _) h)
  · exact k.steady (State.steady_sweep _ _) (k.beforeRead ws (k.steady (State.steady_sweep _ _) h))

/-! ### Conversions -/

theorem referenceFailed (h : P s) : P s.referenceFailed := by
  have ended : ∀ (t : State) (c : Scanner), t.scanner = s.scanner → c.enabled = s.scanner.enabled → c.warm = false → P t →
      P { t with scanner := c } := fun t c same enabled warm ht =>
    k.steady (t.steady_scanner (fun e => same ▸ enabled ▸ e) (fun w => absurd (warm.symm.trans w) nofun)) ht
  unfold State.referenceFailed
  simp only []
  have counted : ∀ t : State, t.scanner = s.scanner → P t → P { t with scanner := { s.scanner.endRound with
      refFailures := s.scanner.endRound.refFailures + 1, runCount := s.scanner.endRound.runCount + 1 } } :=
    fun t same => ended t _ same rfl rfl
  split
  · split
    · exact k.fault .scan (counted (s.setCause .scan) rfl (k.steady (s.steady_setCause _) h))
    · exact k.fault .scan (counted s rfl h)
  · split
    · exact counted (s.setCause .scan) rfl (k.steady (s.steady_setCause _) h)
    · exact counted s rfl h

theorem referenceDone (lo : Nat) (h : P s) : P (s.referenceDone lo) := by
  unfold State.referenceDone
  simp only []
  split
  · exact k.steady (s.steady_scanner (fun e => e) (fun w => w)) h
  · split
    · split
      · exact k.steady (s.steady_scanner (fun e => e) nofun) h
      · exact k.steady (s.steady_scanner (fun e => e) (fun w => w)) h
    · exact k.referenceFailed h

/-- A strip's conversion; the warm round's last one is entry to RUNNING (R182). -/
theorem stripDone (i : StripId) (code : Code) (enabled : s.scanner.enabled = true) (h : P s) : P (s.stripDone i code) := by
  have delivered : P (if s.scanner.warm then s else s.deliver (.sampleArrival i code)) := by
    split
    · exact h
    · exact k.steady (s.steady_deliver _) h
  have same : (if s.scanner.warm then s else s.deliver (.sampleArrival i code)).scanner = s.scanner ∧
      (if s.scanner.warm then s else s.deliver (.sampleArrival i code)).part = s.part := by
    split <;> exact ⟨rfl, rfl⟩
  unfold State.stripDone
  simp only []
  generalize (if s.scanner.warm then s else s.deliver (.sampleArrival i code)) = t at delivered same
  have ended : P { t with scanner := t.scanner.endRound } := k.steady (t.steady_scanner (fun e => e) nofun) delivered
  split
  · exact k.steady (t.steady_scanner (fun e => e) (fun w => w)) delivered
  · split
    · next warm =>
      rw [State.entryRunning_eq]
      have header := State.onImage_postAll { t with scanner := t.scanner.endRound }
        ({ t with scanner := t.scanner.endRound } : State).firstHeader
      exact k.steady (State.steady_setCause _ _) (k.run h enabled warm (congrArg Scanner.warm header.scanner)
        (header.part.trans same.2) (k.postAll _ ended))
    · exact ended

theorem conversion (code : Code) (h : P s) : P (s.conversion code) := by
  unfold State.conversion
  simp only []
  split
  · next on =>
    have brief : P { s with scanner := { s.scanner with longNext := false } } :=
      k.steady (s.steady_scanner (fun e => e) (fun w => w)) h
    split
    · exact k.steady (s.steady_scanner (fun e => e) (fun w => w)) h
    · exact k.referenceDone _ brief
    · split
      · exact k.stripDone _ code on.1 brief
      · exact brief
  · exact h

/-! ### Registers, and every command -/

theorem writeIbase (w : Word) (h : P s) : P (s.writeIbase w) := by
  unfold State.writeIbase
  split
  · exact k.steady (s.steady_part rfl (fun c => c) (fun c => c) rfl rfl) h
  · exact h

theorem writeAttn (w : Word) (h : P s) : P (s.writeAttn w) := k.steady (s.steady_attention fun b => b) h

theorem writeMask (w : Word) (h : P s) : P (s.writeMask w) := k.steady (s.steady_attention fun b => b) h

theorem writeRegister (offset w : Word) (h : P s) : P (s.writeRegister offset w) := by
  unfold State.writeRegister
  split
  · exact k.writeIbase w h
  · unfold State.writePctl
    split
    · exact k.start h
    · exact k.partStop [] h
    · exact k.softReset h
    · exact h
  · exact k.writeAttn w h
  · exact k.writeMask w h
  · exact h

theorem busFault (o : Word) (h : P s) : P (s.busFault o) := by
  unfold State.busFault
  split
  · exact k.accessFault o h
  · exact h

theorem holdExpiry (h : P s) : P s.holdExpiry := by
  unfold State.holdExpiry
  split
  · next timed => exact k.closePage (.inr (Option.isSome_iff_ne_none.mp timed)) h
  · exact h

theorem retryExpiry (h : P s) : P s.retryExpiry := by
  unfold State.retryExpiry
  split
  · exact k.steady (s.steady_deliver _) h
  · exact h

theorem countTime (h : P s) : P s.countTime := by
  unfold State.countTime
  split
  · exact k.steady (s.steady_part rfl (fun c => c) (fun c => c) rfl rfl) h
  · exact h

/-- Every command completes, and keeps what meets the list. -/
theorem exec (c : Instr) (h : P s) : ∃ t, exec c s = .next t ∧ P t := by
  have taken : ∀ (e : Instr) {t : State}, (s.take e).Steady t → P t := fun e _ steady =>
    k.steady ((s.steady_take e).trans steady) h
  cases c with
  | powerOnReset => exact ⟨_, rfl, k.powerOn h⟩
  | start => exact ⟨_, rfl, k.start h⟩
  | headerCheck ws => exact ⟨_, rfl, k.headerCheck ws h⟩
  | startSequence bus => exact ⟨_, rfl, k.startSequence bus h⟩
  | partStop ws => exact ⟨_, rfl, k.partStop ws h⟩
  | stopSequenceEnd => exact ⟨_, rfl, k.stopEnd h⟩
  | softReset => exact ⟨_, rfl, k.softReset h⟩
  | ibaseWrite w => exact ⟨_, rfl, k.writeIbase w h⟩
  | attnWrite w => exact ⟨_, rfl, k.writeAttn w h⟩
  | amaskWrite w => exact ⟨_, rfl, k.writeMask w h⟩
  | registerWrite o w => exact ⟨_, rfl, k.writeRegister o w h⟩
  | busFault o => exact ⟨_, rfl, k.busFault o h⟩
  | scanTimerExpiry => exact ⟨_, rfl, k.steady s.steady_scanExpiry h⟩
  | conversionComplete code => exact ⟨_, rfl, k.conversion code h⟩
  | sampleArrival i code => exact ⟨_, rfl, taken _ (State.steady_sampleArrival _ i code)⟩
  | touchScanTimerExpiry tch => exact ⟨_, rfl, k.steady (s.steady_touchExpiry tch) h⟩
  | touchOn i => exact ⟨_, rfl, taken _ (State.steady_touchOn _ i)⟩
  | touchOff i => exact ⟨_, rfl, taken _ (State.steady_touchOff _ i)⟩
  | grantRequest i p => exact ⟨_, rfl, taken _ (State.steady_grantRequest _ i p)⟩
  | grantWithdrawal i => exact ⟨_, rfl, taken _ (State.steady_grantWithdrawal _ i)⟩
  | grantReturn i => exact ⟨_, rfl, taken _ (State.steady_grantReturn _ i)⟩
  | grant i => exact ⟨_, rfl, taken _ (State.steady_runStrip _ i Ctx.kept_granted)⟩
  | supplyLow => exact ⟨_, rfl, k.steady s.steady_supplyLow h⟩
  | msupOkRise => exact ⟨_, rfl, k.steady s.steady_supplyRise h⟩
  | recoveryTimerExpiry => exact ⟨_, rfl, k.steady s.steady_recoveryExpiry h⟩
  | pwmPeriodStart i => exact ⟨_, rfl, k.steady (s.steady_motors rfl) h⟩
  | driveExpiry i => exact ⟨_, rfl, k.steady (s.steady_driveExpiry i) h⟩
  | streamWord i w => exact ⟨_, rfl, taken _ (State.steady_runStrip _ i fun c => c.kept_streamWord _)⟩
  | gangJoin i j => exact ⟨_, rfl, taken _ (State.steady_gangJoin _ i j)⟩
  | followUpdate i p => exact ⟨_, rfl, taken _ (State.steady_followUpdate _ i p)⟩
  | reOffset i p => exact ⟨_, rfl, taken _ (State.steady_reOffset _ i p)⟩
  | gangEnd i => exact ⟨_, rfl, taken _ (State.steady_gangEnd _ i)⟩
  | move i a => exact ⟨_, rfl, k.deliverCommand (.move i a) h⟩
  | jump i a => exact ⟨_, rfl, k.deliverCommand (.jump i a) h⟩
  | stop i => exact ⟨_, rfl, k.deliverCommand (.stop i) h⟩
  | calibrate i tag => exact ⟨_, rfl, k.deliverCommand (.calibrate i tag) h⟩
  | setCal i b t => exact ⟨_, rfl, k.deliverCommand (.setCal i b t) h⟩
  | clearStall i => exact ⟨_, rfl, k.deliverCommand (.clearStall i) h⟩
  | stripOff i => exact ⟨_, rfl, k.deliverCommand (.stripOff i) h⟩
  | stripOn i => exact ⟨_, rfl, k.deliverCommand (.stripOn i) h⟩
  | scene a es => exact ⟨_, rfl, k.deliverCommand (.scene a es) h⟩
  | sceneEntry i jump a => exact ⟨_, rfl, k.steady (s.steady_sceneEntry i jump a) h⟩
  | gangSet g n es => exact ⟨_, rfl, k.deliverCommand (.gangSet g n es) h⟩
  | meterReset n es => exact ⟨_, rfl, k.deliverCommand (.meterReset n es) h⟩
  | activityFlush bus => exact ⟨_, rfl, k.activityFlush bus h⟩
  | setupLoad n m bus => exact ⟨_, rfl, k.setupLoadWhole n m bus h⟩
  | counterClear => exact ⟨_, rfl, k.deliverCommand .counterClear h⟩
  | sweepTimerExpiry ws => exact ⟨_, rfl, k.sweepExpiry ws h⟩
  | cellVisit bus => exact ⟨_, rfl, k.cellVisit bus h⟩
  | postedWriteIssued => exact ⟨_, rfl, k.advanceStop (k.pump (k.issue h))⟩
  | pageOwnerRead ws => exact ⟨_, rfl, k.advanceStop (k.ownerRead ws (taken _ (.refl _)))⟩
  | recordPlacement => exact ⟨_, rfl, k.advanceStop (k.placeRecord h)⟩
  | activityRetryExpiry => exact ⟨_, rfl, k.retryExpiry h⟩
  | pageHoldExpiry => exact ⟨_, rfl, k.advanceStop (k.holdExpiry h)⟩
  | frameSync l xs b => exact ⟨_, rfl, k.steady ((s.steady_linkEdges l xs).trans (State.steady_linkEdge _ l _)) h⟩
  | wordComplete l xs => exact ⟨_, rfl, k.steady (s.steady_linkEdges l xs) h⟩
  | linkTimeout l => exact ⟨_, rfl, k.steady (s.steady_linkTimeout l) h⟩
  | meterServiceEnd => exact ⟨_, rfl, k.steady s.steady_serviceEnd h⟩
  | meterWord c w => exact ⟨_, rfl, taken _ (State.steady_meterWord _ c w)⟩
  | decayExpiry => exact ⟨_, rfl, k.steady s.steady_decayExpiry h⟩
  | phaseTimerExpiry => exact ⟨_, rfl, k.steady (s.steady_bars _) h⟩
  | rowLitEnd => exact ⟨_, rfl, k.steady (s.steady_bars _) h⟩
  | reportTimerExpiry => exact ⟨_, rfl, k.reportExpiry h⟩
  | coalescingHoldExpiry w => exact ⟨_, rfl, k.steady (s.steady_attention (Attention.bounded_holdExpiry w)) h⟩
  | partTimeCount => exact ⟨_, rfl, k.countTime h⟩

/-- Every step keeps what meets the list and does not look at the commands that wait. -/
theorem step (queue : ∀ {s : State} (l : List Instr), P s → P { s with pending := l }) {t : State} (h : P s)
    (hs : step s = .next t) : P t := by
  unfold Machine.step at hs
  split at hs
  · cases hs; exact h
  · next c rest _ =>
    obtain ⟨u, hu, kept⟩ := k.exec c (queue rest h)
    rw [hu] at hs
    cases hs
    exact kept

end StepKeeps

end Sys2Proof.Machine
end

section
/-!
The laws that every step keeps (Safety.lean), each a case of the list of what a step can do.
-/
namespace Sys2Proof.Machine

/-! ### Every command completes -/

/-- The commands that wait stay as they are. -/
theorem stepKeeps_pending (l : List Instr) : StepKeeps fun s => s.pending = l where
  steady q h := q.pending.trans h
  host _ h := h
  issue h := (State.onImage_issueOldest _).pending.trans h
  action h _ := (State.onImage_reportAction _).pending.trans h
  append _ h _ := h
  report h _ _ := h
  close _ _ _ h := h
  check h _ := h
  accept _ _ _ _ _ h := h
  beginWriter _ _ _ h := h
  convert _ _ _ _ h := h
  abandon _ _ _ h := h
  run _ _ _ _ _ h := h
  enterStopping h _ := h
  phase _ h _ _ := h
  halt h _ _ := h
  fault _ h := h
  powerOn h := h
  softReset h := h

/-- Settles O2: the commands that wait are untouched by everything a command can do. -/
theorem everyCommandCompletes : Obligations.EveryCommandCompletes :=
  fun c s => (stepKeeps_pending s.pending).exec c rfl

/-- Settles O1. -/
theorem stepRunsFrontCommand : Obligations.StepRunsFrontCommand := by
  refine ⟨fun _ _ _ => rfl, fun s h => ?_⟩
  unfold step
  rw [h]

/-! ### Memory -/

theorem stepKeeps_memory : StepKeeps fun s => s.memory.wf = true where
  steady q h := q.memory.symm ▸ h
  host ws h := Memory.wf_hostWrites h ws
  issue h := State.memoryKept_issueOldest _ h
  action h _ := (State.reportAction_memory _).symm ▸ h
  append _ h _ := h
  report h _ _ := h
  close _ _ _ h := h
  check h _ := h
  accept _ _ _ _ _ h := h
  beginWriter _ _ _ h := h
  convert _ _ _ _ h := h
  abandon _ _ _ h := h
  run _ _ _ _ _ h := h
  enterStopping h _ := h
  phase _ h _ _ := h
  halt h _ _ := h
  fault _ h := h
  powerOn h := h
  softReset h := h

/-- Settles O53: every write keeps the canonical form, and nothing else touches memory. -/
theorem memoryStaysCanonical : Obligations.MemoryStaysCanonical :=
  fun _ _ hs h => stepKeeps_memory.step (fun _ h => h) h hs

/-! ### Meters -/

theorem stepKeeps_meters : StepKeeps fun s => s.meters.Lawful where
  steady q h := q.meters h
  host _ h := h
  issue h := (State.onImage_issueOldest _).meters.symm ▸ h
  action h _ := (State.onImage_reportAction _).meters.symm ▸ h
  append _ h _ := h
  report h _ _ := h
  close _ _ _ h := h
  check h _ := h
  accept _ _ _ _ _ h := h
  beginWriter _ _ _ h := h
  convert _ _ _ _ h := h
  abandon {_ s} _ _ _ h := (State.steady_leaveLinks s).meters h |>.decays false
  run _ _ _ _ _ h := h
  enterStopping h _ := h
  phase _ h _ _ := h
  halt h _ _ := h.decays false
  fault {s} _ h := (State.steady_leaveLinks s.endActivities).meters h |>.decays false
  powerOn _ := Meters.lawful_reset
  softReset _ := Meters.lawful_reset

/-- Settles O55: no operation of the Meter Engine takes a channel out of its ranges. -/
theorem metersStayLawful : Obligations.MetersStayLawful := fun s t hs h =>
  t.metersOk_iff.mpr (stepKeeps_meters.step (fun _ h => h) (s.metersOk_iff.mp h) hs)

/-! ### Grants -/

theorem Arbiter.lawful_reset : Arbiter.reset.Lawful := ⟨by decide, by decide, by decide, nofun⟩

theorem stepKeeps_arbiter : StepKeeps fun s => s.arbiter.Lawful where
  steady q h := q.arbiter h
  host _ h := h
  issue h := (State.onImage_issueOldest _).arbiter.symm ▸ h
  action h _ := (State.onImage_reportAction _).arbiter.symm ▸ h
  append _ h _ := h
  report h _ _ := h
  close _ _ _ h := h
  check h _ := h
  accept _ _ _ _ _ h := h
  beginWriter _ _ _ h := h
  convert _ _ _ _ h := h
  abandon {_ s} _ _ _ h := h.withSupply s.arbiter.supply none
  run _ _ _ _ _ h := h
  enterStopping h _ := h
  phase _ h _ _ := h
  halt {s} h _ _ := h.withSupply s.arbiter.supply none
  fault _ h := Arbiter.lawful_empty h
  powerOn _ := Arbiter.lawful_reset
  softReset _ := Arbiter.lawful_reset

/-- Settles O56: a decision grants within the full budget, and a strip that holds a grant makes no second request. -/
theorem grantsStayBounded : Obligations.GrantsStayBounded := fun s t hs h =>
  t.grantsOk_iff.mpr (stepKeeps_arbiter.step (fun _ h => h) (s.grantsOk_iff.mp h) hs)

/-! ### Positions -/

theorem Strip.lawful_reset : Strip.reset.Lawful :=
  ⟨by decide, by decide, by decide, by decide, fun h => absurd h (by decide)⟩

theorem State.positions_reset : State.reset.PositionsOk := fun i => by
  have : State.reset.strip i = Strip.reset := by simp [State.strip, State.reset]
  exact this ▸ Strip.lawful_reset

theorem kept_map {v : Vector Strip 32} {f : Strip → Strip} (h : ∀ x : Strip, x.Kept (f x)) (i : StripId) :
    v[i].Kept (v.map f)[i] := by
  simpa using h v[i]

theorem stepKeeps_strips : StepKeeps State.PositionsOk where
  steady q h i := (q.strips i).lawful (h i)
  host _ h := h
  issue {s} h i := by
    have := h i
    unfold State.strip
    rw [s.onImage_issueOldest.strips]
    exact this
  action {s} h _ i := by
    have := h i
    unfold State.strip
    rw [s.onImage_reportAction.strips]
    exact this
  append _ h _ := h
  report h _ _ := h
  close _ _ _ h := h
  check h _ := h
  accept _ _ _ _ _ h := h
  beginWriter _ _ _ h := h
  convert _ _ _ _ h := h
  abandon _ _ _ h := h
  run _ _ _ _ _ h := h
  enterStopping h _ := h
  phase _ h _ _ := h
  halt h _ _ := h
  fault _ h i := (kept_map Strip.kept_discard i).lawful (h i)
  powerOn _ := State.positions_reset
  softReset h i := (kept_map Strip.kept_softReset i).lawful (h i)

/-- Settles O57: sensing, following, a hand's release and a calibration all give positions in range. -/
theorem positionsStayLawful : Obligations.PositionsStayLawful :=
  fun _ _ hs h => stepKeeps_strips.step (fun _ h => h) h hs

/-! ### Queues and bounded counts -/

/-- The law of the queues, told of the blocks that hold them. -/
structure QueueLaw (w : Writer) (posted : List PostedWrite) (strips : Vector Strip 32) (links : Vector LinkRx 2)
    (a : Attention) : Prop where
  activity : w.queue.length ≤ Config.activityQueueSize
  posted   : posted.length ≤ Config.postedQueueSize
  moves    : ∀ i : StripId, strips[i].queue.length ≤ Config.moveQueueSize
  receive  : ∀ k : LinkId, links[k].queue.length ≤ Config.receiveQueueSize
  lost     : w.lost ≤ Config.lostMax
  pending  : a.Bounded

/-- The same of a state. -/
def State.Queues (s : State) : Prop := QueueLaw s.writer s.posted s.strips s.links s.attention

theorem State.queuesOk_iff (s : State) : s.QueuesOk ↔ s.Queues :=
  ⟨fun h => ⟨h.activity, h.posted, h.moves, h.receive, h.lost, h.cell, h.journal⟩,
    fun h => ⟨h.activity, h.posted, h.moves, h.receive, h.lost, h.pending.1, h.pending.2⟩⟩

theorem State.issueOldest_attention (s : State) (h : s.attention.Bounded) : s.issueOldest.attention.Bounded := by
  unfold State.issueOldest
  split
  · exact h
  · next w rest _ =>
    cases w.note
    · exact h
    · exact Attention.bounded_event .cell h
    · exact h

theorem State.reportAction_attention (s : State) : s.reportAction.attention = s.attention := by
  unfold State.reportAction
  simp only []
  repeat' split
  all_goals rfl

theorem State.reportAction_posted_length (s : State) : s.reportAction.posted.length ≤ s.posted.length + 1 := by
  unfold State.reportAction
  simp only []
  repeat' split
  all_goals simp

theorem Bank.other_ne : ∀ bank : Bank, bank.other ≠ bank
  | .a => nofun
  | .b => nofun

theorem State.queues_reset : State.reset.Queues where
  activity := by decide
  posted := by decide
  moves i := by simp [State.reset, Strip.reset]
  receive k := by simp [State.reset, LinkRx.reset]
  lost := by decide
  pending := by unfold Attention.Bounded; decide

theorem stepKeeps_queues : StepKeeps State.Queues where
  steady q h := ⟨q.writer.places h.activity, q.posted ▸ h.posted, fun i => (q.strips i).places (h.moves i),
    fun k => q.links k (h.receive k), q.writer.lost h.lost, q.attention h.pending⟩
  host _ h := h
  issue {s} h := by
    have image := s.onImage_issueOldest
    have posted := s.issueOldest_posted
    have attention := s.issueOldest_attention h.pending
    refine ⟨image.writer ▸ h.activity, ?_, image.strips ▸ h.moves, image.links ▸ h.receive, image.writer ▸ h.lost, attention⟩
    rw [posted, List.length_tail]
    exact Nat.le_trans (Nat.sub_le _ _) h.posted
  action {s} h room := by
    have image := s.onImage_reportAction
    refine ⟨image.writer ▸ h.activity, ?_, image.strips ▸ h.moves, image.links ▸ h.receive, image.writer ▸ h.lost,
      s.reportAction_attention ▸ h.pending⟩
    exact Nat.le_trans s.reportAction_posted_length (room fun _ k => k.posted)
  append _ h room := ⟨h.activity, by rw [List.length_append]; exact room fun _ k => k.posted, h.moves, h.receive, h.lost,
    h.pending⟩
  report h _ _ := h
  close _ _ _ h := ⟨h.activity, h.posted, h.moves, h.receive, h.lost, Attention.bounded_event .activity h.pending⟩
  check h _ := h
  accept _ _ _ _ _ h := h
  beginWriter _ _ _ h := ⟨h.activity, h.posted, h.moves, h.receive, h.lost, h.pending⟩
  convert _ _ _ _ h := h
  abandon {_ s} _ _ _ h := ⟨h.activity, h.posted, h.moves, fun k => (State.steady_leaveLinks s).links k (h.receive k),
    Nat.zero_le _, h.pending⟩
  run _ _ _ _ _ h := h
  enterStopping h _ := h
  phase _ h _ _ := h
  halt h _ _ := ⟨h.activity, h.posted, h.moves, h.receive, Nat.zero_le _, Attention.bounded_flushBoth h.pending⟩
  fault {s} _ h := ⟨Nat.zero_le _, Nat.zero_le _, fun i => (kept_map Strip.kept_discard i).places (h.moves i),
    fun k => (State.steady_leaveLinks s.endActivities).links k (h.receive k), Nat.zero_le _,
    Attention.bounded_flushBoth h.pending⟩
  powerOn _ := State.queues_reset
  softReset h := ⟨State.queues_reset.activity, State.queues_reset.posted,
    fun i => (kept_map Strip.kept_softReset i).places (h.moves i), State.queues_reset.receive, State.queues_reset.lost,
    State.queues_reset.pending⟩

/-- Settles O54: a queue grows only where it has a place, and the bounded counts stop at their bounds. -/
theorem queuesStayBounded : Obligations.QueuesStayBounded := fun s t hs h =>
  t.queuesOk_iff.mpr (stepKeeps_queues.step (fun _ h => h) (s.queuesOk_iff.mp h) hs)

/-! ### Activity pages -/

/-- The law of the pages: the writer's own, and the header a start sequence due has been accepted with. -/
def State.Pages (s : State) : Prop := s.writer.InPage ∧ (s.part.sequenceDue = true → s.part.header.Accepted)

theorem State.pagesOk_iff (s : State) : s.PagesOk ↔ s.Pages :=
  ⟨fun h => ⟨⟨h.used, h.service, h.hold⟩, h.header⟩, fun h => ⟨h.1.used, h.1.service, h.1.hold, h.2⟩⟩

/-- A header that fails no check is one R180 accepts. -/
theorem accepted_of_headerFailure {h : HeaderCounts} (good : headerFailure h = none) : h.Accepted := by
  unfold headerFailure at good
  repeat' split at good
  all_goals cases good
  exact ⟨by omega, by omega, by omega, by omega⟩

theorem Writer.inPage_stopped {w : Writer} (state : w.state = .stopped) (hold : w.hold = none) : w.InPage :=
  ⟨fun h => absurd (state.symm.trans h) nofun, fun h => absurd state h, fun h => absurd hold h⟩

theorem stepKeeps_pages : StepKeeps State.Pages where
  steady q h := ⟨q.writer.inPage h.1, fun due => q.header ▸ h.2 (q.due due)⟩
  host _ h := h
  issue {s} h := ⟨s.onImage_issueOldest.writer ▸ h.1, s.onImage_issueOldest.part ▸ h.2⟩
  action {s} h _ := ⟨s.onImage_reportAction.writer ▸ h.1, s.onImage_reportAction.part ▸ h.2⟩
  append _ h _ := h
  report h _ _ := h
  close {s₀ s} h₀ open_ writer h := by
    have filling : s₀.writer.state = .filling := open_.elim id h₀.1.hold
    exact ⟨(s.writer.kept_closed (by rw [writer]; exact filling)).inPage h.1, h.2⟩
  check h _ := h
  accept _ _ _ _ good h := ⟨h.1, fun _ => accepted_of_headerFailure good⟩
  beginWriter {_ s} h₀ due header h := ⟨s.writer.inPage_begin (header ▸ h₀.2 due), h.2⟩
  convert _ _ _ _ h := h
  abandon _ _ _ _ := ⟨Writer.inPage_stopped rfl rfl, nofun⟩
  run _ _ _ _ _ h := h
  enterStopping h _ := h
  phase _ h _ _ := h
  halt h _ _ := ⟨⟨h.1.used, h.1.service, h.1.hold⟩, h.2⟩
  fault _ _ := ⟨Writer.inPage_stopped rfl rfl, nofun⟩
  powerOn _ := ⟨Writer.inPage_stopped rfl rfl, nofun⟩
  softReset _ := ⟨Writer.inPage_stopped rfl rfl, nofun⟩

/-- Settles O59: a placement passes the fit check, and a page comes into hand with its header words used. -/
theorem pagesNeverOverflow : Obligations.PagesNeverOverflow := fun s t hs h =>
  t.pagesOk_iff.mpr (stepKeeps_pages.step (fun _ h => h) (s.pagesOk_iff.mp h) hs)

/-! ### MOTOR_EN and the part's activities -/

/-- The law of the part's control, told of MOTOR_EN, Part Control, the scanner and the report timer. -/
structure ControlLaw (enable : Bool) (p : Part) (c : Scanner) (timer : Option Nat) : Prop where
  motors   : enable = true ↔ p.state = .running
  check    : p.checking = true → p.state = .halted
  sequence : p.sequenceDue = true → p.state = .starting ∧ c.enabled = false
  scan     : c.enabled = true → p.state = .starting ∨ p.state = .running
  warm     : c.enabled = true → c.warm = true → p.state = .starting
  stop     : p.stop ≠ .idle → p.state = .stopping
  report   : timer ≠ none → p.state = .running

/-- The same of a state. -/
def State.Control (s : State) : Prop := ControlLaw s.motors.enable s.part s.scanner s.reporter.timer

theorem State.controlOk_iff (s : State) : s.ControlOk ↔ s.Control :=
  ⟨fun h => ⟨h.motors, h.check, h.sequence, h.scan, h.warm, h.stop, h.report⟩,
    fun h => ⟨h.motors, h.check, h.sequence, h.scan, h.warm, h.stop, h.report⟩⟩

/-- Where no activity goes on, the law holds of a part that is neither in service nor stopping. -/
theorem ControlLaw.quiet {enable : Bool} {p : Part} {c : Scanner} {timer : Option Nat} (motors : enable = false)
    (check : p.checking = false) (due : p.sequenceDue = false) (scan : c.enabled = false) (stop : p.stop = .idle)
    (report : timer = none) (state : p.state ≠ .running) : ControlLaw enable p c timer where
  motors := ⟨fun h => absurd (motors.symm.trans h) Bool.false_ne_true, fun h => absurd h state⟩
  check h := absurd (check.symm.trans h) Bool.false_ne_true
  sequence h := absurd (due.symm.trans h) Bool.false_ne_true
  scan h := absurd (scan.symm.trans h) Bool.false_ne_true
  warm h := absurd (scan.symm.trans h) Bool.false_ne_true
  stop h := absurd stop h
  report h := absurd report h

section
variable {enable : Bool} {p : Part} {c : Scanner} {timer : Option Nat} (h : ControlLaw enable p c timer)
include h

/-- What does not go on in a part state, read off the law. -/
theorem ControlLaw.enable_low (state : p.state ≠ .running) : enable = false :=
  Bool.eq_false_iff.mpr fun e => state (h.motors.mp e)

theorem ControlLaw.not_checking (state : p.state ≠ .halted) : p.checking = false :=
  Bool.eq_false_iff.mpr fun e => state (h.check e)

theorem ControlLaw.not_due (state : p.state ≠ .starting) : p.sequenceDue = false :=
  Bool.eq_false_iff.mpr fun e => state (h.sequence e).1

theorem ControlLaw.disabled (starting : p.state ≠ .starting) (running : p.state ≠ .running) : c.enabled = false :=
  Bool.eq_false_iff.mpr fun e => (h.scan e).elim starting running

theorem ControlLaw.stop_idle (state : p.state ≠ .stopping) : p.stop = .idle :=
  Decidable.byContradiction fun e => state (h.stop e)

theorem ControlLaw.no_timer (state : p.state ≠ .running) : timer = none :=
  Decidable.byContradiction fun e => state (h.report e)

/-- STARTING, from either mark of it. -/
theorem ControlLaw.starting (mark : p.sequenceDue = true ∨ p.state = .starting) : p.state = .starting :=
  mark.elim (fun due => (h.sequence due).1) fun k => k

end

theorem State.issueOldest_reporter (s : State) :
    s.issueOldest.reporter = s.reporter ∨ s.issueOldest.reporter = { s.reporter with run := none } := by
  unfold State.issueOldest
  split
  · exact .inl rfl
  · next w rest _ =>
    cases w.note
    · exact .inl rfl
    · exact .inl rfl
    · exact .inr rfl

theorem State.issueOldest_timer (s : State) : s.issueOldest.reporter.timer = s.reporter.timer := by
  rcases s.issueOldest_reporter with h | h <;> rw [h]

theorem State.reportAction_timer (s : State) : s.reportAction.reporter.timer = s.reporter.timer := by
  unfold State.reportAction
  simp only []
  repeat' split
  all_goals rfl

theorem State.Control.of_image {s t : State} (h : s.Control) (image : s.OnImage t)
    (timer : t.reporter.timer = s.reporter.timer) : t.Control := by
  unfold State.Control
  rw [image.motors, image.part, image.scanner, timer]
  exact h

theorem stepKeeps_control : StepKeeps State.Control where
  steady {s t} q h :=
    { motors := by rw [q.enable, q.state]; exact h.motors
      check := fun c => q.state ▸ h.check (q.checking c)
      sequence := fun d => ⟨q.state ▸ (h.sequence (q.due d)).1, Bool.eq_false_iff.mpr fun e =>
        absurd ((h.sequence (q.due d)).2.symm.trans (q.enabled e)) Bool.false_ne_true⟩
      scan := fun e => q.state ▸ h.scan (q.enabled e)
      warm := fun e w => q.state ▸ h.warm (q.enabled e) (q.warm w)
      stop := by rw [q.stop, q.state]; exact h.stop
      report := fun r => q.state ▸ h.report (q.timer r) }
  host _ h := h
  issue {s} h := h.of_image s.onImage_issueOldest s.issueOldest_timer
  action {s} h _ := h.of_image s.onImage_reportAction s.reportAction_timer
  append _ h _ := h
  report h _ _ := h
  close _ _ _ h := h
  check h halted := { h with check := fun _ => halted }
  accept {_ s} _ h₀ checking part _ h := by
    have halted : s.part.state = .halted := part ▸ h₀.check checking
    exact
      { motors := ⟨fun e => absurd (h.motors.mp e) (halted ▸ nofun), nofun⟩
        check := nofun
        sequence := fun _ => ⟨rfl, h.disabled (halted ▸ nofun) (halted ▸ nofun)⟩
        scan := fun _ => .inl rfl
        warm := fun _ _ => rfl
        stop := fun e => absurd (h.stop_idle (halted ▸ nofun)) e
        report := fun e => absurd (h.no_timer (halted ▸ nofun)) e }
  beginWriter _ _ _ h := h
  convert h₀ due state idle h := by
    have starting := state.trans (h₀.starting (.inl due))
    exact { h with
      sequence := fun e => absurd (idle.symm.trans e) Bool.false_ne_true
      scan := fun _ => .inl starting
      warm := fun _ _ => starting }
  abandon {_ s} h₀ mark state h := by
    have starting : s.part.state = .starting := state.trans (h₀.starting mark)
    exact .quiet (h.enable_low (starting ▸ nofun)) (h.not_checking (starting ▸ nofun)) rfl rfl
      (h.stop_idle (starting ▸ nofun)) (h.no_timer (starting ▸ nofun)) nofun
  run {s₀ s} h₀ enabled warm cold part h := by
    have starting : s.part.state = .starting := part ▸ h₀.warm enabled warm
    exact
      { motors := ⟨fun _ => rfl, fun _ => rfl⟩
        check := fun e => absurd ((h.not_checking (starting ▸ nofun)).symm.trans e) Bool.false_ne_true
        sequence := fun e => absurd ((h₀.sequence (part ▸ e)).2.symm.trans enabled) Bool.false_ne_true
        scan := fun _ => .inr rfl
        warm := fun _ e => absurd (cold.symm.trans e) Bool.false_ne_true
        stop := fun e => absurd (h.stop_idle (starting ▸ nofun)) e
        report := fun _ => rfl }
  enterStopping h running :=
    { motors := ⟨nofun, nofun⟩
      check := fun e => absurd ((h.not_checking (running ▸ nofun)).symm.trans e) Bool.false_ne_true
      sequence := fun e => absurd ((h.not_due (running ▸ nofun)).symm.trans e) Bool.false_ne_true
      scan := nofun
      warm := nofun
      stop := fun _ => rfl
      report := fun e => absurd rfl e }
  phase _ h stopping _ := { h with stop := fun _ => stopping }
  halt h stopping _ := .quiet (h.enable_low (stopping ▸ nofun)) (h.not_checking (stopping ▸ nofun))
    (h.not_due (stopping ▸ nofun)) (h.disabled (stopping ▸ nofun) (stopping ▸ nofun)) rfl (h.no_timer (stopping ▸ nofun)) nofun
  fault _ _ := .quiet rfl rfl rfl rfl rfl rfl nofun
  powerOn _ := .quiet rfl rfl rfl rfl rfl rfl nofun
  softReset _ := .quiet rfl rfl rfl rfl rfl rfl nofun

/-- Settles O58: each change of the part state starts and ends its activities with it. -/
theorem motorsAreEnabledInRunningAlone : Obligations.MotorsAreEnabledInRunningAlone := fun s t hs h =>
  t.controlOk_iff.mpr (stepKeeps_control.step (fun _ h => h) (s.controlOk_iff.mp h) hs)

/-! ### Report banks -/

/-- The law of the report banks, told of Part Control and the Report Writer. -/
structure BankLaw (p : Part) (w : Reporter) : Prop where
  bank    : ∀ r, w.run = some r → r.bank ≠ w.bank ∨ (r.next = 100 ∧ r.words = [])
  records : ∀ r, w.run = some r → r.next < 100 → ∀ x ∈ r.words, x.note ≠ .reportEnd
  last    : ∀ r, w.run = some r → endsLast r.words = true ∧ r.next ≤ 100
  idle    : p.state = .halted ∨ p.state = .starting → w.run = none
  ended   : p.stop = .lastWrites → w.run = none

/-- The same of a state, with the law of the part's control that it rests on. -/
def State.Banks (s : State) : Prop := s.Control ∧ BankLaw s.part s.reporter

theorem State.banks_iff (s : State) : s.ControlOk ∧ s.ReportOk ↔ s.Banks :=
  ⟨fun h => ⟨s.controlOk_iff.mp h.1, h.2.bank, h.2.records, h.2.last, h.2.idle, h.2.ended⟩,
    fun h => ⟨s.controlOk_iff.mpr h.1, h.2.bank, h.2.records, h.2.last, h.2.idle, h.2.ended⟩⟩

/-- With no report being written there is nothing to keep apart. -/
theorem BankLaw.of_none {p : Part} {w : Reporter} (h : w.run = none) : BankLaw p w where
  bank _ e := absurd (h.symm.trans e) nofun
  records _ e := absurd (h.symm.trans e) nofun
  last _ e := absurd (h.symm.trans e) nofun
  idle _ := h
  ended _ := h

/-- The law rests on the run, the selector, the part state and the STOP phase. -/
theorem BankLaw.of_eq {p q : Part} {w v : Reporter} (h : BankLaw p w) (run : v.run = w.run) (bank : v.bank = w.bank)
    (state : q.state = p.state) (stop : q.stop = p.stop) : BankLaw q v := by
  refine ⟨?_, ?_, ?_, ?_, ?_⟩
  · rw [run, bank]; exact h.bank
  · rw [run]; exact h.records
  · rw [run]; exact h.last
  · rw [run, state]; exact h.idle
  · rw [run, stop]; exact h.ended

theorem layWords_note (o : Nat) (ws : List Word) : ∀ x ∈ layWords o ws, x.note = .plain := by
  induction ws generalizing o with
  | nil => nofun
  | cons w ws ih =>
    intro x hx
    rcases List.mem_cons.mp hx with rfl | hx
    · rfl
    · exact ih _ x hx

theorem endsLast_of_plain {l : List PostedWrite} (h : ∀ x ∈ l, x.note ≠ .reportEnd) : endsLast l = true := by
  induction l with
  | nil => rfl
  | cons w ws ih =>
    cases ws with
    | nil => rfl
    | cons v vs =>
      have rest := ih fun x hx => h x (List.mem_cons_of_mem _ hx)
      have here := h w List.mem_cons_self
      simp [endsLast, rest, here]

theorem endsLast_tail {w : PostedWrite} {ws : List PostedWrite} (h : endsLast (w :: ws) = true) :
    endsLast ws = true ∧ (w.note = .reportEnd → ws = []) := by
  cases ws with
  | nil => exact ⟨rfl, fun _ => rfl⟩
  | cons v vs =>
    have := (Bool.and_eq_true _ _).mp h
    exact ⟨this.2, fun e => absurd e (by simpa using this.1)⟩

/-- One action of the Report Writer (R201): a word handed, the next record begun, or the header words begun. -/
theorem BankLaw.action {s : State} (h : BankLaw s.part s.reporter) : BankLaw s.part s.reportAction.reporter := by
  unfold State.reportAction
  cases hr : s.reporter.run with
  | none => exact h
  | some run =>
    obtain ⟨last, next⟩ := h.last run hr
    have busy : ∀ {A : Prop}, s.reporter.run = none → A := fun e => absurd (e.symm.trans hr) nofun
    simp only []
    split
    · next w rest words =>
      have tail := endsLast_tail (words ▸ last)
      refine ⟨fun r e => ?_, fun r e => ?_, fun r e => ?_, fun e => busy (h.idle e), fun e => busy (h.ended e)⟩ <;>
        obtain rfl := Option.some.inj e
      · by_cases ends : w.note = .reportEnd
        · refine .inr ⟨?_, tail.2 ends⟩
          have : ¬ run.next < 100 := fun low => h.records run hr low w (words ▸ List.mem_cons_self) ends
          show run.next = 100
          omega
        · refine .inl ?_
          have apart := (h.bank run hr).resolve_right fun e => by rw [words] at e; exact absurd e.2 nofun
          simpa [ends] using apart
      · exact fun low x hx => h.records run hr low x (words ▸ List.mem_cons_of_mem _ hx)
      · exact ⟨tail.1, next⟩
    · next words =>
      have apart : run.next ≠ 100 → run.bank ≠ s.reporter.bank := fun e => (h.bank run hr).resolve_right fun k => e k.1
      split
      · next low =>
        have plain : ∀ x ∈ layWords (run.bank.offset + 4 * (s.reportRecord run.next).1) (s.reportRecord run.next).2,
            x.note ≠ .reportEnd := fun x hx => by rw [layWords_note _ _ x hx]; nofun
        refine ⟨fun r e => ?_, fun r e => ?_, fun r e => ?_, fun e => busy (h.idle e), fun e => busy (h.ended e)⟩ <;>
          obtain rfl := Option.some.inj e
        · exact .inl (apart (by omega))
        · exact fun _ => plain
        · exact ⟨endsLast_of_plain plain, by show run.next + 1 ≤ 100; omega⟩
      · split
        · refine ⟨fun r e => ?_, fun r e => ?_, fun r e => ?_, fun e => busy (h.idle e), fun e => busy (h.ended e)⟩ <;>
            obtain rfl := Option.some.inj e
          · exact .inl (apart (by omega))
          · exact fun low => absurd low (Nat.lt_irrefl 100)
          · exact ⟨rfl, Nat.le_refl _⟩
        · exact h

theorem stepKeeps_banks : StepKeeps State.Banks where
  steady q h := ⟨stepKeeps_control.steady q h.1, h.2.of_eq q.run q.bank q.state q.stop⟩
  host _ h := h
  issue {s} h := by
    refine ⟨stepKeeps_control.issue h.1, ?_⟩
    rw [s.onImage_issueOldest.part]
    rcases s.issueOldest_reporter with e | e
    · exact e ▸ h.2
    · exact .of_none (by rw [e])
  action {s} h _ := ⟨h.1.of_image s.onImage_reportAction s.reportAction_timer, by
    rw [s.onImage_reportAction.part]
    exact h.2.action⟩
  append _ h _ := h
  report {s} h idle why := by
    have state : s.part.state ≠ .halted ∧ s.part.state ≠ .starting ∧ s.part.stop ≠ .lastWrites := by
      rcases why with timed | ⟨stopping, awaits⟩
      · have running := h.1.report timed
        rw [h.1.stop_idle (running ▸ nofun), running]
        exact ⟨nofun, nofun, nofun⟩
      · rw [stopping, awaits]
        exact ⟨nofun, nofun, nofun⟩
    refine ⟨h.1, fun r e => ?_, fun r e => ?_, fun r e => ?_, fun e => ?_, fun e => absurd e state.2.2⟩
    · obtain rfl := Option.some.inj e
      exact .inl (Bank.other_ne _)
    · obtain rfl := Option.some.inj e
      nofun
    · obtain rfl := Option.some.inj e
      exact ⟨rfl, Nat.zero_le _⟩
    · exact absurd e fun k => k.elim state.1 state.2.1
  close _ _ _ h := h
  check h halted := ⟨stepKeeps_control.check h.1 halted, h.2.of_eq rfl rfl rfl rfl⟩
  accept g h₀ checking part good h := ⟨stepKeeps_control.accept g h₀.1 checking part good h.1,
    .of_none (h.2.idle (.inl (part ▸ h₀.1.check checking)))⟩
  beginWriter _ _ _ h := h
  convert h₀ due state idle h := ⟨stepKeeps_control.convert h₀.1 due state idle h.1, h.2⟩
  abandon h₀ mark state h := ⟨stepKeeps_control.abandon h₀.1 mark state h.1,
    .of_none (h.2.idle (.inr (state.trans (h₀.1.starting mark))))⟩
  run {s₀ s} h₀ enabled warm cold part h := ⟨stepKeeps_control.run h₀.1 enabled warm cold part h.1,
    .of_none (w := s.running.reporter) (h.2.idle (.inr (part ▸ h₀.1.warm enabled warm)))⟩
  enterStopping h running := ⟨stepKeeps_control.enterStopping h.1 running,
    h.2.bank, h.2.records, h.2.last, fun e => e.elim nofun nofun, nofun⟩
  phase ph h stopping ended := ⟨stepKeeps_control.phase ph h.1 stopping ended,
    h.2.bank, h.2.records, h.2.last, h.2.idle, ended⟩
  halt h stopping last := ⟨stepKeeps_control.halt h.1 stopping last, .of_none (h.2.ended last)⟩
  fault code h := ⟨stepKeeps_control.fault code h.1, .of_none rfl⟩
  powerOn h := ⟨stepKeeps_control.powerOn h.1, .of_none rfl⟩
  softReset h := ⟨stepKeeps_control.softReset h.1, .of_none rfl⟩

/-- Settles O60: the selector names the bank being written only with the handing of word 9, the last of the report. -/
theorem reportBanksAlternate : Obligations.ReportBanksAlternate := fun s t hs control report =>
  (t.banks_iff.mpr (stepKeeps_banks.step (fun _ h => h) (s.banks_iff.mp ⟨control, report⟩) hs)).2

/-! ### The machine after reset -/

/-- Settles O52: the reset values meet each law, as every law's power-on case says. -/
theorem resetMeetsEveryLaw : Obligations.ResetMeetsEveryLaw := by
  have banks := State.reset.banks_iff.mpr ⟨.quiet rfl rfl rfl rfl rfl rfl nofun, .of_none rfl⟩
  exact ⟨State.reset_memory_wf, State.reset.queuesOk_iff.mpr State.queues_reset,
    State.reset.metersOk_iff.mpr Meters.lawful_reset, State.reset.grantsOk_iff.mpr Arbiter.lawful_reset,
    State.positions_reset, banks.1, State.reset.pagesOk_iff.mpr ⟨Writer.inPage_stopped rfl rfl, nofun⟩, banks.2⟩

end Sys2Proof.Machine
end

section
/-!
SUPPORT. Part control (section 10.1): the resets and the values they give, START and its refusals, the registers of the slave
port, and the ways out of service: an abandoned start, the end of the STOP sequence and entry to FAULTED.
-/
namespace Sys2Proof.Machine

/-! ### The reset values -/

theorem Vector.getElem_replicate_fin {α : Type} {n : Nat} (x : α) (i : Fin n) : (Vector.replicate n x)[i] = x := by simp

/-- A part whose blocks are as after reset, and whose contexts have the settings of reset, is at its reset values. -/
theorem State.atResetValues_of {t : State} (scanner : t.scanner = Scanner.reset) (touchScan : t.touchScan = TouchScanner.reset)
    (servo : t.servoLoaded = Vector.replicate 4 ServoClass.defaults)
    (strips : ∀ i, (t.strip i).settings = .defaults ∧ (t.strip i).staged = .defaults ∧ (t.strip i).servo = .defaults)
    (gangs : t.gangs = Vector.replicate 8 Gang.reset) (arbiter : t.arbiter = Arbiter.reset) (motors : t.motors = Motors.reset)
    (writer : t.writer = Writer.reset) (links : t.links = Vector.replicate 2 LinkRx.reset)
    (input : t.input = MeterInput.reset) (meters : t.meters = Meters.reset) (bars : t.bars = Bars.reset)
    (sweep : t.sweep = Sweep.reset) (reporter : t.reporter = Reporter.reset) (attention : t.attention = Attention.reset) :
    AtResetValues t := by
  refine ⟨?_, ?_, ⟨fun c => ?_, strips⟩, fun g => ?_, arbiter, ?_, ?_, fun k => ?_, ?_, fun c => ?_, fun k => ?_, ?_, ?_,
    reporter, attention⟩
  case refine_1 => simp [scanner, Scanner.reset]
  case refine_2 => simp [touchScan, TouchScanner.reset, TouchValues.defaults]
  case refine_3 => rw [servo, Vector.getElem_replicate_fin]; rfl
  case refine_4 => simp [State.gang, gangs, Gang.reset]
  case refine_5 => simp [motors, Motors.reset, MotorChannel.reset]
  case refine_6 => simp [writer, Writer.reset]
  case refine_7 => simp [links, LinkRx.reset, LinkSettings.defaults]
  case refine_8 => simp [input, meters, MeterInput.reset, Meters.reset]
  case refine_9 => simp [meters, Meters.reset, Channel.reset]
  case refine_10 => rw [meters]; revert k; decide
  case refine_11 =>
    simp [bars, Bars.reset, BarValues.defaults, Bars.defaultScales]
  case refine_12 => simp [sweep, Sweep.reset]

theorem Part.pstat_of_quiet {p : Part} (state : p.state = .halted) (fault : p.fault = .noFault)
    (result : p.startResult = .noResult) (failing : p.failing = none) (refused : p.refused = .noCommand) : p.pstat = 0 := by
  simp [Part.pstat, state, fault, result, failing, refused, failingCode, PartState.code, FaultCode.code, StartResult.code,
    Refused.code, bitsAt]

theorem Attention.irq_reset : Attention.reset.irq = false := by decide

/-- Settles O3: the state after power-on reset is the reset state but for three fields, and the values are read off it. -/
theorem powerOnResetValues : Obligations.PowerOnResetValues := by
  intro s
  have strip : ∀ i : StripId, s.powerOnReset.strip i = Strip.reset := fun i => Vector.getElem_replicate_fin _ i
  have motor : ∀ i : StripId, s.powerOnReset.motors.chans[i] = MotorChannel.reset := fun i => Vector.getElem_replicate_fin _ i
  have link : ∀ k : LinkId, s.powerOnReset.links[k] = LinkRx.reset := fun k => Vector.getElem_replicate_fin _ k
  refine ⟨s.powerOnReset, rfl, rfl, rfl, rfl, Part.pstat_of_quiet rfl rfl rfl rfl rfl, rfl, rfl, rfl, rfl, Attention.irq_reset, rfl, rfl, fun i => ?_, fun i => ?_,
    ⟨rfl, rfl, rfl, rfl, rfl⟩, fun k => ?_, ?_⟩
  · rw [strip]; exact ⟨rfl, rfl, rfl, rfl, rfl, rfl, rfl⟩
  · rw [motor]; exact ⟨rfl, rfl, rfl⟩
  · rw [link]; exact ⟨rfl, rfl, rfl, rfl, rfl⟩
  · exact State.atResetValues_of rfl rfl rfl (fun i => by rw [strip]; exact ⟨rfl, rfl, rfl⟩) rfl rfl rfl rfl rfl rfl rfl rfl
      rfl rfl rfl

theorem State.softReset_strip (s : State) (i : StripId) : s.softReset.strip i = { Strip.reset with cal := (s.strip i).cal } :=
  Vector.getElem_map _ _

/-- Settles O4: the state after SOFT_RESET is the reset state but for what R185 keeps. -/
theorem softResetKeepsBaseAndCalibration : Obligations.SoftResetKeepsBaseAndCalibration := by
  intro s
  have strip := s.softReset_strip
  have motor : ∀ i : StripId, s.softReset.motors.chans[i] = MotorChannel.reset := fun i => Vector.getElem_replicate_fin _ i
  have reset : ∀ i : StripId, State.reset.strip i = Strip.reset := fun i => Vector.getElem_replicate_fin _ i
  refine ⟨s.softReset, rfl, rfl, rfl, Part.pstat_of_quiet rfl rfl rfl rfl rfl, rfl, rfl, rfl, rfl, Attention.irq_reset, rfl, rfl, rfl, rfl, rfl, fun i => ?_, fun i => ?_, ?_,
    fun i => ?_, fun k => rfl, rfl⟩
  · rw [motor]; exact ⟨rfl, rfl, rfl⟩
  · rw [strip]; exact ⟨rfl, rfl, rfl, rfl⟩
  · exact State.atResetValues_of rfl rfl rfl (fun i => by rw [strip]; exact ⟨rfl, rfl, rfl⟩) rfl rfl rfl rfl rfl rfl rfl rfl
      rfl rfl rfl
  · rw [strip, reset]

/-! ### START, and STOP refused -/

/-- STOP in a part state that refuses it (R179). -/
theorem State.partStop_of_refused {s : State} (h : s.part.state = .halted ∨ s.part.state = .stopping ∨ s.part.state = .faulted)
    (host : List HostWrite) :
    s.partStop host = ({ s with part := { s.part with refused := .stop } } : State).hostWrote host := by
  unfold State.partStop
  obtain h | h | h := h <;> rw [h]

/-- Settles O5: START by the two branches of its test, STOP by the three part states that refuse it. -/
theorem startBeginsCheckOrIsRefused : Obligations.StartBeginsCheckOrIsRefused := by
  refine ⟨fun s halted free => congrArg Host.Outcome.next (if_pos ⟨halted, free⟩), fun s busy => ?_, fun s refuses =>
    congrArg Host.Outcome.next (State.partStop_of_refused refuses [])⟩
  refine congrArg Host.Outcome.next (if_neg fun ⟨halted, free⟩ => ?_)
  rw [free] at busy
  exact busy.elim (· halted) nofun

/-! ### The registers -/

theorem failingCode_lt (o : Option HeaderField) : failingCode o < 16 := by
  cases o with
  | none => decide
  | some f => cases f <;> decide

/-- The two numbers of PSTAT and of header word 12. -/
theorem resultNumbers_eq (p : Part) : resultNumbers p = (p.startResult.code, failingCode p.failing) := by
  unfold resultNumbers
  cases p.startResult <;> cases p.failing with
  | none => rfl
  | some f => cases f <;> rfl

theorem Part.resultWord_eq (p : Part) : p.resultWord = startResultWord p := by
  have result : p.startResult.code < 4 := by cases p.startResult <;> decide
  have field := failingCode_lt p.failing
  simp only [Part.resultWord, startResultWord, resultNumbers_eq, bitsAt]
  congr 1
  omega

theorem Part.pstat_eq (p : Part) : p.pstat = BitVec.ofNat 32
    (p.state.code + 16 * p.fault.code + 256 * p.startResult.code + 4096 * failingCode p.failing + 65536 * p.refused.code) := by
  have state : p.state.code < 8 := by cases p.state <;> decide
  have fault : p.fault.code < 4 := by cases p.fault <;> decide
  have result : p.startResult.code < 4 := by cases p.startResult <;> decide
  have field := failingCode_lt p.failing
  have refused : p.refused.code < 4 := by cases p.refused <;> decide
  simp only [Part.pstat, bitsAt]
  congr 1
  omega

/-- The register of a flag byte reads as the byte. -/
theorem toNat_zeroExtend_byte (b : BitVec 8) : (b.zeroExtend 32).toNat = b.toNat := by
  simp only [BitVec.truncate_eq_setWidth, BitVec.toNat_setWidth]
  omega

theorem State.registersRead (s : State) : RegistersRead s := by
  refine ⟨rfl, rfl, rfl, ?_, toNat_zeroExtend_byte _, toNat_zeroExtend_byte _, fun k c h => ?_⟩
  · rw [resultNumbers_eq]
    exact s.part.pstat_eq
  · have bit : c.bit = k.val := by
      revert h
      revert k c
      decide
    refine ⟨?_, ?_⟩
    · show ((s.attention.attn.zeroExtend 32 : BitVec 32)).getLsbD k.val = s.attention.attn.getLsbD c.bit
      rw [bit]
      simp [show k.val < 32 by omega]
    · show s.attention.attn ||| 1#8 <<< c.bit = _
      rw [bit]

/-- A write to PCTL whose word is none of its three codes is ignored (R179). -/
theorem State.writePctl_of_other (s : State) {w : Word} (start : w ≠ 1) (stop : w ≠ 2) (reset : w ≠ 3) : s.writePctl w = s := by
  unfold State.writePctl
  split
  · next h => exact absurd (BitVec.eq_of_toNat_eq h) start
  · next h => exact absurd (BitVec.eq_of_toNat_eq h) stop
  · next h => exact absurd (BitVec.eq_of_toNat_eq h) reset
  · rfl

/-- A write at an offset of no writable register is ignored (R179). -/
theorem State.writeRegister_of_other (s : State) {offset : Word} (w : Word) (ibase : offset ≠ 0x00) (pctl : offset ≠ 0x04)
    (attn : offset ≠ 0x10) (amask : offset ≠ 0x14) : s.writeRegister offset w = s := by
  unfold State.writeRegister
  split
  · next h => exact absurd (BitVec.eq_of_toNat_eq h) ibase
  · next h => exact absurd (BitVec.eq_of_toNat_eq h) pctl
  · next h => exact absurd (BitVec.eq_of_toNat_eq h) attn
  · next h => exact absurd (BitVec.eq_of_toNat_eq h) amask
  · rfl

/-- Settles O11: reads by the layout of the registers, writes by the offset they go to. -/
theorem registerWritesTakeEffect : Obligations.RegisterWritesTakeEffect :=
  ⟨State.registersRead, fun _ _ => rfl, fun _ _ => ⟨_, rfl, rfl, rfl⟩, fun _ _ => ⟨_, rfl, rfl, rfl, rfl⟩,
    fun _ _ => ⟨rfl, rfl, rfl⟩, fun _ => ⟨rfl, rfl, rfl⟩,
    fun s _ start stop reset => congrArg Host.Outcome.next (s.writePctl_of_other start stop reset),
    fun s _ w ibase pctl attn amask => congrArg Host.Outcome.next (s.writeRegister_of_other w ibase pctl attn amask)⟩

/-! ### Leaving service -/

/-- Out of service no link feeds a channel (R150, R152). -/
theorem State.fed_of_left {s : State} (left : ∀ k : LinkId, s.links[k].state = .off) (c : ChanId) : s.fed c = false := by
  have first : s.links[0].feeds c = false := by simp [LinkRx.feeds, show s.links[0].state = .off from left 0]
  have second : s.links[1].feeds c = false := by simp [LinkRx.feeds, show s.links[1].state = .off from left 1]
  simp [State.fed, first, second]

/-- The links out of service: every one left, and every channel without a feed (R152). -/
theorem State.leaveLinks_eq (s : State) : s.leaveLinks = { s with
    links := s.links.map LinkRx.leave
    meters := { s.meters with chans := s.meters.chans.map fun c => { c with nofeed := true } } } := by
  have left : ∀ k : LinkId, ({ s with links := s.links.map LinkRx.leave } : State).links[k].state = .off := fun k => by
    simp [LinkRx.leave]
  have chans : (Vector.ofFn fun c : ChanId =>
      ({ s.meters.chans[c] with nofeed := !({ s with links := s.links.map LinkRx.leave } : State).fed c } : Channel)) =
      s.meters.chans.map fun c => { c with nofeed := true } := by
    ext1 i hi
    simp [State.fed_of_left left ⟨i, hi⟩]
  unfold State.leaveLinks State.deriveFeed
  rw [chans]

/-- A cause set stands (R203). -/
theorem Attention.has_set (a : Attention) (c : Cause) : (a.set c).has c = true := by
  cases c <;> simp [Attention.has, Attention.set, Cause.mask, Cause.bit]

theorem State.abandonStart_eq (s : State) : s.abandonStart = { s with
    inFlight := s.inFlight.filter isArrival
    part := { s.part with state := .halted, sequenceDue := false }
    scanner := s.scanner.disable
    arbiter := { s.arbiter with recovery := none }
    writer := { s.writer with state := .stopped, hold := none, lost := 0 }
    links := s.links.map LinkRx.leave
    meters := { s.meters with decay := false, chans := s.meters.chans.map fun c => { c with nofeed := true } }
    bars := s.bars.blank
    attention := s.attention.set .state } := by
  unfold State.abandonStart
  rw [State.leaveLinks_eq]
  rfl

/-- Settles O9: the start abandoned, block by block. -/
theorem stopAbandonsStart : Obligations.StopAbandonsStart := by
  intro s host starting
  have stops : exec (.partStop host) s = .next (s.hostWrote host).abandonStart := by
    refine congrArg Host.Outcome.next ?_
    unfold State.partStop
    rw [starting]
  rw [State.abandonStart_eq] at stops
  have link : ∀ k : LinkId, (s.links.map LinkRx.leave)[k] = s.links[k].leave := fun k => Vector.getElem_map _ _
  exact ⟨_, stops, rfl, rfl, rfl, link, rfl, fun c => Vector.getElem_map _ _, rfl, rfl, rfl, rfl,
    fun k => ⟨congrArg LinkRx.state (link k), (congrArg LinkRx.settings (link k)).trans rfl⟩, rfl, rfl, rfl, rfl, rfl, rfl, rfl, rfl,
    rfl, rfl⟩

/-- Settles O10: HALTED once the last writes are issued, and no effect before. -/
theorem stopSequenceEndHalts : Obligations.StopSequenceEndHalts :=
  ⟨fun _ stopping last issued => congrArg Host.Outcome.next (if_pos ⟨stopping, last, issued⟩),
    fun _ early => congrArg Host.Outcome.next (if_neg early)⟩

/-! ### Entry to FAULTED -/

theorem Strip.discard_of_off {x : Strip} (off : x.state = .off) : x.discard = { x with
    streamTarget := none, role := .outside, followTarget := none, freeze := false
    current := x.discard.current, queue := x.discard.queue, calRun := x.discard.calRun, restart := x.discard.restart
    chainStart := x.discard.chainStart, profile := x.discard.profile } := by
  unfold Strip.discard Strip.rest
  simp only [off, if_true]
  rfl

theorem Strip.discard_of_on {x : Strip} (on : x.state ≠ .off) : x.discard = { x with
    state := if x.cal.valid then .idle else .uncal, current := none, queue := [], calRun := none, grantHeld := false
    touch := false, relatch := false, streamTarget := none, trail := [], trailStep := 0, role := .outside
    followTarget := none, freeze := false, restart := false, chainStart := none
    profile := { x.profile with set := false } } := by
  unfold Strip.discard Strip.rest
  simp only [on, if_false]
  rfl

/-- Entry to FAULTED leaves each block as R187 and R27 say, the fault address beside it. -/
theorem State.faultEntered (s : State) (code : FaultCode) (pfadr : Word) : FaultEntered s code pfadr
    { s.faultEntry code with part := { (s.faultEntry code).part with pfadr := pfadr } } := by
  have entry : s.faultEntry code = { s with
      inFlight := s.inFlight.filter isArrival, posted := []
      part := { s.part with state := .faulted, fault := code, checking := false, sequenceDue := false, stop := .idle }
      gangs := s.gangs.map fun g => { g with activity := none }
      links := s.links.map LinkRx.leave
      meters := { s.meters with decay := false, chans := s.meters.chans.map fun c => { c with nofeed := true } }
      sweep := s.sweep.stop, scanner := s.scanner.disable, touchScan := s.touchScan.stop
      strips := s.strips.map Strip.discard, arbiter := s.arbiter.empty, motors := s.motors.silence, writer := s.writer.halt
      input := { s.input with service := none }, bars := s.bars.blank, reporter := s.reporter.halt
      attention := s.attention.flushBoth.set .state } := by
    unfold State.faultEntry
    rw [State.leaveLinks_eq]
    rfl
  rw [entry]
  refine ⟨rfl, rfl, fun i => Vector.getElem_map _ _, fun k => Vector.getElem_map _ _, rfl, fun c => Vector.getElem_map _ _,
    fun g => Vector.getElem_map _ _, Attention.has_set _ _, fun i => ?_⟩
  have strip : (s.strips.map Strip.discard)[i] = (s.strip i).discard := Vector.getElem_map _ _
  simp only [State.strip] at strip ⊢
  rw [strip]
  exact ⟨Strip.discard_of_off, Strip.discard_of_on⟩

/-- Settles O12: with an access under way, the entry to FAULTED of that access. -/
theorem busFaultEntersFaulted : Obligations.BusFaultEntersFaulted := by
  intro s offset under
  have accessing : s.accessing = true := by
    unfold State.accessing
    obtain h | h | h | ⟨h, access⟩ := under <;> rw [h]
    simpa using access
  exact ⟨_, congrArg Host.Outcome.next (State.busFault_accessing accessing offset), s.faultEntered .bus _⟩

end Sys2Proof.Machine
end

section
/-!
SUPPORT. What the Image Port does depends on the blocks it works on alone: writes handed in two states that agree on these leave
the same image. With it the rounds of the Position Scanner (chapter 1).
-/
namespace Sys2Proof.Machine

/-! ### The part of the state that handed writes depend on -/

/-- `s` with the posted writes, memory, attention and reports of `t`. -/
def State.withImage (s t : State) : State :=
  { s with posted := t.posted, memory := t.memory, attention := t.attention, reporter := t.reporter }

theorem State.OnImage.eq_withImage {s t : State} (h : s.OnImage t) : t = s.withImage t := by
  obtain ⟨_, _, _, _, rfl⟩ := h; rfl

/-- `s` and `t` agree in all that handing a write depends on. -/
structure State.SameImage (s t : State) : Prop where
  posted : t.posted = s.posted
  memory : t.memory = s.memory
  attention : t.attention = s.attention
  reporter : t.reporter = s.reporter
  base : t.part.base = s.part.base

theorem State.SameImage.withImage_eq {s t : State} (h : s.SameImage t) (u : State) : u.withImage t = u.withImage s := by
  unfold State.withImage
  rw [h.posted, h.memory, h.attention, h.reporter]

theorem State.SameImage.reached {s t : State} (h : s.SameImage t) (n : WriteNote) : (s.reached n).SameImage (t.reached n) := by
  cases n with
  | plain => exact h
  | cellOwner => exact { h with attention := congrArg (Attention.event · .cell) h.attention }
  | reportEnd => exact { h with
      attention := congrArg (Attention.set · .report) h.attention
      reporter := congrArg (fun r : Reporter => { r with run := none }) h.reporter }

theorem State.SameImage.issueOldest {s t : State} (h : s.SameImage t) : s.issueOldest.SameImage t.issueOldest := by
  unfold State.issueOldest
  rw [h.posted]
  cases s.posted with
  | nil => exact h
  | cons w rest =>
    apply State.SameImage.reached
    refine ⟨rfl, ?_, h.attention, h.reporter, h.base⟩
    show t.memory.writeWord (t.part.base.toNat + w.offset) w.data = s.memory.writeWord (s.part.base.toNat + w.offset) w.data
    rw [h.memory, h.base]

theorem State.SameImage.makePlace {s t : State} (h : s.SameImage t) : s.makePlace.SameImage t.makePlace := by
  unfold State.makePlace
  rw [h.posted]
  split
  · exact h.issueOldest
  · exact h

/-- The Report Writer holds at least `n` words of a record, or writes no report. -/
def State.HoldsWords (n : Nat) (s : State) : Prop := ∀ run, s.reporter.run = some run → n ≤ run.words.length

theorem State.HoldsWords.makePlace {n : Nat} {s : State} (h : s.HoldsWords n) : s.makePlace.HoldsWords n := by
  unfold State.makePlace
  split
  · obtain e | e := s.issueOldest_reporter
    · intro run hr
      exact h run (e ▸ hr)
    · intro run hr
      rw [e] at hr
      cases hr
  · exact h

/-- The Report Writer's next action while it holds a word is to hand it. -/
theorem State.reportAction_of_word {s : State} {run : ReportRun} {w : PostedWrite} {rest : List PostedWrite}
    (hr : s.reporter.run = some run) (words : run.words = w :: rest) : s.reportAction = { s with
      posted := s.posted ++ [w]
      reporter := { s.reporter with
        run := some { run with words := rest }
        bank := if w.note = .reportEnd then run.bank else s.reporter.bank } } := by
  simp only [State.reportAction, hr, words]

theorem State.reportAction_of_none {s : State} (h : s.reporter.run = none) : s.reportAction = s := by
  simp only [State.reportAction, h]

/-- A word handed by the Report Writer, from one it holds. -/
theorem State.HoldsWords.reportAction {n : Nat} {s : State} (h : s.HoldsWords (n + 1)) : s.reportAction.HoldsWords n := by
  cases hr : s.reporter.run with
  | none =>
    rw [State.reportAction_of_none hr]
    exact fun run e => absurd (hr.symm.trans e) nofun
  | some run =>
    have held := h run hr
    cases words : run.words with
    | nil => rw [words] at held; exact absurd held (Nat.not_succ_le_zero n)
    | cons w rest =>
      rw [State.reportAction_of_word hr words]
      intro r e
      obtain rfl := Option.some.inj e
      rw [words] at held
      exact Nat.le_of_succ_le_succ held

theorem State.SameImage.handWord {n : Nat} {s t : State} (h : s.SameImage t) (held : s.HoldsWords (n + 1)) :
    s.reportAction.SameImage t.reportAction := by
  cases hr : s.reporter.run with
  | none =>
    rw [State.reportAction_of_none hr, State.reportAction_of_none (h.reporter ▸ hr)]
    exact h
  | some run =>
    have words := held run hr
    cases hw : run.words with
    | nil => rw [hw] at words; exact absurd words (Nat.not_succ_le_zero n)
    | cons w rest =>
      rw [State.reportAction_of_word hr hw, State.reportAction_of_word (h.reporter ▸ hr) hw]
      exact ⟨congrArg (· ++ [w]) h.posted, h.memory, h.attention, by rw [h.reporter], h.base⟩

theorem State.SameImage.finishFor {n : Nat} {s t : State} (h : s.SameImage t) (held : s.HoldsWords n) :
    (State.finishFor n s).SameImage (State.finishFor n t) := by
  induction n generalizing s t with
  | zero => exact h
  | succ n ih => exact ih (h.makePlace.handWord held.makePlace) held.makePlace.reportAction

theorem State.holdsWords_inHand (s : State) : s.HoldsWords s.wordsInHand := by
  intro run hr
  simp [State.wordsInHand, hr]

theorem State.SameImage.finishRequest {s t : State} (h : s.SameImage t) : s.finishRequest.SameImage t.finishRequest := by
  have words : t.wordsInHand = s.wordsInHand := by rw [State.wordsInHand, h.reporter]; rfl
  unfold State.finishRequest
  rw [words]
  exact h.finishFor s.holdsWords_inHand

theorem State.SameImage.post {s t : State} (h : s.SameImage t) (w : PostedWrite) : (s.post w).SameImage (t.post w) := by
  have k := h.finishRequest.makePlace
  exact ⟨congrArg (· ++ [w]) k.posted, k.memory, k.attention, k.reporter, k.base⟩

theorem State.SameImage.postAll {s t : State} (h : s.SameImage t) (ws : List PostedWrite) :
    (s.postAll ws).SameImage (t.postAll ws) := by
  induction ws generalizing s t with
  | nil => exact h
  | cons w ws ih => exact ih (h.post w)

/-- Writes handed in a state that agrees with `s` in the image leave the image that `s` leaves. -/
theorem State.SameImage.postAll_eq {s t : State} (h : s.SameImage t) (ws : List PostedWrite) :
    t.postAll ws = t.withImage (s.postAll ws) :=
  (t.onImage_postAll ws).eq_withImage.trans ((h.postAll ws).withImage_eq t)

/-! ### What every operation of the Image Port keeps -/

/-- A relation that the single actions of the Image Port and of the Report Writer keep. -/
structure ImageKeeps (R : State → State → Prop) : Prop where
  refl : ∀ s, R s s
  trans : ∀ {s t u}, R s t → R t u → R s u
  issue : ∀ s, R s s.issueOldest
  action : ∀ s, R s s.reportAction
  append : ∀ (s : State) w, R s { s with posted := s.posted ++ [w] }
  host : ∀ (s : State) ws, R s (s.hostWrote ws)

namespace ImageKeeps
variable {R : State → State → Prop} (k : ImageKeeps R)
include k

theorem makePlace (s : State) : R s s.makePlace := by
  unfold State.makePlace
  split
  · exact k.issue s
  · exact k.refl s

theorem finishFor (n : Nat) (s : State) : R s (State.finishFor n s) := by
  induction n generalizing s with
  | zero => exact k.refl s
  | succ n ih => exact k.trans (k.trans (k.makePlace s) (k.action _)) (ih _)

theorem finishRequest (s : State) : R s s.finishRequest := k.finishFor _ s

theorem post (s : State) (w : PostedWrite) : R s (s.post w) :=
  k.trans (k.trans (k.finishRequest s) (k.makePlace _)) (k.append _ w)

theorem postAll (s : State) (ws : List PostedWrite) : R s (s.postAll ws) := by
  induction ws generalizing s with
  | nil => exact k.refl s
  | cons w ws ih => exact k.trans (k.post s w) (ih _)

theorem pumpFor (n : Nat) (s : State) : R s (State.pumpFor n s) := by
  induction n generalizing s with
  | zero => exact k.refl s
  | succ n ih =>
    unfold State.pumpFor
    split
    · exact k.trans (k.action s) (ih _)
    · exact k.refl s

theorem pump (s : State) : R s s.pump := k.pumpFor 24 s

theorem issueAll (s : State) : R s s.issueAll := by
  have issues : ∀ (l : List PostedWrite) (t : State), R t (l.foldl (fun t _ => t.issueOldest) t) := by
    intro l
    induction l with
    | nil => exact k.refl
    | cons w l ih => exact fun t => k.trans (k.issue t) (ih _)
  exact issues s.posted s

theorem beforeRead (s : State) (ws : List HostWrite) : R s (s.beforeRead ws) :=
  k.trans (k.trans (k.trans (k.finishRequest s) (k.issueAll _)) (k.pump _)) (k.host _ ws)

end ImageKeeps

/-- The report periods are as they were. -/
def State.SamePeriods (s t : State) : Prop :=
  t.reporter.timer = s.reporter.timer ∧ t.reporter.period = s.reporter.period ∧
    t.reporter.periodStaged = s.reporter.periodStaged

theorem imageKeeps_periods : ImageKeeps State.SamePeriods where
  refl _ := ⟨rfl, rfl, rfl⟩
  trans h k := ⟨k.1.trans h.1, k.2.1.trans h.2.1, k.2.2.trans h.2.2⟩
  issue s := by
    obtain e | e := s.issueOldest_reporter <;>
      exact ⟨by rw [e], by rw [e], by rw [e]⟩
  action s := by
    unfold State.reportAction
    split
    · exact ⟨rfl, rfl, rfl⟩
    · split
      · exact ⟨rfl, rfl, rfl⟩
      · split
        · exact ⟨rfl, rfl, rfl⟩
        · split <;> exact ⟨rfl, rfl, rfl⟩
  append _ _ := ⟨rfl, rfl, rfl⟩
  host _ _ := ⟨rfl, rfl, rfl⟩

/-! ### Writes handed where there are places -/

theorem State.wordsInHand_of_none {s : State} (h : s.reporter.run = none) : s.wordsInHand = 0 := by
  rw [State.wordsInHand, h]; rfl

/-- With no word of a report in hand and a place free, a write joins the posted writes. -/
theorem State.post_of_place {s : State} (w : PostedWrite) (idle : s.wordsInHand = 0) (place : s.posted.length < 8) :
    s.post w = { s with posted := s.posted ++ [w] } := by
  have keep : s.makePlace = s := if_neg (Nat.not_le.mpr place)
  unfold State.post
  rw [State.finishRequest_idle idle, keep]

theorem State.postAll_of_places {s : State} (ws : List PostedWrite) (idle : s.wordsInHand = 0)
    (places : s.posted.length + ws.length ≤ 8) : s.postAll ws = { s with posted := s.posted ++ ws } := by
  induction ws generalizing s with
  | nil => simp [State.postAll]
  | cons w ws ih =>
    simp only [List.length_cons] at places
    have first := State.post_of_place w idle (by omega)
    show (s.post w).postAll ws = _
    have room : (s.posted ++ [w]).length + ws.length ≤ 8 := by
      simp only [List.length_append, List.length_singleton]
      omega
    rw [first]
    refine (ih (s := { s with posted := s.posted ++ [w] }) idle room).trans ?_
    simp

/-! ### Rounds (R3 to R11) -/

/-- Settles O13: the two round states of a running timer, and a stopped one. -/
theorem scanTimerExpiryStartsOrMisses : Obligations.ScanTimerExpiryStartsOrMisses := by
  intro s
  have expires : ∀ {t : State}, s.scanExpiry = t → exec .scanTimerExpiry s = .next t := congrArg Host.Outcome.next
  have isSome : s.scanner.timer ≠ none → s.scanner.timer.isSome = true := Option.isSome_iff_ne_none.mpr
  refine ⟨fun runs idle => expires ?_, fun runs running => expires ?_, fun stopped => expires ?_⟩
  · rw [State.scanExpiry, if_pos (isSome runs), if_pos idle]
    rfl
  · have busy : ¬ s.scanner.round = .idle := by rw [running]; nofun
    rw [State.scanExpiry, if_pos (isSome runs), if_neg busy]
  · rw [State.scanExpiry, stopped]
    rfl

/-- A scanner that has the conversion of REF_LO before it, at its first completion. -/
def Scanner.taken (c : Scanner) : Scanner := { c with longNext := false }

theorem referencePasses_iff (hi lo : Nat) : referencePasses hi lo = true ↔ 1008 ≤ hi ∧ lo ≤ 15 := by
  simp [referencePasses]

section
variable {s : State} (code : Code) (enabled : s.scanner.enabled = true) (running : s.scanner.round = .running)
include enabled running

theorem exec_conversion_first (first : s.scanner.position = 0) : exec (.conversionComplete code) s = .next { s with
    scanner := { s.scanner with longNext := false, refHi := code.toNat, position := 1 } } := by
  refine congrArg Host.Outcome.next ((if_pos ⟨enabled, running⟩).trans ?_)
  rw [first]

theorem exec_conversion_second (second : s.scanner.position = 1) : exec (.conversionComplete code) s =
    .next (({ s with scanner := s.scanner.taken } : State).referenceDone code.toNat) := by
  refine congrArg Host.Outcome.next ((if_pos ⟨enabled, running⟩).trans ?_)
  rw [second]
  rfl

theorem exec_conversion_strip {k : Nat} {i : StripId} (position : s.scanner.position = k + 2) (listed : s.scanner.list[k]? = some i) :
    exec (.conversionComplete code) s = .next (({ s with scanner := s.scanner.taken } : State).stripDone i code) := by
  refine congrArg Host.Outcome.next ((if_pos ⟨enabled, running⟩).trans ?_)
  rw [position]
  simp only [listed]
  rfl

end

theorem State.referenceDone_of_failed {s : State} {lo : Nat} (cold : s.scanner.warm = false)
    (fails : ¬ (1008 ≤ s.scanner.refHi ∧ lo ≤ 15)) : s.referenceDone lo = s.referenceFailed := by
  rw [State.referenceDone, cold, if_neg nofun, if_neg fun k => fails ((referencePasses_iff _ _).mp k)]

theorem State.referenceDone_of_passed {s : State} {lo : Nat} (cold : s.scanner.warm = false)
    (passes : 1008 ≤ s.scanner.refHi ∧ lo ≤ 15) : s.referenceDone lo = { s with
      scanner := if s.scanner.list = [] then ({ s.scanner with runCount := 0 } : Scanner).endRound
        else { s.scanner with runCount := 0, position := 2 } } := by
  rw [State.referenceDone, cold, if_neg nofun, if_pos ((referencePasses_iff _ _).mpr passes)]

/-- A failed check that is not the sixteenth in a row. -/
theorem State.referenceFailed_of_early {s : State} (early : s.scanner.runCount + 1 ≠ 16) : s.referenceFailed = { s with
    scanner := { s.scanner.endRound with refFailures := s.scanner.refFailures + 1, runCount := s.scanner.runCount + 1 }
    attention := if s.scanner.runCount = 0 then s.attention.set .scan else s.attention } := by
  unfold State.referenceFailed
  simp only []
  rw [if_neg (show ¬ s.scanner.endRound.runCount + 1 = Config.referenceFaultRun from early)]
  split <;> rfl

/-- The sixteenth failed check in a row: what the scanner counted stands, the rest is entry to FAULTED. -/
theorem State.referenceFailed_of_last {s : State} (last : s.scanner.runCount + 1 = 16) : s.referenceFailed =
    ({ s with scanner := { s.scanner with runCount := 16, refFailures := s.scanner.refFailures + 1 } } : State).faultEntry
      .scan := by
  have later : ¬ s.scanner.runCount = 0 := by omega
  unfold State.referenceFailed
  simp only []
  rw [if_neg later, if_pos (show s.scanner.endRound.runCount + 1 = Config.referenceFaultRun from last)]
  have count : s.scanner.endRound.runCount + 1 = 16 := last
  rw [count]
  rfl

/-- The scanner that has taken REF_LO enters FAULTED as the one before it: the converter is disabled either way. -/
theorem State.faultEntry_taken (s : State) (n : Nat) (failures : Half) :
    ({ s with scanner := { s.scanner.taken with runCount := n, refFailures := failures } } : State).faultEntry .scan =
      ({ s with scanner := { s.scanner with runCount := n, refFailures := failures } } : State).faultEntry .scan := rfl

/-- Settles O14: REF_HI, then REF_LO in the warm round, with a check that passes and with one that fails. -/
theorem referenceCheckDecides : Obligations.ReferenceCheckDecides := by
  intro s code enabled running
  refine ⟨exec_conversion_first code enabled running, fun second warm => ?_, fun second cold =>
    ⟨fun passes => ?_, fun fails => ?_⟩⟩
  · rw [exec_conversion_second code enabled running second]
    exact congrArg Host.Outcome.next (if_pos warm)
  · have done := (exec_conversion_second code enabled running second).trans
      (congrArg Host.Outcome.next (State.referenceDone_of_passed (s := { s with scanner := s.scanner.taken }) cold passes))
    refine ⟨fun listed => done.trans ?_, fun empty => done.trans ?_⟩
    · rw [if_neg (show ¬ s.scanner.taken.list = [] from listed)]
      rfl
    · rw [if_pos (show s.scanner.taken.list = [] from empty)]
      rfl
  · have done := (exec_conversion_second code enabled running second).trans
      (congrArg Host.Outcome.next (State.referenceDone_of_failed (s := { s with scanner := s.scanner.taken }) cold fails))
    refine ⟨fun early => done.trans (congrArg Host.Outcome.next (State.referenceFailed_of_early early)), fun last => ?_⟩
    have fault := State.referenceFailed_of_last (s := { s with scanner := s.scanner.taken }) last
    exact ⟨_, done.trans (congrArg Host.Outcome.next (fault.trans (s.faultEntry_taken _ _))),
      State.faultEntered _ .scan s.part.pfadr⟩

/-! ### A strip's conversion (R3, R8, R12) -/

section
variable {s t : State} {i : StripId} {code : Code} {k : Nat} (position : s.scanner.position = k + 2)
  (delivered : (if s.scanner.warm then s else s.deliver (.sampleArrival i code)) = t)
include position delivered

theorem State.stripDone_of_more (more : k + 1 < s.scanner.list.length) :
    s.stripDone i code = { t with scanner := { s.scanner with position := k + 3 } } := by
  have left : s.scanner.position - 1 < s.scanner.list.length := by omega
  unfold State.stripDone
  simp only []
  rw [if_pos left, delivered]
  have scanner : t.scanner = s.scanner := by rw [← delivered]; split <;> rfl
  rw [scanner, position]

theorem State.stripDone_of_last (last : k + 1 = s.scanner.list.length) : s.stripDone i code =
    if s.scanner.warm then ({ t with scanner := s.scanner.endRound } : State).entryRunning
    else { t with scanner := s.scanner.endRound } := by
  have none_left : ¬ s.scanner.position - 1 < s.scanner.list.length := by omega
  unfold State.stripDone
  simp only []
  rw [if_neg none_left, delivered]
  have scanner : t.scanner = s.scanner := by rw [← delivered]; split <;> rfl
  rw [scanner]

end

/-- Entry to RUNNING (R182) at the end of the warm round: the scanner has no part in what the three header words leave. -/
theorem State.entryRunning_withScanner (s : State) (c : Scanner) : ({ s with scanner := c } : State).entryRunning =
    let u := s.postAll s.firstHeader
    { u with
      part := { s.part with state := .running }
      motors := { s.motors with enable := true }
      scanner := { c with timer := some c.period }
      touchScan := { s.touchScan with timer := true }
      sweep := { s.sweep with period := s.sweep.periodStaged, timer := some s.sweep.periodStaged }
      reporter := { u.reporter with
        bank := .a, count := 0, period := s.reporter.periodStaged, timer := some s.reporter.periodStaged }
      attention := u.attention.set .state } := by
  have same : s.SameImage { s with scanner := c } := ⟨rfl, rfl, rfl, rfl, rfl⟩
  have posts := same.postAll_eq s.firstHeader
  have header : ({ s with scanner := c } : State).firstHeader = s.firstHeader := rfl
  have periods := (imageKeeps_periods.postAll s s.firstHeader).2.2
  obtain ⟨_, _, _, _, image⟩ := s.onImage_postAll s.firstHeader
  rw [State.entryRunning_eq, header, posts, ← periods, image]
  rfl

theorem Scanner.endRound_of_cold {c : Scanner} (cold : c.warm = false) :
    c.endRound = { c with round := .idle, list := [], position := 0 } := by
  rw [Scanner.endRound, ← cold]

/-- Settles O15: in a passed round and in the warm round, a conversion with more to come and the round's last. -/
theorem stripConversionDelivers : Obligations.StripConversionDelivers := by
  intro s code k i enabled running position listed
  have done : ∀ {t : State}, ({ s with scanner := s.scanner.taken } : State).stripDone i code = t →
      exec (.conversionComplete code) s = .next t := fun e =>
    (exec_conversion_strip code enabled running position listed).trans (congrArg Host.Outcome.next e)
  have taken : ({ s with scanner := s.scanner.taken } : State).scanner.position = k + 2 := position
  refine ⟨fun cold left => done ?_, fun cold ends => done ?_, fun warm left => done ?_, fun warm ends =>
    ⟨done ?_, (s.onImage_postAll _).inFlight, (s.onImage_postAll _).strips, fun idle places => ?_⟩⟩
  · exact State.stripDone_of_more taken (if_neg (ne_true_of_eq_false cold)) left
  · refine (State.stripDone_of_last taken (if_neg (ne_true_of_eq_false cold)) ends).trans
      ((if_neg (ne_true_of_eq_false cold)).trans ?_)
    rw [Scanner.endRound_of_cold (c := s.scanner.taken) cold]
    rfl
  · exact State.stripDone_of_more (t := { s with scanner := s.scanner.taken }) taken (if_pos warm) left
  · exact ((State.stripDone_of_last (t := { s with scanner := s.scanner.taken }) taken (if_pos warm) ends).trans (if_pos warm)).trans
      (s.entryRunning_withScanner s.scanner.taken.endRound)
  · rw [State.postAll_of_places _ (State.wordsInHand_of_none idle) (by simp only [List.length_cons, List.length_nil]; omega)]
    exact ⟨rfl, rfl⟩

end Sys2Proof.Machine
end

section
/-!
SUPPORT. Grant decisions (R105), the events at the arbiter, the motor supply and the outputs (chapter 5), and the debouncing of
touch (section 1.6).
-/
namespace Sys2Proof.Machine

/-! ### The order of requests (R105) -/

/-- A request goes before another by priority, then by strip number. -/
def Request.Beats (r q : Request) : Prop := q.priority < r.priority ∨ (q.priority = r.priority ∧ r.strip < q.strip)

theorem Request.before_iff (r q : Request) : r.before q = true ↔ r.Beats q := by
  simp [Request.before, Request.Beats, eq_comm (a := r.priority) (b := q.priority)]

/-- The order told on numbers. -/
theorem Request.beats_iff (r q : Request) : r.Beats q ↔ q.priority.toNat < r.priority.toNat ∨
    (q.priority.toNat = r.priority.toNat ∧ r.strip.val < q.strip.val) := by
  simp only [Request.Beats, BitVec.lt_def, BitVec.toNat_eq, Fin.lt_def]

/-- Of two requests of different strips one goes before the other. -/
theorem Request.beats_of_not {r q : Request} (h : ¬ q.Beats r) (apart : q.strip ≠ r.strip) : r.Beats q := by
  have numbers : q.strip.val ≠ r.strip.val := fun e => apart (Fin.ext e)
  rw [Request.beats_iff] at h ⊢
  omega

theorem Request.not_beats_self (r : Request) : ¬ r.Beats r := by
  rw [Request.beats_iff]
  omega

theorem Request.Beats.asymm {r q : Request} (h : r.Beats q) : ¬ q.Beats r := by
  rw [Request.beats_iff] at h ⊢
  omega

theorem Request.not_beats_trans {r q p : Request} (h : ¬ r.Beats q) (k : ¬ q.Beats p) : ¬ r.Beats p := by
  rw [Request.beats_iff] at h k ⊢
  omega

/-- No request of the list goes before its best. -/
theorem bestRequest_best {l : List Request} {b : Request} (h : bestRequest l = some b) : ∀ r ∈ l, ¬ r.Beats b := by
  induction l generalizing b with
  | nil => cases h
  | cons r rs ih =>
    unfold bestRequest at h
    cases best : bestRequest rs with
    | none =>
      rw [best] at h
      obtain rfl := Option.some.inj h
      have empty : rs = [] := by
        cases rs with
        | nil => rfl
        | cons q qs =>
          unfold bestRequest at best
          cases rest : bestRequest qs with
          | none => rw [rest] at best; cases best
          | some p => rw [rest] at best; simp only [] at best; split at best <;> cases best
      simp [empty, Request.not_beats_self]
    | some p =>
      rw [best] at h
      simp only [] at h
      split at h <;> obtain rfl := Option.some.inj h
      · next beats => exact List.forall_mem_cons.mpr ⟨((Request.before_iff _ _).mp beats).asymm, ih best⟩
      · next beaten =>
        exact List.forall_mem_cons.mpr ⟨r.not_beats_self, fun q hq =>
          Request.not_beats_trans (ih best q hq) fun k => beaten ((Request.before_iff _ _).mpr k)⟩

theorem bestRequest_eq_none {l : List Request} (h : bestRequest l = none) : l = [] := by
  cases l with
  | nil => rfl
  | cons r rs =>
    unfold bestRequest at h
    split at h
    · cases h
    · split at h <;> cases h

/-! ### Decisions (R105) -/

theorem Arbiter.eligible_iff (a : Arbiter) (r : Request) :
    a.eligible r = true ↔ a.supply = .ok ∨ a.floor < r.priority.toNat := by
  simp [Arbiter.eligible]

theorem Arbiter.decisionBudget_eq (a : Arbiter) : a.decisionBudget =
    if a.supply = .ok then a.pendingFull.getD (if a.supply = .ok then a.full else a.low)
    else if a.supply = .ok then a.full else a.low := by
  unfold Arbiter.decisionBudget Arbiter.currentBudget
  cases a.pendingFull with
  | none => simp
  | some g => rfl

/-- What a chosen record is: an eligible one of the waiting set, which no eligible one goes before, with room in the budget. -/
theorem Arbiter.choice_some {a : Arbiter} {r : Request} (h : a.choice = some r) :
    a.grantSet.length < a.decisionBudget ∧ r ∈ a.waiting ∧ a.eligible r = true ∧
      ∀ w ∈ a.waiting, a.eligible w = true → ¬ w.Beats r := by
  unfold Arbiter.choice at h
  split at h
  · next room =>
    obtain ⟨waits, eligible⟩ := List.mem_filter.mp (bestRequest_mem h)
    exact ⟨room, waits, eligible, fun w hw ew => bestRequest_best h w (List.mem_filter.mpr ⟨hw, ew⟩)⟩
  · cases h

theorem Arbiter.choice_none {a : Arbiter} (h : a.choice = none) (room : a.grantSet.length < a.decisionBudget) :
    ∀ r ∈ a.waiting, ¬ a.eligible r = true := by
  rw [Arbiter.choice, if_pos room] at h
  exact List.filter_eq_nil_iff.mp (bestRequest_eq_none h)

/-- A decision without a choice grants nothing. -/
theorem Arbiter.decided_nil {a : Arbiter} (h : a.choice = none) : Decided a a [] := by
  have all : (a.waiting.filter fun r => decide (r.strip ∉ ([] : List StripId))) = a.waiting :=
    List.filter_eq_self.mpr fun _ _ => decide_eq_true List.not_mem_nil
  refine ⟨by rw [List.append_nil, all], nofun, fun room r hr eligible => ?_, [], rfl, List.Pairwise.nil, nofun⟩
  rw [← Arbiter.decisionBudget_eq] at room
  exact Arbiter.choice_none h room r hr ((a.eligible_iff r).mpr eligible)

/-- A decision that goes on after a record chosen and issued. -/
theorem Arbiter.decided_cons {a b : Arbiter} {r : Request} {l : List StripId} (h : a.choice = some r)
    (rest : Decided (a.issue r) b l) : Decided a b (r.strip :: l) := by
  obtain ⟨room, waits, eligible, best⟩ := Arbiter.choice_some h
  obtain ⟨rfl, within_, full, chosen, strips, ordered, allChosen⟩ := rest
  have remaining : ∀ w ∈ (a.waiting.filter (·.strip ≠ r.strip)), (a.supply = .ok ∨ a.floor < w.priority.toNat) → r.Beats w := by
    intro w hw ew
    obtain ⟨hw, apart⟩ := List.mem_filter.mp hw
    exact Request.beats_of_not (best w hw ((a.eligible_iff w).mpr ew)) (by simpa using apart)
  refine ⟨?_, fun _ => ?_, full, r :: chosen, by rw [List.map_cons, strips], List.pairwise_cons.mpr ⟨?_, ordered⟩,
    List.forall_mem_cons.mpr ⟨⟨waits, (a.eligible_iff r).mp eligible, ?_⟩, ?_⟩⟩
  · simp [Arbiter.issue, List.filter_filter, Bool.and_comm]
  · cases l with
    | nil =>
      rw [← Arbiter.decisionBudget_eq]
      rw [List.append_nil]
      exact Nat.le_trans (Nat.le_of_eq List.length_append) room
    | cons i l => exact within_ nofun
  · intro q hq
    obtain ⟨waitsToo, eligibleToo, -⟩ := allChosen q hq
    exact remaining q waitsToo eligibleToo
  · intro w hw ew
    exact remaining w (List.mem_filter.mp hw).1 ew
  · intro q hq
    obtain ⟨waitsToo, eligibleToo, beats⟩ := allChosen q hq
    exact ⟨(List.mem_filter.mp waitsToo).1, eligibleToo, beats⟩

/-- A decision with enough steps for the records that wait. -/
theorem Arbiter.decided_decideFor (n : Nat) (a : Arbiter) (enough : a.waiting.length ≤ n) :
    Decided a (Arbiter.decideFor n a).1 (Arbiter.decideFor n a).2 := by
  induction n generalizing a with
  | zero =>
    have empty : a.waiting = [] := List.length_eq_zero_iff.mp (Nat.le_zero.mp enough)
    refine Arbiter.decided_nil ?_
    unfold Arbiter.choice
    rw [empty]
    split <;> rfl
  | succ n ih =>
    unfold Arbiter.decideFor
    cases h : a.choice with
    | none => exact Arbiter.decided_nil h
    | some r =>
      refine Arbiter.decided_cons h (ih _ ?_)
      have fewer : (a.issue r).waiting.length < a.waiting.length :=
        List.length_filter_lt_length_iff_exists.mpr ⟨r, (Arbiter.choice_some h).2.1, by simp⟩
      omega

/-- A grant decision on the state: the arbiter decided, its grants delivered in the order chosen. -/
theorem State.grantDecision_decided (s : State) (a : Arbiter) : ∃ b l, Decided a b l ∧
    s.grantDecision a = { s with arbiter := b, inFlight := s.inFlight ++ l.map .grant } :=
  ⟨_, _, Arbiter.decided_decideFor _ a (Nat.le_refl _), rfl⟩

/-! ### Requests, withdrawals and returns (R103 to R106) -/

theorem Arbiter.request_eq (a : Arbiter) (i : StripId) (p : Priority) : a.request i p =
    if i ∈ a.grantSet then a
    else if ∃ r ∈ a.waiting, r.strip = i then
      { a with waiting := a.waiting.map fun r => if r.strip = i then { r with priority := p } else r }
    else { a with waiting := a.waiting ++ [{ strip := i, priority := p }] } := by
  have known : (a.waiting.any (·.strip == i) = true) = ∃ r ∈ a.waiting, r.strip = i := by simp
  unfold Arbiter.request
  simp only [known]

theorem Arbiter.giveBack_eq (a : Arbiter) (i : StripId) : a.giveBack i =
    let left := a.grantSet.filter fun j => decide (j ≠ i)
    match a.pendingFull with
    | some g => if left.length ≤ g then { a with grantSet := left, full := g, pendingFull := none }
      else { a with grantSet := left }
    | none => { a with grantSet := left } := by
  unfold Arbiter.giveBack
  cases a.pendingFull <;> rfl

/-- Settles O34: each event as its operation at the arbiter, a request and a return with the decision behind it. -/
theorem grantEventsDecide : Obligations.GrantEventsDecide := by
  intro s i p
  simp only [← Arbiter.request_eq]
  refine ⟨?_, rfl, fun holds => ?_, fun free => congrArg Host.Outcome.next (if_neg free)⟩
  · obtain ⟨b, l, decided, decision⟩ := (s.take (.grantRequest i p)).grantDecision_decided (s.arbiter.request i p)
    exact ⟨b, l, decided, congrArg Host.Outcome.next decision⟩
  · obtain ⟨b, l, decided, decision⟩ := (s.take (.grantReturn i)).grantDecision_decided (s.arbiter.giveBack i)
    refine ⟨b, l, ?_, congrArg Host.Outcome.next ((if_pos holds).trans decision)⟩
    rw [Arbiter.giveBack_eq] at decided
    exact decided

/-! ### The motor supply (R108 to R110) -/

theorem PartState.takesSupply_iff (p : PartState) : p.takesSupply = true ↔ p ≠ .halted ∧ p ≠ .faulted := by
  cases p <;> simp [PartState.takesSupply]

/-- Settles O36: fall, rise and recovery, by whether the arbiter takes the pin's events and by its supply. -/
theorem supplyEvents : Obligations.SupplyEvents := by
  intro s
  simp only [← PartState.takesSupply_iff]
  refine ⟨fun works ok => congrArg Host.Outcome.next ?_, fun works low => ⟨congrArg Host.Outcome.next ?_,
    congrArg Host.Outcome.next (if_pos ⟨works, low⟩)⟩, fun works ok => congrArg Host.Outcome.next (if_neg ?_),
    fun idle => ⟨congrArg Host.Outcome.next (if_neg idle), congrArg Host.Outcome.next (if_neg fun k => idle k.1)⟩,
    fun runs => ?_, fun stopped => congrArg Host.Outcome.next (if_neg ?_)⟩
  · unfold State.supplyLow
    simp only [works, ok, if_true]
    rfl
  · unfold State.supplyLow
    simp only [works, low, if_true]
  · rw [ok]
    exact fun k => absurd k.2 nofun
  · obtain ⟨b, l, decided, decision⟩ :=
      (s.setCause .supply).grantDecision_decided { s.arbiter with supply := .ok, recovery := none }
    exact ⟨b, l, decided, congrArg Host.Outcome.next ((if_pos (Option.isSome_iff_ne_none.mpr runs)).trans decision)⟩
  · rw [stopped]
    nofun

/-! ### Outputs (R113 to R116) -/

/-- Settles O37: a period with and without a pending output, an expiry, and the two writes of a drive value. -/
theorem outputsProduceDuty : Obligations.OutputsProduceDuty := by
  intro s i
  have period : ∀ {m : MotorChannel}, (s.motors.chans[i]).period s.motors.prescaleStaged = m →
      exec (.pwmPeriodStart i) s = .next (s.setMotor i m) := fun e => congrArg (fun m => Host.Outcome.next (s.setMotor i m)) e
  have write : ∀ (u : Int) {m : MotorChannel}, (s.motors.chans[i]).write s.scanner.period u = m →
      s.writeDrive i u = s.setMotor i m := fun u _ e => congrArg (s.setMotor i) e
  refine ⟨fun duty up pending => period ?_, fun none_ => period ?_,
    fun runs => congrArg Host.Outcome.next (if_pos (Option.isSome_iff_ne_none.mpr runs)),
    fun stopped => congrArg Host.Outcome.next (if_neg (by rw [stopped]; nofun)), write 0 (if_pos rfl),
    fun d moves => write d (if_neg moves)⟩
  · rw [MotorChannel.period, pending]
  · rw [MotorChannel.period, none_]

/-! ### Touch (R18 to R23) -/

section
variable {c : TouchChannel} {need : Nat}

theorem TouchChannel.readUntouched_of_due (due : need ≤ min 17 (c.run + 1)) :
    c.readUntouched true need = ({ touched := true, run := 0 }, true) := if_pos due

theorem TouchChannel.readUntouched_of_early (early : min 17 (c.run + 1) < need) :
    c.readUntouched true need = ({ c with run := min 17 (c.run + 1) }, false) := if_neg (Nat.not_le.mpr early)

theorem TouchChannel.readTouched_of_due (due : need ≤ min 17 (c.run + 1)) :
    c.readTouched false need = ({ touched := false, run := 0 }, true) := if_pos due

theorem TouchChannel.readTouched_of_early (early : min 17 (c.run + 1) < need) :
    c.readTouched false need = ({ c with run := min 17 (c.run + 1) }, false) := if_neg (Nat.not_le.mpr early)

end

section
variable {s : State} {v : TouchValues} {read : Bool} {i : StripId}

/-- Outside the scan (R22) a strip's channel rests with no event. -/
theorem State.touchRead_of_absent (absent : ¬ (i.val < s.stripCount ∧ (s.strip i).state ≠ .off)) :
    s.touchRead v read i = (TouchChannel.none, none) := by
  have out : s.stripCount ≤ i.val ∨ (s.strip i).state = .off := by
    rw [Classical.not_and_iff_not_or_not, Nat.not_lt, Classical.not_not] at absent
    exact absent
  rw [State.touchRead, if_pos out]

variable (here : i.val < s.stripCount ∧ (s.strip i).state ≠ .off)
include here

/-- Under IGNORE a touched strip's touch ends (R21). -/
theorem State.touchRead_of_ignore (ignore : (s.strip i).settings.policy = .ignore) :
    s.touchRead v read i = (TouchChannel.none, if s.touchScan.chans[i].touched then some (.touchOff i) else none) := by
  have scanned : ¬ (s.stripCount ≤ i.val ∨ (s.strip i).state = .off) := not_or.mpr ⟨Nat.not_le.mpr here.1, here.2⟩
  rw [State.touchRead, if_neg scanned, if_pos ignore]

theorem State.touchRead_of_touched (active : (s.strip i).settings.policy = .active)
    (touched : s.touchScan.chans[i].touched = true) : s.touchRead v read i =
      let r := s.touchScan.chans[i].readTouched read v.toff
      (r.1, if r.2 then some (.touchOff i) else none) := by
  have scanned : ¬ (s.stripCount ≤ i.val ∨ (s.strip i).state = .off) := not_or.mpr ⟨Nat.not_le.mpr here.1, here.2⟩
  rw [State.touchRead, if_neg scanned, active, if_neg nofun, if_pos touched]

theorem State.touchRead_of_untouched (active : (s.strip i).settings.policy = .active)
    (untouched : s.touchScan.chans[i].touched = false) : s.touchRead v read i =
      let r := s.touchScan.chans[i].readUntouched read (if s.drive i = 0 then v.ton else v.ton + 2)
      (r.1, if r.2 then some (.touchOn i) else none) := by
  have scanned : ¬ (s.stripCount ≤ i.val ∨ (s.strip i).state = .off) := not_or.mpr ⟨Nat.not_le.mpr here.1, here.2⟩
  rw [State.touchRead, if_neg scanned, active, if_neg nofun, if_neg (ne_true_of_eq_false untouched)]

end

/-- The strips read at a touch scan expiry, one with the value and the events of each read (R18, R23). -/
theorem State.touchExpiry_reads (s : State) (tch : BitVec 32) (runs : s.touchScan.timer = true) : ∃ t, s.touchExpiry tch = t ∧
    t = { s with
      touchScan := t.touchScan
      inFlight := s.inFlight ++ allStrips.filterMap fun i => (s.touchRead s.touchScan.staged (tch.getLsbD i.val) i).2 } ∧
    t.touchScan.timer = true ∧ t.touchScan.force = s.touchScan.staged ∧
    ∀ i : StripId, t.touchScan.chans[i] = (s.touchRead s.touchScan.staged (tch.getLsbD i.val) i).1 :=
  ⟨_, if_pos runs, rfl, runs, rfl, fun _ => Vector.getElem_ofFn _⟩

/-- Settles O18: each strip's read, by the rows of R18 to R22. -/
theorem touchScanDebounces : Obligations.TouchScanDebounces := by
  intro s tch
  refine ⟨fun stopped => congrArg Host.Outcome.next (if_neg (ne_true_of_eq_false stopped)), fun runs => ?_⟩
  obtain ⟨t, expires, whole, timer, force, chans⟩ := s.touchExpiry_reads tch runs
  refine ⟨t, _, congrArg Host.Outcome.next expires, whole, timer, force, fun i => ?_⟩
  rw [chans i]
  have reads : ∀ {r : TouchChannel × Option Instr} {c : TouchChannel} {e : Option Instr}, r = (c, e) → r.1 = c ∧ r.2 = e :=
    fun h => ⟨congrArg Prod.fst h, congrArg Prod.snd h⟩
  refine ⟨fun absent => reads (State.touchRead_of_absent absent),
    fun here ignore => reads (State.touchRead_of_ignore here ignore), ?_, ?_, ?_, ?_, ?_⟩
  · intro ⟨here, active⟩ untouched touched due
    refine reads ((State.touchRead_of_untouched here active untouched).trans ?_)
    rw [touched, TouchChannel.readUntouched_of_due due]
    rfl
  · intro ⟨here, active⟩ untouched touched early
    refine reads ((State.touchRead_of_untouched here active untouched).trans ?_)
    rw [touched, TouchChannel.readUntouched_of_early early, untouched]
    rfl
  · intro ⟨here, active⟩ touched up due
    refine reads ((State.touchRead_of_touched here active touched).trans ?_)
    rw [Bool.eq_false_iff.mpr up, TouchChannel.readTouched_of_due due]
    rfl
  · intro ⟨here, active⟩ touched up early
    refine reads ((State.touchRead_of_touched here active touched).trans ?_)
    rw [Bool.eq_false_iff.mpr up, TouchChannel.readTouched_of_early early, touched]
    rfl
  · intro ⟨here, active⟩ agrees
    by_cases touched : s.touchScan.chans[i].touched = true
    · refine reads ((State.touchRead_of_touched here active touched).trans ?_)
      rw [agrees.mp touched]
      rfl
    · have up : tch.getLsbD i.val = false := Bool.eq_false_iff.mpr fun k => touched (agrees.mpr k)
      refine reads ((State.touchRead_of_untouched here active (Bool.eq_false_iff.mpr touched)).trans ?_)
      rw [up]
      rfl

end Sys2Proof.Machine
end

section
/-!
SUPPORT. Words, decay and METER_RESET at the meter channels (chapter 8), and the phases of the bar display (chapter 9).
-/
namespace Sys2Proof.Machine

/-! ### The magnitude and the level of a word (R158, R159) -/

theorem PartState.metering_iff (p : PartState) : p.metering = true ↔ p = .starting ∨ p = .running ∨ p = .stopping := by
  cases p <;> simp [PartState.metering]

/-- The distance from 0 of a two's complement number of `n` bits, `x` its unsigned value. -/
theorem BitVec.natAbs_toInt_eq {n : Nat} (x : BitVec (n + 1)) :
    x.toInt.natAbs = if x.toNat < 2 ^ n then x.toNat else 2 ^ (n + 1) - x.toNat := by
  have bound := x.isLt
  have double : 2 ^ (n + 1) = 2 * 2 ^ n := by rw [Nat.pow_succ, Nat.mul_comm]
  rw [BitVec.toInt_eq_toNat_cond]
  split <;> split <;> omega

theorem wordMagnitude_of_w24 {w : LinkWord} (len : w.len = .w24) : wordMagnitude w =
    if w.value.toNat < 8388608 then w.value.toNat else min 8388607 (16777216 - w.value.toNat) := by
  have abs := BitVec.natAbs_toInt_eq (n := 23) w.value
  have sample : wordSample w = w.value.toInt := by rw [wordSample, len]
  rw [wordMagnitude, sample, abs]
  simp only [Nat.reducePow, Nat.reduceAdd]
  split <;> omega

theorem wordMagnitude_of_w16 {w : LinkWord} (len : w.len = .w16) : wordMagnitude w =
    if w.value.toNat % 65536 < 32768 then 256 * (w.value.toNat % 65536)
    else min 8388607 (256 * (65536 - w.value.toNat % 65536)) := by
  have abs := BitVec.natAbs_toInt_eq (n := 15) (w.value.truncate 16)
  have sample : wordSample w = (w.value.truncate 16).toInt * 256 := by rw [wordSample, len]
  have low : (w.value.truncate 16).toNat = w.value.toNat % 65536 := by
    rw [BitVec.truncate_eq_setWidth, BitVec.toNat_setWidth]
  rw [wordMagnitude, sample, Int.natAbs_mul, abs, low]
  simp only [Nat.reducePow, Nat.reduceAdd, Int.reduceAbs]
  split <;> omega

/-- A lower threshold is reached where a higher one is. -/
theorem reachesLevel_of_succ {x h : Nat} (reaches : reachesLevel x (h + 1) = true) : reachesLevel x h = true := by
  simp only [reachesLevel, decide_eq_true_eq] at reaches ⊢
  exact Nat.lt_of_lt_of_le reaches (Nat.mul_le_mul_left _ (Nat.pow_le_pow_right (Nat.succ_pos 9) (by omega)))

theorem reachesLevel_of_le {x h k : Nat} (le : h ≤ k) (reaches : reachesLevel x k = true) : reachesLevel x h = true := by
  induction le with
  | refl => exact reaches
  | step _ ih => exact ih (reachesLevel_of_succ reaches)

/-- A level is at or below the largest one reached exactly where it is reached itself. -/
theorem le_levelUpTo_iff {x n h : Nat} (positive : 1 ≤ h) (le : h ≤ n) : h ≤ levelUpTo x n ↔ reachesLevel x h = true := by
  induction n with
  | zero => omega
  | succ n ih =>
    unfold levelUpTo
    split
    · next reaches => exact ⟨fun _ => reachesLevel_of_le le reaches, fun _ => le⟩
    · next misses =>
      by_cases top : h = n + 1
      · subst top
        exact ⟨fun k => absurd (Nat.le_trans k (levelUpTo_le x n)) (by omega), fun k => absurd k misses⟩
      · exact ih (by omega)

/-! ### A word at a channel (R157) -/

theorem State.metered_iff (s : State) (c : ChanId) :
    s.metered c = true ↔ s.meters.chans[c].enable = true ∧ c.val < s.part.header.channels := by
  simp [State.metered]

/-- The over run, the over lamp and its timer after a level (R165). -/
theorem Channel.countOver_eq (c : Channel) (b : Ballistics) (h : Nat) : c.countOver b h = { c with
    overRun := if b.overLevel ≤ h then min 16 (c.overRun + 1) else 0
    isOver := if b.overLevel ≤ h ∧ b.overCount ≤ min 16 (c.overRun + 1) then true else c.isOver
    overTime := if b.overLevel ≤ h ∧ b.overCount ≤ min 16 (c.overRun + 1) then overFor b.overHold else c.overTime } := by
  unfold Channel.countOver
  by_cases loud : b.overLevel ≤ h
  · by_cases counted : b.overCount ≤ min 16 (c.overRun + 1)
    · simp only [if_pos loud, if_pos (And.intro loud counted)]
      exact if_pos counted
    · simp only [if_pos loud, if_neg fun k : b.overLevel ≤ h ∧ b.overCount ≤ min 16 (c.overRun + 1) => counted k.2]
      exact if_neg counted
  · simp only [if_neg loud, if_neg fun k : b.overLevel ≤ h ∧ b.overCount ≤ min 16 (c.overRun + 1) => loud k.1]

theorem Channel.rise_m (c : Channel) (b : Ballistics) (h : Nat) :
    (c.rise b h).m = if c.m < 64 * h then c.m + ((64 * h - c.m) * b.rise + 255) / 256 else c.m := by
  rw [Channel.rise, Nat.mul_comm h 64]
  split <;> rfl

theorem Channel.peak_fields (c : Channel) (b : Ballistics) (h : Nat) : c.peak b h = { c with
    hv := if c.hv < h then h else c.hv, hold := if c.hv < h then holdFor b.hold else c.hold } := by
  unfold Channel.peak
  split <;> rfl

/-- A channel that has taken a word of level `h` (R157): its rise, its peak hold and its over run do not meet. -/
theorem Channel.word_eq (c : Channel) (b : Ballistics) (h : Nat) : c.word b h = { c with
    m := if c.m < 64 * h then c.m + ((64 * h - c.m) * b.rise + 255) / 256 else c.m
    hv := if c.hv < h then h else c.hv, hold := if c.hv < h then holdFor b.hold else c.hold
    overRun := if b.overLevel ≤ h then min 16 (c.overRun + 1) else 0
    isOver := if b.overLevel ≤ h ∧ b.overCount ≤ min 16 (c.overRun + 1) then true else c.isOver
    overTime := if b.overLevel ≤ h ∧ b.overCount ≤ min 16 (c.overRun + 1) then overFor b.overHold else c.overTime } := by
  rw [Channel.word, Channel.countOver_eq, Channel.peak_fields, Channel.rise_eq, Channel.rise_m]

/-- What a word of level `h` leaves at a channel, field by field (R160 to R165). -/
theorem Channel.word_gives (x : Channel) (b : Ballistics) (h : Nat) :
    let y := x.word b h
    let run := min 16 (x.overRun + 1)
    let loud := b.overLevel ≤ h
    y.m = (if x.m < 64 * h then x.m + ((64 * h - x.m) * b.rise + 255) / 256 else x.m) ∧
    (x.hv < h → y.hv = h ∧ y.hold = if b.hold = 65535 then .infinite else .ms b.hold) ∧
    (h ≤ x.hv → y.hv = x.hv ∧ y.hold = x.hold) ∧
    y.overRun = (if loud then run else 0) ∧
    (loud ∧ b.overCount ≤ run → y.isOver = true ∧ y.overTime = if b.overHold = 0 then .indefinite else .ms b.overHold) ∧
    (¬ (loud ∧ b.overCount ≤ run) → y.isOver = x.isOver ∧ y.overTime = x.overTime) ∧
    y.nofeed = x.nofeed ∧ y.profile = x.profile ∧ y.enable = x.enable := by
  rw [Channel.word_eq]
  exact ⟨rfl, fun below => ⟨if_pos below, if_pos below⟩,
    fun above => ⟨if_neg (Nat.not_lt.mpr above), if_neg (Nat.not_lt.mpr above)⟩, rfl,
    fun clips => ⟨if_pos clips, if_pos clips⟩, fun quiet => ⟨if_neg quiet, if_neg quiet⟩, rfl, rfl, rfl⟩

/-- Settles O45: a word discarded and a word taken, then its magnitude and its level. -/
theorem meterWordRises : Obligations.MeterWordRises := by
  refine ⟨fun s c w => ⟨fun off => ?_, fun on => ?_⟩, fun w => ⟨?_, levelUpTo_le _ 480, fun h positive le =>
    (le_levelUpTo_iff positive le).trans decide_eq_true_iff⟩⟩
  · refine congrArg Host.Outcome.next (if_neg fun on => off ?_)
    exact ⟨(PartState.metering_iff _).mp on.1, (s.metered_iff c).mp on.2⟩
  · have takes : (s.take (.meterWord c w)).meterWord c w = (s.take (.meterWord c w)).setChan c
        (s.meters.chans[c].word (s.meters.profileOf c) (wordLevel w)) :=
      if_pos ⟨(PartState.metering_iff _).mpr on.1, (s.metered_iff c).mpr on.2⟩
    exact ⟨_, congrArg Host.Outcome.next takes, Channel.word_gives _ _ _⟩
  · cases len : w.len with
    | w24 => exact wordMagnitude_of_w24 len
    | w16 => exact wordMagnitude_of_w16 len

/-! ### Decay and METER_RESET (R161 to R168) -/

/-- The hold timer's run changes the peak hold and the hold timer alone (R164). -/
theorem Channel.runHold_eq (c : Channel) : c.runHold = { c with hv := c.runHold.hv, hold := c.runHold.hold } := by
  unfold Channel.runHold
  split
  · rfl
  · rfl
  · split <;> rfl

/-- The over timer's run changes the over lamp and the over timer alone (R166). -/
theorem Channel.runOver_eq (c : Channel) :
    c.runOver = { c with isOver := c.runOver.isOver, overTime := c.runOver.overTime } := by
  unfold Channel.runOver
  split
  · rfl
  · rfl
  · split <;> rfl

section
variable {c : Channel}

theorem Channel.runHold_of_infinite (hold : c.hold = .infinite) : c.runHold = c := by
  rw [Channel.runHold, hold]

theorem Channel.runHold_of_ended (hold : c.hold = .ms 0 ∨ c.hold = .ms 1) :
    c.runHold = { c with hold := .ms 0, hv := c.level } := by
  obtain hold | hold := hold
  · rw [Channel.runHold, hold]
  · rw [Channel.runHold, hold]
    rfl

theorem Channel.runHold_of_running {n : Nat} (hold : c.hold = .ms (n + 2)) : c.runHold = { c with hold := .ms (n + 1) } := by
  rw [Channel.runHold, hold]
  rfl

theorem Channel.runOver_of_resting (clips : c.overTime = .stopped ∨ c.overTime = .indefinite) : c.runOver = c := by
  obtain clips | clips := clips <;> rw [Channel.runOver, clips]

theorem Channel.runOver_of_ended (clips : c.overTime = .ms 1) :
    c.runOver = { c with isOver := false, overTime := .stopped } := by
  rw [Channel.runOver, clips]
  rfl

theorem Channel.runOver_of_running {n : Nat} (clips : c.overTime = .ms (n + 2)) :
    c.runOver = { c with overTime := .ms (n + 1) } := by
  rw [Channel.runOver, clips]
  rfl

end

theorem Channel.runOver_with (c : Channel) (m hv : Nat) (hold : HoldTimer) :
    ({ c with m := m, hv := hv, hold := hold } : Channel).runOver = { c.runOver with m := m, hv := hv, hold := hold } := by
  obtain ⟨_, _, _, _, _, overTime, _, _, _⟩ := c
  cases overTime with
  | stopped => rfl
  | indefinite => rfl
  | ms n => by_cases last : n ≤ 1 <;> simp [Channel.runOver, last]

/-- A channel at a decay expiry: the over timer and the hold timer do not meet. -/
theorem Channel.decay_eq (c : Channel) (b : Ballistics) : c.decay b =
    let d : Channel := { c with m := c.m - b.decay }
    { d with hv := d.runHold.hv, hold := d.runHold.hold, isOver := c.runOver.isOver, overTime := c.runOver.overTime } := by
  unfold Channel.decay
  rw [Channel.runHold_eq]
  refine (c.runOver_with _ _ _).trans ?_
  rw [c.runOver_eq]

/-- What a decay expiry leaves at a channel, field by field (R161 to R166). -/
theorem Channel.decay_gives (x : Channel) (b : Ballistics) :
    let y := x.decay b
    y.m = x.m - b.decay ∧ y.overRun = x.overRun ∧ y.nofeed = x.nofeed ∧
    (x.hold = .infinite → y.hold = x.hold ∧ y.hv = x.hv) ∧
    (x.hold = .ms 0 ∨ x.hold = .ms 1 → y.hold = .ms 0 ∧ y.hv = y.m / 64) ∧
    (∀ n, x.hold = .ms (n + 2) → y.hold = .ms (n + 1) ∧ y.hv = x.hv) ∧
    (x.overTime = .stopped ∨ x.overTime = .indefinite → y.overTime = x.overTime ∧ y.isOver = x.isOver) ∧
    (x.overTime = .ms 1 → y.overTime = .stopped ∧ y.isOver = false) ∧
    (∀ n, x.overTime = .ms (n + 2) → y.overTime = .ms (n + 1) ∧ y.isOver = x.isOver) := by
  have holds : ∀ {d : Channel}, ({ x with m := x.m - b.decay } : Channel).runHold = d →
      (x.decay b).hold = d.hold ∧ (x.decay b).hv = d.hv := by
    rintro _ rfl
    rw [Channel.decay_eq]
    exact ⟨rfl, rfl⟩
  have clips : ∀ {d : Channel}, x.runOver = d → (x.decay b).overTime = d.overTime ∧ (x.decay b).isOver = d.isOver := by
    rintro _ rfl
    rw [Channel.decay_eq]
    exact ⟨rfl, rfl⟩
  have level : (x.decay b).m = x.m - b.decay := by rw [Channel.decay_eq]
  refine ⟨level, by rw [Channel.decay_eq], by rw [Channel.decay_eq], fun hold => ?_,
    fun hold => ?_, fun n hold => holds (Channel.runHold_of_running hold), fun rests => clips (Channel.runOver_of_resting rests),
    fun ended => clips (Channel.runOver_of_ended ended), fun n running => clips (Channel.runOver_of_running running)⟩
  · exact holds (d := { x with m := x.m - b.decay }) (Channel.runHold_of_infinite hold)
  · rw [level]
    exact holds (Channel.runHold_of_ended hold)

theorem Channel.reset_reset (c : Channel) : c.reset_.reset_ = c.reset_ := rfl

/-- A channel reset, where it takes part in metering. -/
theorem State.resetChan_eq (s : State) (k : ChanId) : ∃ v, s.resetChan k = { s with meters := { s.meters with chans := v } } ∧
    ∀ c : ChanId, v[c] = if s.metered c = true ∧ c = k then s.meters.chans[c].reset_ else s.meters.chans[c] := by
  unfold State.resetChan
  by_cases on : s.metered k = true
  · refine ⟨s.meters.chans.set k s.meters.chans[k].reset_, if_pos on, fun c => ?_⟩
    by_cases same : c = k
    · subst same
      rw [if_pos ⟨on, rfl⟩]
      exact Vector.getElem_set_self _
    · rw [if_neg fun h => same h.2]
      exact Vector.getElem_set_ne _ _ fun e => same (Fin.ext e.symm)
  · refine ⟨s.meters.chans, if_neg on, fun c => (if_neg fun h => on ?_).symm⟩
    exact h.2 ▸ h.1

/-- Channels reset one after another: those named that take part in metering, and no other (R168). -/
theorem State.resetChans_eq (l : List ChanId) (s : State) : ∃ v, l.foldl State.resetChan s =
      { s with meters := { s.meters with chans := v } } ∧
    ∀ c : ChanId, v[c] = if s.metered c = true ∧ c ∈ l then s.meters.chans[c].reset_ else s.meters.chans[c] := by
  induction l generalizing s with
  | nil => exact ⟨s.meters.chans, rfl, fun c => by simp⟩
  | cons k l ih =>
    obtain ⟨u, first, chan⟩ := s.resetChan_eq k
    obtain ⟨v, fold, chans⟩ := ih (s.resetChan k)
    rw [first] at fold chans
    refine ⟨v, by rw [List.foldl_cons, first, fold], fun c => ?_⟩
    have enable : u[c].enable = s.meters.chans[c].enable := by
      rw [chan c]
      split <;> rfl
    have metered : ({ s with meters := { s.meters with chans := u } } : State).metered c = s.metered c :=
      congrArg (· && decide (c.val < s.part.header.channels)) enable
    rw [chans c, metered]
    show (if _ then (u[c]).reset_ else u[c]) = _
    rw [chan c]
    by_cases on : s.metered c = true
    · by_cases here : c = k
      · subst here
        simp [on, Channel.reset_reset]
      · simp [on, here]
    · simp [on]

/-- METER_RESET as the reset of the channels it applies to, with its answer (R168). -/
theorem State.meterReset_eq (s : State) (count : Word) (entries : List Word) :
    s.meterReset count entries =
      let named := (entries.take (min 32 count.toNat)).map entryChan
      ((if count = 0 then List.finRange 64 else named).foldl State.resetChan s).answer
        (if count ≠ 0 ∧ (32 < count.toNat ∨ ∃ c ∈ named, s.part.header.channels ≤ c.val) then .clamped else .done) 0 := by
  have clamps : ∀ named : List ChanId,
      ((countTaken count || named.any fun c => decide (s.part.header.channels ≤ c.val)) = true) =
        (32 < count.toNat ∨ ∃ c ∈ named, s.part.header.channels ≤ c.val) := by simp [countTaken]
  by_cases zero : count = 0
  · subst zero
    rfl
  · simp only [State.meterReset, clamps, ne_eq, zero, not_false_eq_true, true_and]
    rfl

/-- Settles O46: decay at each channel, then METER_RESET. -/
theorem metersDecayAndReset : Obligations.MetersDecayAndReset := by
  intro s count entries
  refine ⟨fun stopped => congrArg Host.Outcome.next (if_neg (ne_true_of_eq_false stopped)), fun runs => ?_, ?_⟩
  · obtain ⟨t, ht, profiles, chans⟩ : ∃ t, s.decayExpiry = t ∧ t = { s with meters := t.meters } ∧
        t.meters.profiles = s.meters.profiles ∧ ∀ c : ChanId, t.meters.chans[c] =
          if s.metered c then s.meters.chans[c].decay (s.meters.profileOf c) else s.meters.chans[c] :=
      ⟨_, if_pos runs, rfl, rfl, fun _ => Vector.getElem_ofFn _⟩
    obtain ⟨profiles, chans⟩ := chans
    refine ⟨t, congrArg Host.Outcome.next ht, ‹_›, ‹_›, fun c => ⟨fun off => ?_, fun on => ?_⟩⟩
    · rw [chans c]
      exact if_neg fun k => off ((s.metered_iff c).mp k)
    · rw [chans c, if_pos ((s.metered_iff c).mpr on)]
      exact Channel.decay_gives _ _
  · obtain ⟨v, fold, chans⟩ := State.resetChans_eq
      (if count = 0 then List.finRange 64 else (entries.take (min 32 count.toNat)).map entryChan) s
    have resets := s.meterReset_eq count entries
    simp only [] at resets
    rw [fold] at resets
    refine ⟨_, congrArg Host.Outcome.next resets, rfl, rfl, rfl, fun c => (chans c).trans ?_⟩
    simp only [State.metered_iff]
    by_cases zero : count = 0
    · simp only [zero, if_true, true_or, List.mem_finRange]
      rfl
    · simp only [zero, if_false, false_or]
      rfl

/-! ### The phases of a refresh (R173 to R175) -/

section
variable {t : Scale} {c : Channel}

theorem barContent_of_dark (chan : Option Channel) (dark : ∀ c, chan = some c → c.nofeed = true) :
    barContent false chan t = BarContent.dark := by
  cases chan with
  | none => rfl
  | some c => exact if_pos (dark c rfl)

/-- A bar whose channel is fed: lit to its level, its dot at a peak hold beyond it (R174). -/
theorem barContent_of_fed (fed : c.nofeed = false) : ∃ dot, barContent false (some c) t =
      { lit := Scale.count t c.level, dot := dot, isOver := c.isOver } ∧
    (Scale.count t c.hv ≤ Scale.count t c.level → dot = none) ∧
    (Scale.count t c.level < Scale.count t c.hv → dot = some (Scale.count t c.hv - 1)) :=
  ⟨_, if_neg (ne_true_of_eq_false fed), fun covered => if_neg (Nat.not_lt.mpr covered), fun beyond => if_pos beyond⟩

end

section
variable {b : Bars} (chans : Vector Channel 64)

theorem Bars.phaseExpiry_of_none (stopped : b.phase = none) : b.phaseExpiry chans = b := by
  rw [Bars.phaseExpiry, stopped]

theorem Bars.phaseExpiry_of_next {j k : Fin 8} (phase : b.phase = some j) (next : k.val = j.val + 1) :
    b.phaseExpiry chans = b.beginPhase k := by
  have more : j.val + 1 < 8 := next ▸ k.isLt
  rw [Bars.phaseExpiry, phase]
  exact (dif_pos more).trans (congrArg b.beginPhase (Fin.ext next.symm))

theorem Bars.phaseExpiry_of_last (phase : b.phase = some 7) : b.phaseExpiry chans = b.refresh chans := by
  rw [Bars.phaseExpiry, phase]
  rfl

end

/-- Settles O47: the phases in turn, the refresh with its bars one by one, and the end of the lit time. -/
theorem barPhasesScan : Obligations.BarPhasesScan := by
  intro s
  have expiry : ∀ {b}, s.bars.phaseExpiry s.meters.chans = b → exec .phaseTimerExpiry s = .next { s with bars := b } :=
    fun e => congrArg (fun b : Bars => Host.Outcome.next ({ s with bars := b } : State)) e
  have litEnd : ∀ {b}, s.bars.litEnd = b → exec .rowLitEnd s = .next { s with bars := b } :=
    fun e => congrArg (fun b : Bars => Host.Outcome.next ({ s with bars := b } : State)) e
  refine ⟨fun stopped => ⟨expiry (Bars.phaseExpiry_of_none _ stopped), litEnd (if_neg fun lit => ?_)⟩,
    fun j k phase next => expiry (Bars.phaseExpiry_of_next _ phase next), fun phase => ?_, fun lit => ?_⟩
  · rw [stopped] at lit
    exact nomatch lit.1
  · obtain ⟨b, refresh, force, scales, staged, snapshot⟩ : ∃ b, s.bars.refresh s.meters.chans = b ∧
        b.force = s.bars.barsStaged.getD s.bars.force ∧ b.scales = s.bars.scalesStaged.getD s.bars.scales ∧
        (b.phase = some 0 ∧ b.rows = 1 ∧ b.columns = b.rowLamps 0 ∧ b.barsStaged = none ∧ b.scalesStaged = none) ∧
        ∀ i : Fin 64, b.snapshot[i] = barContent b.force.lampTest (b.force.map[i].chan.map fun c => s.meters.chans[c])
          b.scales[b.force.map[i].table] :=
      ⟨_, rfl, rfl, rfl, ⟨rfl, rfl, rfl, rfl, rfl⟩, fun i => Vector.getElem_map _ i.isLt⟩
    obtain ⟨first, rows, columns, noBars, noScales⟩ := staged
    refine ⟨_, expiry ((Bars.phaseExpiry_of_last _ phase).trans refresh), rfl, first, rows, columns, force, scales, noBars,
      noScales, fun i => ⟨fun lampTest => ?_, fun lampTest chan => ?_, fun c lampTest chan => ?_⟩⟩
    all_goals replace snapshot := snapshot i
    · rw [lampTest] at snapshot
      exact snapshot
    · rw [lampTest, chan] at snapshot
      exact snapshot.trans (barContent_of_dark _ nofun)
    · rw [lampTest, chan] at snapshot
      refine ⟨fun nofeed => snapshot.trans (barContent_of_dark _ fun _ e => Option.some.inj e ▸ nofeed), fun fed => ?_⟩
      obtain ⟨dot, content, covered, beyond⟩ := barContent_of_fed (t := b.scales[b.force.map[i].table]) fed
      have shown := snapshot.trans content
      exact ⟨congrArg BarContent.lit shown, congrArg BarContent.isOver shown,
        fun le => (congrArg BarContent.dot shown).trans (covered le),
        fun lt => (congrArg BarContent.dot shown).trans (beyond lt)⟩
  · refine litEnd ?_
    have running : s.bars.phase.isSome = true := Option.isSome_iff_ne_none.mpr lit
    by_cases dim : s.bars.force.brightness < 16
    · exact (if_pos ⟨running, dim⟩).trans (by rw [if_pos dim])
    · exact (if_neg fun k => dim k.2).trans (by rw [if_neg dim])

end Sys2Proof.Machine
end

section
/-!
SUPPORT. The meter feed links (chapter 7): one edge at a receiver, the feed conditions, and the Meter Engine's input.
-/
namespace Sys2Proof.Machine

/-! ### The Meter Engine's input (R148) -/

theorem State.beginService_of_quiet {s : State}
    (quiet : s.input.service ≠ none ∨ (s.links[0].queue = [] ∧ s.links[1].queue = [])) : s.beginService = s := by
  unfold State.beginService
  obtain busy | ⟨first, second⟩ := quiet
  · cases service : s.input.service with
    | none => exact absurd service busy
    | some w => rfl
  · have nothing : s.chosenLink = none := by rw [State.chosenLink, first, second]
    rw [nothing]
    cases s.input.service <;> rfl

theorem LinkId.pair_of_ne {j other : LinkId} (differ : other ≠ j) : (j = 0 ∧ other = 1) ∨ (j = 1 ∧ other = 0) := by
  revert j other
  decide

theorem LinkId.eq_one_of_ne_zero {j : LinkId} (h : j ≠ 0) : j = 1 := by
  revert j
  decide

section
variable {s : State} {j other : LinkId}

/-- The input chooses a link whose queue holds words, where the other's holds none or was served last (R148). -/
theorem State.chosenLink_of_words (differ : other ≠ j) (words : s.links[j].queue ≠ [])
    (turn : s.links[other].queue = [] ∨ s.input.last = other) : s.chosenLink = some j := by
  have pair := LinkId.pair_of_ne differ
  unfold State.chosenLink
  obtain ⟨rfl, rfl⟩ | ⟨rfl, rfl⟩ := pair
  · obtain ⟨w, ws, first⟩ := List.exists_cons_of_ne_nil words
    cases second : s.links[1].queue with
    | nil => rw [show s.links[0].queue = w :: ws from first]
    | cons v vs =>
      have last : s.input.last = 1 := turn.resolve_left fun e => by simp [second] at e
      rw [show s.links[0].queue = w :: ws from first, last]
      rfl
  · obtain ⟨w, ws, second⟩ := List.exists_cons_of_ne_nil words
    cases first : s.links[0].queue with
    | nil => rw [show s.links[1].queue = w :: ws from second]
    | cons v vs =>
      have last : s.input.last = 0 := turn.resolve_left fun e => by simp [first] at e
      rw [show s.links[1].queue = w :: ws from second, last]
      rfl

/-- A service begun: the oldest word of the queue chosen leaves it (R148). -/
theorem State.beginService_of_chosen (free : s.input.service = none) (chosen : s.chosenLink = some j) :
    s.beginService = { s with
      input := { service := s.links[j].queue.head?, last := j }
      links := s.links.set j { s.links[j] with queue := s.links[j].queue.tail } } := by
  rw [State.beginService, free, chosen]

end

theorem State.beginService_eq (s : State) : s.beginService = serviceBegun s := by
  unfold serviceBegun
  by_cases quiet : s.input.service ≠ none ∨ (s.links[0].queue = [] ∧ s.links[1].queue = [])
  · exact (State.beginService_of_quiet quiet).trans (if_pos quiet).symm
  · refine Eq.trans ?_ (if_neg quiet).symm
    have free : s.input.service = none := Classical.byContradiction fun busy => quiet (.inl busy)
    have serves : ∀ {j other : LinkId}, other ≠ j → s.links[j].queue ≠ [] →
        s.links[other].queue = [] ∨ s.input.last = other → _ :=
      fun differ words turn => State.beginService_of_chosen free (State.chosenLink_of_words differ words turn)
    by_cases second : s.links[1].queue = []
    · exact (serves (j := 0) (other := 1) (by decide) (fun first => quiet (.inr ⟨first, second⟩)) (.inl second)).trans
        (if_pos second).symm
    · refine Eq.trans ?_ (if_neg second).symm
      by_cases first : s.links[0].queue = []
      · exact (serves (j := 1) (other := 0) (by decide) second (.inl first)).trans (if_pos first).symm
      · refine Eq.trans ?_ (if_neg first).symm
        by_cases last : s.input.last = 0
        · exact (serves (j := 1) (other := 0) (by decide) second (.inr last)).trans (if_pos last).symm
        · exact (serves (j := 0) (other := 1) (by decide) first (.inr (LinkId.eq_one_of_ne_zero last))).trans (if_neg last).symm

/-! ### The feed conditions (R150) -/

theorem LinkRx.feeds_iff (l : LinkRx) (c : ChanId) : l.feeds c = true ↔
    l.state = .locked ∧ ∃ i : Fin 32, i.val < l.settings.slots ∧ l.map[i] = .meter c := by
  have route : ∀ (i : Nat) (h : i < 32), l.route i = l.map[i] := fun i h => by simp [LinkRx.route, h]
  have beyond : ∀ i : Nat, ¬ i < 32 → l.route i = .null := fun i h => by simp [LinkRx.route, h]
  simp only [LinkRx.feeds, Bool.and_eq_true, beq_iff_eq, List.any_eq_true, List.mem_range]
  refine and_congr_right fun _ => ⟨fun ⟨i, below, named⟩ => ?_, fun ⟨i, below, named⟩ => ⟨i, below, (route i i.isLt).trans named⟩⟩
  by_cases h : i < 32
  · exact ⟨⟨i, h⟩, below, (route i h).symm.trans named⟩
  · exact nomatch (beyond i h).symm.trans named

theorem State.fed_iff (s : State) (c : ChanId) : s.fed c = true ↔ fedNow s c := by
  simp only [State.fed, Bool.and_eq_true, decide_eq_true_eq, Bool.or_eq_true, LinkRx.feeds_iff, fedNow, Fin.exists_fin_two]
  exact and_congr_right fun _ => or_congr (by simp only [exists_and_left]; rfl) (by simp only [exists_and_left]; rfl)

/-- The feed conditions derived again: each channel's own, and nothing else changed (R150). -/
theorem State.deriveFeed_eq (s : State) : ∃ v, s.deriveFeed = { s with meters := { s.meters with chans := v } } ∧
    ∀ c : ChanId, v[c] = { s.meters.chans[c] with nofeed := !s.fed c } :=
  ⟨_, rfl, fun c => Vector.getElem_ofFn c.isLt⟩

/-- What the feed conditions derived in a state whose Meter Engine is the one of `s` leave there. -/
theorem State.feedDerived_deriveFeed {s u : State} (same : u.meters = s.meters) : FeedDerived s u.deriveFeed ∧
    ∀ c : ChanId, u.deriveFeed.meters.chans[c] = { s.meters.chans[c] with nofeed := !u.deriveFeed.fed c } := by
  obtain ⟨v, derived, chans⟩ := u.deriveFeed_eq
  have fed : ∀ c, u.deriveFeed.fed c = u.fed c := fun c => by
    rw [derived]
    rfl
  have chan : ∀ c : ChanId, u.deriveFeed.meters.chans[c] = { s.meters.chans[c] with nofeed := !u.deriveFeed.fed c } :=
    fun c => by
      rw [fed c, ← same, ← chans c, derived]
  refine ⟨⟨by rw [derived, ← same], by rw [derived, ← same], fun c => ⟨by rw [chan c], ?_⟩⟩, chan⟩
  rw [chan c, ← State.fed_iff]
  exact (Bool.not_eq_false' _).to_iff

/-! ### A receiver changed (R142, R143, R150) -/

section
variable {s : State} {k : LinkId} {l : LinkRx}

theorem State.setLink_derives (news : feedNews s.links[k] l = true) : ∃ u, s.setLink k l = u.deriveFeed ∧
    u = { s with links := s.links.set k l, attention := if linkNews s.links[k] l then s.attention.set .link else s.attention } := by
  refine ⟨_, if_pos news, ?_⟩
  split <;> rfl

theorem State.setLink_keeps (keeps : feedNews s.links[k] l = false) : s.setLink k l =
    { s with links := s.links.set k l, attention := if linkNews s.links[k] l then s.attention.set .link else s.attention } := by
  refine (if_neg (ne_true_of_eq_false keeps)).trans ?_
  split <;> rfl

/-- What a receiver changed leaves: the links and the LINK cause, and the feed conditions where they are derived again. -/
theorem State.setLink_gives : ∃ t, s.setLink k l = t ∧ t = { s with
      links := s.links.set k l, meters := t.meters
      attention := if linkNews s.links[k] l then s.attention.set .link else s.attention } ∧
    (feedNews s.links[k] l = true → FeedDerived s t ∧
      ∀ c : ChanId, t.meters.chans[c] = { s.meters.chans[c] with nofeed := !t.fed c }) ∧
    (feedNews s.links[k] l = false → t.meters = s.meters) := by
  by_cases news : feedNews s.links[k] l = true
  · obtain ⟨u, derives, same⟩ := State.setLink_derives news
    obtain ⟨v, derived, -⟩ := u.deriveFeed_eq
    refine ⟨_, derives, ?_, fun _ => State.feedDerived_deriveFeed (by rw [same]), fun keeps => absurd news (ne_true_of_eq_false keeps)⟩
    rw [derived, same]
  · have keeps := Bool.eq_false_iff.mpr news
    exact ⟨_, State.setLink_keeps keeps, rfl, fun k => absurd k news, fun _ => rfl⟩

/-- A receiver whose state, slot map and slot count stay has nothing to say. -/
theorem State.setLink_of_same (state : l.state = s.links[k].state) (map : l.map = s.links[k].map)
    (slots : l.settings.slots = s.links[k].settings.slots) : s.setLink k l = { s with links := s.links.set k l } := by
  have quiet : linkNews s.links[k] l = false := by
    rw [linkNews, state]
    cases s.links[k].state <;> rfl
  have keeps : feedNews s.links[k] l = false := by simp [feedNews, state, map, slots]
  rw [State.setLink_keeps keeps, quiet]
  rfl

end

section
variable {l : LinkRx}

theorem LinkState.lost_beq : (LinkState.lost == .locked) = false := rfl
theorem LinkState.acquiring_beq : (LinkState.acquiring == .locked) = false := rfl
theorem LinkState.off_beq : (LinkState.off == .locked) = false := rfl

theorem LinkState.beq_locked_of_ne {x : LinkState} (other : x ≠ .locked) : (x == .locked) = false := beq_eq_false_iff_ne.mpr other

theorem LinkRx.lose_news (locked : l.state = .locked) : linkNews l l.lose = true ∧ feedNews l l.lose = true := by
  simp [linkNews, feedNews, LinkRx.lose, locked]

theorem LinkRx.lose_quiet (other : l.state ≠ .locked) : linkNews l l.lose = false ∧ feedNews l l.lose = false := by
  simp [linkNews, feedNews, LinkRx.lose, LinkState.beq_locked_of_ne other, LinkState.lost_beq]

end

/-- Settles O44: the timeout from LOCKED and from any other state, then the end of a service. -/
theorem timeoutAndServiceEnd : Obligations.TimeoutAndServiceEnd := by
  intro s k
  refine ⟨fun stopped => congrArg Host.Outcome.next (if_neg ?_), fun runs => ?_, fun idle => ?_, fun w busy => ?_⟩
  · rw [stopped]
    nofun
  · have lost : s.linkTimeout k = s.setLink k s.links[k].lose := if_pos (Option.isSome_iff_ne_none.mpr runs)
    obtain ⟨t, sets, gives, derives, keeps⟩ := State.setLink_gives (s := s) (k := k) (l := s.links[k].lose)
    have attention : t.attention = if linkNews s.links[k] s.links[k].lose then s.attention.set .link else s.attention := by
      rw [gives]
    refine ⟨t, congrArg Host.Outcome.next (lost.trans sets), by rw [gives], by rw [gives]; rfl, fun locked => ?_, fun other => ?_⟩
    · obtain ⟨news, feed⟩ := LinkRx.lose_news locked
      exact ⟨attention.trans (if_pos news), derives feed⟩
    · obtain ⟨quiet, feed⟩ := LinkRx.lose_quiet other
      exact ⟨attention.trans (if_neg (ne_true_of_eq_false quiet)), keeps feed⟩
  · refine congrArg Host.Outcome.next ?_
    rw [State.serviceEnd, idle]
  · obtain ⟨u, ends, delivered, flight⟩ : ∃ u : State, s.serviceEnd = u.beginService ∧
        u = { s with input := { s.input with service := none }, inFlight := u.inFlight } ∧
        u.inFlight = s.inFlight ++ (match w.route with
          | .meter c => if s.part.state = .starting ∨ s.part.state = .running ∨ s.part.state = .stopping
              then [.meterWord c w.word] else []
          | .strip i => if s.part.state = .running then [.streamWord i w.word] else []
          | .null => []) := by
      rw [State.serviceEnd, busy]
      refine ⟨_, rfl, ?_⟩
      unfold State.deliverRouted
      cases w.route with
      | meter c =>
        simp only [PartState.metering_iff]
        split <;> simp [State.deliver]
      | strip i =>
        simp only []
        split <;> simp [State.deliver]
      | null => simp
    have free : u.input.service = none := by rw [delivered]
    have links : u.links = s.links := by rw [delivered]
    have last : u.input.last = s.input.last := by rw [delivered]
    obtain ⟨t, begins, frame⟩ : ∃ t, u.beginService = t ∧ t = { u with links := t.links, input := t.input } := by
      refine ⟨_, rfl, ?_⟩
      unfold State.beginService
      split <;> rfl
    refine ⟨t, congrArg Host.Outcome.next (ends.trans begins), frame.trans ?_, ?_, fun first second => ?_,
      fun j other differ words turn => ?_⟩
    · rw [frame, delivered]
    · exact (show t.inFlight = u.inFlight by rw [frame]).trans flight
    · rw [State.beginService_of_quiet (.inr ⟨links ▸ first, links ▸ second⟩)] at begins
      rw [← begins]
      exact ⟨by rw [delivered], links⟩
    · rw [← links] at words turn ⊢
      rw [← last] at turn
      rw [State.beginService_of_chosen free (State.chosenLink_of_words differ words turn)] at begins
      rw [← begins]
      exact ⟨rfl, rfl⟩

/-! ### One edge at a receiver (R138, R139) -/

section
variable {l : LinkRx} {x : LinkSample}

theorem LinkRx.edge_of_off (off : l.state = .off) : l.edge x = l := if_pos off

theorem noRise (none : x.fs = true → l.lastFs = true) : ¬ (x.fs && !l.lastFs) = true := by
  simpa using none

/-- An edge without a rise while no frame takes bits. -/
theorem LinkRx.edge_of_idle (none : x.fs = true → l.lastFs = true) (on : l.state ≠ .off)
    (idle : l.state = .lost ∨ l.open_ = false) : l.edge x = { l with lastFs := x.fs } := by
  have closed : ¬ (l.open_ && l.state != .lost) = true := by
    obtain lost | shut := idle
    · simp [lost]
    · simp [shut]
  exact (if_neg on).trans ((if_neg (noRise none)).trans (if_neg closed))

/-- An edge without a rise in an open frame: its bit belongs to the frame (R139). -/
theorem LinkRx.edge_of_bit (none : x.fs = true → l.lastFs = true) (goes : l.state ≠ .off ∧ l.state ≠ .lost ∧ l.open_ = true) :
    l.edge x = ({ l with lastFs := x.fs } : LinkRx).shiftBit x.dat := by
  obtain ⟨on, held, opened⟩ := goes
  have takes : (l.open_ && l.state != .lost) = true := by simp [opened, held]
  exact (if_neg on).trans ((if_neg (noRise none)).trans (if_pos takes))

/-- A rise of LKFS: a sync, after which a WORD sync takes the bit of its own edge (R138). -/
theorem LinkRx.edge_of_rise (rises : x.fs = true ∧ l.lastFs = false) (on : l.state ≠ .off) : l.edge x =
    let k := { l with lastFs := true }
    let opened := if l.state = .lost then k.reacquire else k.takeSync
    if l.settings.sync = .word then opened.shiftBit x.dat else opened := by
  obtain ⟨high, low⟩ := rises
  have sync : (x.fs && !l.lastFs) = true := by simp [high, low]
  refine (if_neg on).trans ((if_pos sync).trans ?_)
  rw [high]

theorem LinkRx.shiftBit_of_more {b : Bool} (more : (l.assembly ++ [b]).length < l.settings.len.bits) :
    l.shiftBit b = { l with assembly := l.assembly ++ [b] } := if_pos more

theorem LinkRx.shiftBit_of_full {b : Bool} (full : l.settings.len.bits ≤ (l.assembly ++ [b]).length) :
    l.shiftBit b = ({ l with assembly := [] } : LinkRx).completeWord
      { len := l.settings.len, value := BitVec.ofNat 24 (bitsValue (l.assembly ++ [b])) } := if_neg (Nat.not_lt.mpr full)

variable {w : LinkWord}

theorem LinkRx.completeWord_of_excess (past : l.settings.slots ≤ l.slot) :
    l.completeWord w = { l with excess := l.excess + 1 } := if_neg (Nat.not_lt.mpr past)

theorem LinkRx.completeWord_of_slot (below : l.slot < l.settings.slots) :
    l.completeWord w = { l.deliverWord w with slot := l.slot + 1 } := if_pos below

/-- A word that goes nowhere: the link is not LOCKED, or its slot's entry is NULL (R146). -/
theorem LinkRx.deliverWord_of_nowhere (nowhere : l.state ≠ .locked ∨ l.route l.slot = .null) : l.deliverWord w = l := by
  unfold LinkRx.deliverWord
  obtain other | null := nowhere
  · cases state : l.state with
    | locked => exact absurd state other
    | off => rfl
    | acquiring => rfl
    | lost => rfl
  · rw [null]
    cases l.state <;> rfl

theorem LinkRx.deliverWord_of_routed (locked : l.state = .locked) (routed : l.route l.slot ≠ .null) :
    l.deliverWord w = l.enqueue { route := l.route l.slot, word := w } := by
  unfold LinkRx.deliverWord
  rw [locked]
  cases route : l.route l.slot with
  | null => exact absurd route routed
  | meter c => rfl
  | strip i => rfl

theorem LinkRx.completeWord_of_nowhere (below : l.slot < l.settings.slots)
    (nowhere : l.state ≠ .locked ∨ l.route l.slot = .null) : l.completeWord w = { l with slot := l.slot + 1 } := by
  rw [LinkRx.completeWord_of_slot below, LinkRx.deliverWord_of_nowhere nowhere]

section
variable (below : l.slot < l.settings.slots) (locked : l.state = .locked) (routed : l.route l.slot ≠ .null)
include below locked routed

theorem LinkRx.completeWord_of_room (room : l.queue.length < 8) : l.completeWord w =
    { l with slot := l.slot + 1, queue := l.queue ++ [{ route := l.route l.slot, word := w }] } := by
  rw [LinkRx.completeWord_of_slot below, LinkRx.deliverWord_of_routed locked routed, LinkRx.enqueue,
    if_pos (show l.queue.length < Config.receiveQueueSize from room)]

theorem LinkRx.completeWord_of_overrun (full : 8 ≤ l.queue.length) : l.completeWord w =
    { l with slot := l.slot + 1, overruns := l.overruns + 1 } := by
  rw [LinkRx.completeWord_of_slot below, LinkRx.deliverWord_of_routed locked routed, LinkRx.enqueue,
    if_neg (show ¬ l.queue.length < Config.receiveQueueSize from Nat.not_lt.mpr full)]

end

end

/-- An edge at a link that leaves its state, slot map and slot count: the receiver changed, and the input served. -/
theorem exec_edge_of_same {s : State} {k : LinkId} {x : LinkSample} {l : LinkRx} (edge : s.links[k].edge x = l)
    (state : l.state = s.links[k].state) (map : l.map = s.links[k].map) (slots : l.settings.slots = s.links[k].settings.slots) :
    exec (.wordComplete k [x]) s = .next (serviceBegun { s with links := s.links.set k l }) := by
  rw [← State.beginService_eq, ← State.setLink_of_same state map slots, ← edge]
  rfl

/-- Settles O43: lists of edges, then the one edge by what the receiver does with it. -/
theorem linkBitsMakeWords : Obligations.LinkBitsMakeWords := by
  intro s k
  refine ⟨rfl, fun _ _ => rfl, fun _ _ => rfl, fun fs dat none => ⟨fun off => ?_, fun idle => ?_, fun goes more => ?_,
    fun goes ends past => ?_, fun goes ends below => ⟨fun nowhere => ?_, fun locked routed room => ?_,
      fun locked routed full => ?_⟩⟩⟩
  · exact exec_edge_of_same (LinkRx.edge_of_off off) rfl rfl rfl
  · refine exec_edge_of_same (LinkRx.edge_of_idle none ?_ (idle.imp_right And.right)) rfl rfl rfl
    obtain lost | ⟨on, -⟩ := idle
    · rw [lost]
      nofun
    · exact on
  · exact exec_edge_of_same ((LinkRx.edge_of_bit none goes).trans (LinkRx.shiftBit_of_more (Nat.lt_of_not_le more))) rfl rfl rfl
  all_goals have completes := (LinkRx.edge_of_bit (x := { fs := fs, dat := dat }) none goes).trans (LinkRx.shiftBit_of_full ends)
  · exact exec_edge_of_same (completes.trans (LinkRx.completeWord_of_excess past)) rfl rfl rfl
  · exact exec_edge_of_same (completes.trans (LinkRx.completeWord_of_nowhere below nowhere)) rfl rfl rfl
  · exact exec_edge_of_same (completes.trans (LinkRx.completeWord_of_room below locked routed room)) rfl rfl rfl
  · exact exec_edge_of_same (completes.trans (LinkRx.completeWord_of_overrun below locked routed full)) rfl rfl rfl

/-! ### A frame sync at a receiver (R137, R138, R140, R142, R144) -/

theorem LinkRx.adopt_eq (l : LinkRx) : l.adopt = { l with
    settings := (l.staged.getD (l.settings, l.map)).1, map := (l.staged.getD (l.settings, l.map)).2, staged := none } := by
  obtain ⟨_, _, _, staged, _, _, _, _, _, _, _, _, _, _, _, _⟩ := l
  cases staged <;> rfl

/-- The judgment of the open frame (R140), with the entry to LOCKED (R142). -/
theorem LinkRx.judge_eq (l : LinkRx) :
    let full := l.settings.slots ≤ l.slot
    let complete := l.open_ = true ∧ full
    let short := l.open_ = true ∧ ¬ full
    let locks := l.state = .acquiring ∧ complete ∧ 4 ≤ l.acquired + 1
    l.judge = { l with
      frames := l.frames + if complete then 1 else 0
      short := l.short + if short then 1 else 0
      state := if locks then .locked else l.state
      acquired := if l.state = .acquiring then
        (if complete ∧ ¬ locks then l.acquired + 1 else if l.open_ = true then 0 else l.acquired) else l.acquired } := by
  intro full complete short locks
  unfold LinkRx.judge
  by_cases opened : l.open_ = true
  · by_cases all : full
    · have counts : complete := ⟨opened, all⟩
      by_cases acquiring : l.state = .acquiring
      · by_cases fourth : 4 ≤ l.acquired + 1
        · have enters : locks := ⟨acquiring, counts, fourth⟩
          rw [if_pos opened, if_pos all, if_pos acquiring, if_pos (show Config.lockFrames ≤ _ from fourth)]
          simp [counts, enters, short, all, acquiring, opened]
        · have stays : ¬ locks := fun k => fourth k.2.2
          rw [if_pos opened, if_pos all, if_pos acquiring, if_neg (show ¬ Config.lockFrames ≤ _ from fourth)]
          simp [counts, stays, short, all, acquiring]
      · have stays : ¬ locks := fun k => acquiring k.1
        rw [if_pos opened, if_pos all, if_neg acquiring]
        simp [counts, stays, short, all, acquiring]
    · have misses : ¬ complete := fun k => all k.2
      have stays : ¬ locks := fun k => misses k.2.1
      rw [if_pos opened, if_neg all]
      simp [misses, stays, short, all, opened]
  · have misses : ¬ complete := fun k => opened k.1
    have stays : ¬ locks := fun k => misses k.2.1
    have shut : ¬ short := fun k => opened k.1
    have kept : (if l.state = .acquiring then (if complete ∧ ¬ locks then l.acquired + 1 else if l.open_ = true then 0
        else l.acquired) else l.acquired) = l.acquired := by
      rw [if_neg fun k : complete ∧ ¬ locks => misses k.1, if_neg opened, ite_self]
    rw [if_neg opened, kept, if_neg misses, if_neg shut, if_neg stays]
    simp

/-- The bit of a WORD sync's own edge is the first of its frame (R138). -/
theorem LinkRx.shiftBit_of_first {l : LinkRx} {b : Bool} (empty : l.assembly = []) : l.shiftBit b = { l with assembly := [b] } := by
  have more : 1 < l.settings.len.bits := by cases l.settings.len <;> decide
  rw [LinkRx.shiftBit_of_more (by rw [empty]; exact more), empty]
  rfl

/-- A receiver after a sync, field by field. -/
theorem LinkRx.edge_of_sync {l : LinkRx} (dat : Bool) (low : l.lastFs = false) (on : l.state ≠ .off) :
    let full := l.settings.slots ≤ l.slot
    let complete := l.open_ = true ∧ full
    let short := l.open_ = true ∧ ¬ full
    let locks := l.state = .acquiring ∧ complete ∧ 4 ≤ l.acquired + 1
    ∃ state acquired frames shorts, l.edge { fs := true, dat := dat } = { l with
        settings := (l.staged.getD (l.settings, l.map)).1, map := (l.staged.getD (l.settings, l.map)).2, staged := none
        lastFs := true, open_ := true, slot := 0, timeout := some (l.staged.getD (l.settings, l.map)).1.timeout
        assembly := if l.settings.sync = .word then [dat] else []
        state := state, acquired := acquired, frames := frames, short := shorts } ∧
      (l.state = .lost → state = .acquiring ∧ acquired = 0 ∧ frames = l.frames ∧ shorts = l.short) ∧
      (l.state = .acquiring ∨ l.state = .locked →
        frames = l.frames + (if complete then 1 else 0) ∧ shorts = l.short + (if short then 1 else 0) ∧
        state = (if locks then .locked else l.state) ∧
        (l.state = .acquiring → acquired = if complete ∧ ¬ locks then l.acquired + 1
          else if l.open_ = true then 0 else l.acquired)) := by
  intro full complete short locks
  have edge := LinkRx.edge_of_rise (x := { fs := true, dat := dat }) ⟨rfl, low⟩ on
  have taken : ∀ o : LinkRx, o.assembly = [] → (if l.settings.sync = .word then o.shiftBit dat else o) =
      { o with assembly := if l.settings.sync = .word then [dat] else [] } := by
    intro o empty
    split
    · exact LinkRx.shiftBit_of_first empty
    · rw [← empty]
  by_cases lost : l.state = .lost
  · refine ⟨_, _, _, _, edge.trans ((taken _ ?_).trans ?_), fun _ => ⟨rfl, rfl, rfl, rfl⟩, fun k => ?_⟩
    · rw [if_pos lost]
      rfl
    · rw [if_pos lost, LinkRx.reacquire, LinkRx.adopt_eq]
      rfl
    · simp [lost] at k
  · refine ⟨_, if l.state = .acquiring then (if complete ∧ ¬ locks then l.acquired + 1 else if l.open_ = true then 0
        else l.acquired) else l.acquired, _, _, edge.trans ((taken _ ?_).trans ?_), fun k => absurd k lost, fun _ => ⟨rfl, rfl, rfl, fun acquiring => if_pos acquiring⟩⟩
    · rw [if_neg lost]
      rfl
    · rw [if_neg lost, LinkRx.takeSync, LinkRx.adopt_eq, LinkRx.judge_eq]
      rfl

/-- What a sync has to say to the Attention Unit and the Meter Engine (R142, R150). -/
theorem LinkRx.sync_news {l y : LinkRx} {locks : Prop} [Decidable locks] (acquires : locks → l.state = .acquiring)
    (on : l.state ≠ .off) (lost : l.state = .lost → y.state = .acquiring)
    (held : l.state = .acquiring ∨ l.state = .locked → y.state = if locks then .locked else l.state) :
    (linkNews l y = true ↔ locks) ∧
    (feedNews l y = true ↔ locks ∨ (l.state = .locked ∧ (y.map ≠ l.map ∨ y.settings.slots ≠ l.settings.slots))) := by
  cases state : l.state with
  | off => exact absurd state on
  | lost =>
    have stays : ¬ locks := fun k => nomatch state.symm.trans (acquires k)
    simp [linkNews, feedNews, state, lost state, stays, LinkState.lost_beq, LinkState.acquiring_beq]
  | locked =>
    have stays : ¬ locks := fun k => nomatch state.symm.trans (acquires k)
    have after := held (.inr state)
    rw [if_neg stays, state] at after
    rw [ne_comm, ne_comm (a := y.settings.slots)]
    simp [linkNews, feedNews, state, after, stays]
  | acquiring =>
    have after := held (.inl state)
    by_cases enters : locks
    · rw [if_pos enters] at after
      simp [linkNews, feedNews, state, after, enters]
    · rw [if_neg enters, state] at after
      simp [linkNews, feedNews, state, after, enters]

/-- A receiver changed whose queue is as it was, while the input has nothing to begin. -/
theorem State.beginService_setLink {s t : State} {k : LinkId} {l : LinkRx}
    (quiet : s.input.service ≠ none ∨ (s.links[0].queue = [] ∧ s.links[1].queue = [])) (queue : l.queue = s.links[k].queue)
    (input : t.input = s.input) (links : t.links = s.links.set k l) : t.beginService = t := by
  have queues : ∀ j : LinkId, t.links[j].queue = s.links[j].queue := fun j => by
    by_cases here : k = j
    · subst here
      simpa [links] using queue
    · simp [links, Fin.val_ne_of_ne here]
  refine State.beginService_of_quiet (quiet.imp (fun busy => input ▸ busy) fun ⟨first, second⟩ => ?_)
  exact ⟨(queues 0).trans first, (queues 1).trans second⟩

/-- Settles O42: edges ahead of the sync, a level that does not rise, a link in OFF, and the sync itself. -/
theorem frameSyncJudgesFrames : Obligations.FrameSyncJudgesFrames := by
  intro s k dat
  have runs : exec (.frameSync k [] dat) s =
      .next (s.setLink k (s.links[k].edge { fs := true, dat := dat })).beginService := rfl
  refine ⟨fun _ _ => rfl, fun _ => rfl, fun quiet off => runs.trans (congrArg Host.Outcome.next ?_), fun quiet on low => ?_⟩
  · rw [LinkRx.edge_of_off off, State.setLink_of_same rfl rfl rfl,
      show s.links.set k s.links[k] = s.links from Vector.set_getElem_self _]
    exact State.beginService_of_quiet quiet
  · obtain ⟨state, acquired, frames, shorts, edge, lost, held⟩ := LinkRx.edge_of_sync (l := s.links[k]) dat low on
    generalize s.links[k].edge { fs := true, dat := dat } = y at edge runs
    obtain ⟨news, feed⟩ := LinkRx.sync_news (y := y) And.left on (fun k => by rw [edge]; exact (lost k).1)
      (fun k => by rw [edge]; exact (held k).2.2.1)
    obtain ⟨t, sets, gives, derives, keeps⟩ := State.setLink_gives (s := s) (k := k) (l := y)
    have serves := State.beginService_setLink (t := t) quiet (l := y) (by rw [edge]) (by rw [gives]) (by rw [gives])
    rw [sets, serves] at runs
    have here : t.links[k] = y := by
      rw [gives]
      exact Vector.getElem_set_self _
    refine ⟨t, runs, by rw [gives], fun j other => ?_, ?_⟩
    · rw [gives]
      exact Vector.getElem_set_ne k.isLt j.isLt (Fin.val_ne_of_ne other.symm)
    · rw [here, edge]
      refine ⟨rfl, rfl, rfl, rfl, rfl, rfl, fun bit => if_neg (by rw [bit]; nofun), fun word => if_pos word, rfl, rfl, rfl, rfl,
        lost, held, ⟨fun k => (derives (feed.mpr ?_)).1, fun k => keeps (Bool.eq_false_iff.mpr fun n => k ?_)⟩, ?_⟩
      · rw [edge]
        exact k
      · have := feed.mp n
        rw [edge] at this
        exact this
      · rw [gives]
        exact ite_congr (propext news) (fun _ => rfl) fun _ => rfl

end Sys2Proof.Machine
end

section
/-!
SUPPORT. The header check (R180), and GANG_SET (R88, R89) with the words of a refused set.
-/
namespace Sys2Proof.Machine

/-! ### The header check (R180) -/

theorem State.headerOf_readWords (s : State) : headerOf (s.readWords 0 5) =
    { version := (s.readImage (4 * 0)).toNat, strips := (s.readImage (4 * 1)).toNat, channels := (s.readImage (4 * 2)).toNat
      pages := (s.readImage (4 * 3)).toNat, pageSize := (s.readImage (4 * 4)).toNat } := by
  simp [headerOf, valueAt, wordAt, State.readWords]

theorem headerFailure_of_good {h : HeaderCounts} (version : h.version = 1) (strips : 1 ≤ h.strips ∧ h.strips ≤ 32)
    (channels : h.channels ≤ 64) (pages : 2 ≤ h.pages ∧ h.pages ≤ 8) (size : 64 ≤ h.pageSize ∧ h.pageSize ≤ 256) :
    headerFailure h = none := by
  unfold headerFailure
  rw [if_neg (show ¬ h.version ≠ Config.layoutVersion from Classical.not_not.mpr version), if_neg (by omega), if_neg (by omega), if_neg (by omega), if_neg (by omega)]

/-- The first field that fails, after those that pass. -/
theorem headerFailure_of_first {h : HeaderCounts} {f : HeaderField}
    (first : (f = .version ∧ ¬ h.version = 1) ∨ (f = .strips ∧ h.version = 1 ∧ ¬ (1 ≤ h.strips ∧ h.strips ≤ 32)) ∨
      (f = .channels ∧ h.version = 1 ∧ (1 ≤ h.strips ∧ h.strips ≤ 32) ∧ ¬ h.channels ≤ 64) ∨
      (f = .pages ∧ h.version = 1 ∧ (1 ≤ h.strips ∧ h.strips ≤ 32) ∧ h.channels ≤ 64 ∧ ¬ (2 ≤ h.pages ∧ h.pages ≤ 8)) ∨
      (f = .pageSize ∧ h.version = 1 ∧ (1 ≤ h.strips ∧ h.strips ≤ 32) ∧ h.channels ≤ 64 ∧ (2 ≤ h.pages ∧ h.pages ≤ 8) ∧
        ¬ (64 ≤ h.pageSize ∧ h.pageSize ≤ 256))) : headerFailure h = some f := by
  unfold headerFailure
  obtain ⟨rfl, bad⟩ | ⟨rfl, version, bad⟩ | ⟨rfl, version, strips, bad⟩ | ⟨rfl, version, strips, channels, bad⟩ |
    ⟨rfl, version, strips, channels, pages, bad⟩ := first
  · exact if_pos bad
  all_goals rw [if_neg (show ¬ h.version ≠ Config.layoutVersion from Classical.not_not.mpr version)]
  · exact if_pos (by omega)
  · rw [if_neg (by omega), if_pos (by omega)]
  · rw [if_neg (by omega), if_neg (by omega), if_pos (by omega)]
  · rw [if_neg (by omega), if_neg (by omega), if_neg (by omega), if_pos (by omega)]

theorem State.checkHeader_of_good {s : State} {h : HeaderCounts} (good : headerFailure h = none) :
    s.checkHeader h = { s with part := { s.part with
      checking := false, startResult := .noResult, failing := none, header := h, state := .starting, sequenceDue := true
      time := 0 } } := by
  rw [State.checkHeader, good]

theorem State.checkHeader_of_bad {s : State} {h : HeaderCounts} {f : HeaderField} (bad : headerFailure h = some f) :
    s.checkHeader h = (({ s with part := { s.part with
      checking := false, startResult := .imageInvalid, failing := some f } } : State).postResult.setCause .state) := by
  rw [State.checkHeader, bad]

/-- The word handed last stands at the queue's tail. -/
theorem State.post_getLast (s : State) (w : PostedWrite) : (s.post w).posted.getLast? = some w := List.getLast?_concat

/-- Settles O6: the five checks as the model makes them, then what the check leaves. -/
theorem headerCheckDecides : Obligations.HeaderCheckDecides := by
  intro s host halted checking
  have part : (s.beforeRead host).part = s.part := (s.onImage_beforeRead host).part
  have checked : exec (.headerCheck host) s =
      .next ((s.beforeRead host).checkHeader (headerOf ((s.beforeRead host).readWords 0 5))) :=
    congrArg Host.Outcome.next (if_pos checking)
  rw [State.headerOf_readWords] at checked
  refine ⟨fun ⟨version, strips, channels, pages, size⟩ => checked.trans (congrArg Host.Outcome.next
    (State.checkHeader_of_good (headerFailure_of_good version strips channels pages size))), fun f first => ?_⟩
  rw [State.checkHeader_of_bad (headerFailure_of_first first)] at checked
  obtain ⟨t, fails, failed⟩ : ∃ t, { s.beforeRead host with part := { (s.beforeRead host).part with
      checking := false, startResult := StartResult.imageInvalid, failing := some f } } = t ∧
      t.part = { s.part with checking := false, startResult := .imageInvalid, failing := some f } ∧
      t.strips = s.strips ∧ t.motors = s.motors :=
    ⟨_, rfl, by rw [part], (s.onImage_beforeRead host).strips, (s.onImage_beforeRead host).motors⟩
  rw [fails] at checked
  obtain ⟨law, strips, motors⟩ := failed
  have onImage := t.onImage_post { offset := 48, data := t.part.resultWord, note := .plain }
  have after : t.postResult.part = t.part := onImage.part
  refine ⟨_, checked, ?_⟩
  show t.postResult.part.state = _ ∧ t.postResult.part.checking = _ ∧ t.postResult.part.startResult = _ ∧
    t.postResult.part.failing = _ ∧ t.postResult.part.header = _ ∧ _ ∧ t.postResult.strips = _ ∧ t.postResult.motors = _ ∧
    t.postResult.posted.getLast? = some { offset := 48, data := startResultWord t.postResult.part, note := .plain }
  rw [after, ← Part.resultWord_eq]
  refine ⟨by rw [law]; exact halted, by rw [law], by rw [law], by rw [law], by rw [law], Attention.has_set _ _,
    onImage.strips.trans strips, onImage.motors.trans motors, State.post_getLast _ _⟩

/-! ### GANG_SET (R88, R89) -/

/-- The refused-set word of a list has the bit of each strip in it. -/
theorem stripBits_getLsbD (l : List StripId) (i : StripId) : (stripBits l).getLsbD i.val = decide (i ∈ l) := by
  have fold : ∀ (l : List StripId) (w : Word), (l.foldl (fun w i => w ||| 1#32 <<< i.val) w).getLsbD i.val =
      (w.getLsbD i.val || decide (i ∈ l)) := by
    intro l
    induction l with
    | nil => simp
    | cons k l ih =>
      intro w
      have bit : (1#32 <<< k.val).getLsbD i.val = decide (i = k) := by
        have bound : k.val < 32 := k.isLt
        rw [show 1#32 <<< k.val = BitVec.twoPow 32 k.val from rfl, BitVec.getLsbD_twoPow]
        simp [bound, Fin.ext_iff, eq_comm]
      rw [List.foldl_cons, ih, BitVec.getLsbD_or, bit, Bool.or_assoc]
      simp
  rw [stripBits, fold]
  simp

theorem mem_repeated_iff {l : List StripId} {i : StripId} : i ∈ repeated l ↔ 2 ≤ l.count i := by
  simp [repeated, allStrips]

theorem repeated_eq_nil_iff (l : List StripId) : repeated l = [] ↔ l.Nodup := by
  rw [List.nodup_iff_count, List.eq_nil_iff_forall_not_mem]
  exact forall_congr' fun i => by rw [mem_repeated_iff]; omega

/-- The member list replaced (R89): the gang's own, and the gang id of each strip. -/
theorem State.setMembers_eq (s : State) (g : GangId) (l : List StripId) : ∃ gangs strips, s.setMembers g l =
      { s with gangs := gangs, strips := strips } ∧
    gangs[g] = { s.gang g with members := allStrips.filter fun i => decide (i ∈ l) } ∧
    (∀ k : GangId, k ≠ g → gangs[k] = s.gang k) ∧
    ∀ i : StripId, strips[i] = { s.strip i with
      gang := if i ∈ l then some g else if (s.strip i).gang = some g then none else (s.strip i).gang } :=
  ⟨_, _, rfl, Vector.getElem_set_self _, fun k other => Vector.getElem_set_ne g.isLt k.isLt (Fin.val_ne_of_ne other.symm),
    fun i => Vector.getElem_ofFn i.isLt⟩

/-- GANG_SET of a list that names no strip twice (R88, R89). -/
theorem State.gangSet_of_distinct {s : State} {g : GangId} {count : Word} {entries : List Word} (more : entryCount count ≠ 1)
    (once : ((entries.take (entryCount count)).map entryStrip).Nodup) :
    let l := (entries.take (entryCount count)).map entryStrip
    let foreign := allStrips.filter fun i => i ∈ l ∧ (s.strip i).gang ≠ none ∧ (s.strip i).gang ≠ some g
    s.gangSet g count entries = if (s.gang g).activity ≠ none then s.answer .gangBusy 0
      else if foreign ≠ [] then s.answer .inGang (stripBits foreign)
      else (s.setMembers g l).answer (if countTaken count then .clamped else .done) 0 :=
  (if_neg more).trans (if_neg (Classical.not_not.mpr ((repeated_eq_nil_iff _).mpr once)))

/-- Settles O24: the checks in their order, then the member list replaced. -/
theorem gangSetReplacesMembers : Obligations.GangSetReplacesMembers := by
  intro s g count entries
  refine ⟨fun one => congrArg Host.Outcome.next (if_pos one), fun more twice => ?_, fun more once busy => ?_,
    fun more once free others => ?_, fun more once free own => ?_⟩
  · refine ⟨_, congrArg Host.Outcome.next ((if_neg more).trans (if_pos (mt (repeated_eq_nil_iff _).mp twice))), fun i => ?_⟩
    rw [stripBits_getLsbD, decide_eq_decide]
    exact mem_repeated_iff
  all_goals have distinct := State.gangSet_of_distinct (s := s) (g := g) more once
  · exact congrArg Host.Outcome.next (distinct.trans (if_pos busy))
  all_goals
    replace distinct := distinct.trans (if_neg (Classical.not_not.mpr free))
    have mem : ∀ i : StripId, i ∈ (allStrips.filter fun i => i ∈ (entries.take (entryCount count)).map entryStrip ∧
        (s.strip i).gang ≠ none ∧ (s.strip i).gang ≠ some g) ↔ i ∈ (entries.take (entryCount count)).map entryStrip ∧
          (s.strip i).gang ≠ none ∧ (s.strip i).gang ≠ some g := by simp [allStrips]
  · obtain ⟨k, foreign⟩ := others
    refine ⟨_, congrArg Host.Outcome.next (distinct.trans (if_pos (List.ne_nil_of_mem ((mem k).mpr foreign)))), fun i => ?_⟩
    rw [stripBits_getLsbD, decide_eq_decide]
    exact mem i
  · have none : ¬ (allStrips.filter fun i => i ∈ (entries.take (entryCount count)).map entryStrip ∧
        (s.strip i).gang ≠ none ∧ (s.strip i).gang ≠ some g) ≠ [] :=
      Classical.not_not.mpr (List.eq_nil_iff_forall_not_mem.mpr fun i k => own ⟨i, (mem i).mp k⟩)
    obtain ⟨gangs, strips, sets, member, kept, strip⟩ := s.setMembers_eq g ((entries.take (entryCount count)).map entryStrip)
    replace distinct := distinct.trans (if_neg none)
    rw [sets] at distinct
    refine ⟨_, congrArg Host.Outcome.next distinct, rfl, ?_, congrArg Gang.members member,
      (congrArg Gang.activity member).trans free, kept, strip⟩
    simp [countTaken, State.answer]

end Sys2Proof.Machine
end

section
/-!
SUPPORT. What a strip's context does piece by piece, each piece as the fields it leaves and the effects it adds; and with
them the commands of the strip cell that act on the entries (chapters 2 and 3).
-/
namespace Sys2Proof.Machine

/-! ### Finishes (R54, R69) -/

/-- Entries finished FLUSHED one after another: each one's record, in order, and each one counted. -/
theorem Ctx.finishes_flushed (l : List Entry) (c : Ctx) : l.foldl (fun c e => c.finish .flushed e.tag e.origin) c = { c with
    strip := { c.strip with flushed := c.strip.flushed + BitVec.ofNat 16 l.length }
    out := c.out ++ l.map fun e => finishOf c.id .flushed e c.strip.p } := by
  induction l generalizing c with
  | nil => simp
  | cons e l ih =>
    have count : c.strip.flushed + 1 + BitVec.ofNat 16 l.length = c.strip.flushed + BitVec.ofNat 16 (e :: l).length := by
      rw [List.length_cons, Nat.add_comm l.length, BitVec.ofNat_add, BitVec.add_assoc]
      rfl
    rw [List.foldl_cons, ih]
    simp only [Ctx.finish, Ctx.emit, Ctx.update, Strip.countFinish, count, List.map_cons, List.append_assoc]
    rfl

theorem Ctx.flushQueue_eq (c : Ctx) : c.flushQueue = { c with
    strip := { c.strip with queue := [], flushed := c.strip.flushed + BitVec.ofNat 16 c.strip.queue.length }
    out := c.out ++ c.strip.queue.map fun e => finishOf c.id .flushed e c.strip.p } := by
  rw [Ctx.flushQueue, Ctx.finishes_flushed]
  rfl

/-- The current entry's FINISH record, where there is one. -/
def currentFinish (i : StripId) (k : FinishKind) (x : Strip) : List Effect :=
  x.current.toList.map fun e => finishOf i k e x.p

/-- A strip whose current entry has finished and been counted by its kind. -/
def Strip.currentFinished (x : Strip) (k : FinishKind) : Strip :=
  if x.current = none then x else { x.countFinish k with current := none, restart := false }

theorem Ctx.finishCurrent_eq (c : Ctx) (k : FinishKind) : c.finishCurrent k =
    { c with strip := c.strip.currentFinished k, out := c.out ++ currentFinish c.id k c.strip } := by
  unfold Ctx.finishCurrent Strip.currentFinished currentFinish
  cases c.strip.current with
  | none => simp
  | some e => rfl

/-- The flush (R62) as the flushed strip and its records. -/
theorem Ctx.flush_eq (c : Ctx) :
    c.flush = { c with strip := flushedStrip c.strip, out := c.out ++ flushEffects c.id c.strip } := by
  obtain ⟨i, x, out⟩ := c
  rw [Ctx.flush, Ctx.flushQueue_eq, Ctx.finishCurrent_eq]
  cases current : x.current with
  | none => simp [Strip.currentFinished, currentFinish, flushedStrip, flushEffects, current, Ctx.update]
  | some e =>
    have count : x.flushed + BitVec.ofNat 16 x.queue.length + 1#16 = x.flushed + BitVec.ofNat 16 (x.queue.length + 1) := by
      rw [BitVec.ofNat_add, ← BitVec.add_assoc]
    simp [Strip.currentFinished, currentFinish, flushedStrip, flushEffects, current, Ctx.update, Strip.countFinish, count]

/-! ### Activity, streams and what a strip gives up -/

theorem Strip.leaveActivity_eq (x : Strip) : x.leaveActivity = outOfActivity x := by
  unfold Strip.leaveActivity outOfActivity
  cases x.role <;> rfl

/-- The relatch flag of a strip under LINK with a stream target held (R71). -/
theorem Strip.setRelatch_eq (x : Strip) : x.setRelatch = { x with
    relatch := if x.settings.source = .link ∧ x.streamTarget ≠ none then true else x.relatch
    relatchRef := if x.settings.source = .link then x.streamTarget.getD x.relatchRef else x.relatchRef } := by
  unfold Strip.setRelatch
  split
  · next t target =>
    split
    · next link =>
      rw [if_pos ⟨link, by rw [target]; nofun⟩, show x.streamTarget.getD x.relatchRef = t by rw [target]; rfl]
    · next other => rw [if_neg fun k : _ ∧ _ => other k.1]
  · next target =>
    have ref : (if x.settings.source = .link then x.streamTarget.getD x.relatchRef else x.relatchRef) = x.relatchRef := by
      rw [target]
      exact ite_self _
    rw [ref, if_neg fun k : x.settings.source = .link ∧ x.streamTarget ≠ none => k.2 target]

section
variable {c : Ctx}

theorem Ctx.letGo_of_driving (driving : c.strip.state.driving = true) : c.letGo =
    { c with strip := { c.strip with grantHeld := false }, out := c.out ++ [.drive 0, .giveBack] } := by
  rw [Ctx.letGo, if_pos driving]
  simp [Ctx.stopDriving, Ctx.emit, Ctx.update]

theorem Ctx.letGo_of_waiting {w : Purpose} (waits : c.strip.state = .waiting w) : c.letGo = c.emit .withdraw := by
  rw [Ctx.letGo, waits]
  rfl

theorem Ctx.letGo_of_rests (still : c.strip.state.driving = false) (rests : c.strip.state.isWaiting = false) : c.letGo = c := by
  rw [Ctx.letGo, still, rests]
  rfl

/-- What a strip gives up on leaving its state (R30, R32), the three cases in one. -/
theorem Ctx.letGo_eq (c : Ctx) : c.letGo = { c with
    strip := { c.strip with grantHeld := if c.strip.state.driving then false else c.strip.grantHeld }
    out := c.out ++ (if c.strip.state.driving then [.drive 0, .giveBack] else if c.strip.state.isWaiting then [.withdraw]
      else []) } := by
  by_cases driving : c.strip.state.driving = true
  · rw [Ctx.letGo_of_driving driving, if_pos driving, if_pos driving]
  · rw [if_neg driving, if_neg driving, Ctx.letGo, if_neg driving]
    split <;> simp [Ctx.emit]

/-- A calibration run ended before its time (R50): its FINISH record and count, the run and, where it is spoilt, the valid flag
gone. -/
theorem Ctx.endRun_eq (c : Ctx) (k : FinishKind) (spoil : Bool) : c.endRun k spoil = { c with
    strip := if c.strip.calRun = none then c.strip else
      { c.strip.countFinish k with calRun := none, cal := { c.strip.cal with valid := c.strip.cal.valid && !spoil } }
    out := c.out ++ c.strip.calRun.toList.map fun r => .record (.finish c.id k r.tag .cell c.strip.p) } := by
  unfold Ctx.endRun
  cases c.strip.calRun with
  | none => simp
  | some r => cases k <;> rfl

end

/-! ### MOVE and JUMP accepted (R61, R63) -/

section
variable {s : State} {i : StripId} {a : MoveArgs} {origin : Origin} {d : Ctx}

/-- A command that passes every check but the one of the full queue. -/
theorem Strip.refusal_of_works {x : Strip} {n : Nat} {isMove : Bool} (below : i.val < n) (on : x.state ≠ .off) (cal : x.state ≠ .uncal)
    (phase : x.state ≠ .calibrating) (wait : x.state ≠ .waiting .calibrate) (works : x.state ≠ .stalled)
    (cells : x.settings.source = .cells) (room : isMove = true → x.queue.length < 8) : x.refusal i n isMove = none := by
  have stands : ¬ (x.state = .uncal ∨ x.calibrationStands = true) := by
    simp [Strip.calibrationStands_iff, cal, phase, wait]
  refine (Strip.refusal_of_cells (not_or.mpr ⟨Nat.not_le.mpr below, on⟩) stands works (by rw [cells]; nofun)).trans
    (if_neg fun full => ?_)
  exact Nat.not_le.mpr (room full.1) full.2

/-- The state an accepted command leaves: its context's fields, its effects, then its answer. -/
theorem State.runCommand_moveOrJump {jump : Bool} {d : Ctx}
    (gives : (moveOrJump jump s.stripCount a origin (s.contextAt i)).1 = d)
    (admitted : (s.strip i).refusal i s.stripCount (!jump) = none) :
    s.runCommand i (moveOrJump jump s.stripCount a origin) = ((s.setStrip i d.strip).effects i d.out).answer
      (if 4095 < a.target.toNat ∨ 16383 < a.duration.toNat then .clamped else .done) 0 :=
  State.runCommand_of_eq (Prod.ext gives
    ((moveOrJump_outcome_of_admitted (c := s.contextAt i) admitted).trans (acceptedOutcome_moveClamped a)))

/-- What the start check does not start: a strip that is not IDLE, one with a current entry, one whose queue is frozen. -/
theorem Ctx.startRule_of_held {c : Ctx} (held : ¬ (c.strip.state = .idle ∧ c.strip.current = none ∧ c.strip.freeze = false)) :
    c.startRule = c := by
  unfold Ctx.startRule
  split
  · rfl
  · exact if_neg held

/-- Settles O26: the entry at the queue's tail, then the start check by what stood ahead of it. -/
theorem moveQueuesOrStarts : Obligations.MoveQueuesOrStarts := by
  intro s i a origin x c e o starts below on cal phase wait works cells room
  have admitted : x.refusal i s.stripCount true = none :=
    Strip.refusal_of_works below on cal phase wait works cells fun _ => room
  have runs : exec c s = .next (s.runCommand i (moveOrJump false s.stripCount a origin)) := by cases origin <;> rfl
  have entry : x.newEntry a origin = e := rfl
  have placed : ∀ {d : Ctx}, (s.contextAt i).placeMove e = d →
      exec c s = .next (((s.setStrip i d.strip).effects i d.out).answer o 0) := fun gives =>
    runs.trans (congrArg Host.Outcome.next (State.runCommand_moveOrJump
      ((congrArg Prod.fst (Ctx.move_of_admitted (c := s.contextAt i) admitted)).trans gives) admitted))
  refine ⟨fun rests => placed (Ctx.startRule_of_held rests), fun free empty => ?_, fun q rest free queued => ?_⟩
  all_goals obtain ⟨idle, none, thawed⟩ := free
  · have alone : x.queue ++ [e] = e :: [] := by rw [empty]; rfl
    have started : x.started e [] = { x with current := some e, restart := false, state := .waiting .move } := by
      rw [← empty]
      rfl
    rw [← started]
    exact placed (Ctx.startRule_of_queued idle alone none thawed)
  · have ahead : x.queue ++ [e] = q :: (rest ++ [e]) := by rw [queued]; rfl
    exact placed (Ctx.startRule_of_queued idle ahead none thawed)

section
variable {c : Ctx} (e : Entry)

theorem Ctx.placeJump_of_waits (rests : c.strip.state = .idle ∨ c.strip.state = .waiting .move ∨ c.strip.state = .waiting .stream) :
    c.placeJump e = (c.update fun x => { x with current := some e }).await .move e.priority := by
  unfold Ctx.placeJump
  obtain rests | rests | rests := rests <;> rw [rests]

theorem Ctx.placeJump_of_moving (moving : c.strip.state = .moving) :
    c.placeJump e = c.update fun x => { x with current := some e } := by
  rw [Ctx.placeJump, moving]

theorem Ctx.placeJump_of_settling (settling : c.strip.state = .settling) : c.placeJump e =
    (c.update fun x => { x with current := some e }).update fun x => { x.clearSettle with state := .moving } := by
  rw [Ctx.placeJump, settling]

theorem Ctx.placeJump_of_held (held : c.strip.state = .following ∨ c.strip.state = .waiting .follow ∨ c.strip.state = .touched) :
    c.placeJump e = c.update fun x => { x with queue := [e] } := by
  unfold Ctx.placeJump
  obtain held | held | held := held <;> rw [held]

end

/-- Settles O27: the flush, then the row of R63 for the strip's state. -/
theorem jumpReplacesEntries : Obligations.JumpReplacesEntries := by
  intro s i a origin x c e o f gives below on cal phase wait works cells
  have admitted : x.refusal i s.stripCount false = none := Strip.refusal_of_works below on cal phase wait works cells nofun
  have runs : exec c s = .next (s.runCommand i (moveOrJump true s.stripCount a origin)) := by cases origin <;> rfl
  have flushed : (s.contextAt i).flush = { id := i, strip := f, out := flushEffects i x } := Ctx.flush_eq _
  have placed : ∀ {d : Ctx}, (s.contextAt i).flush.placeJump e = d →
      exec c s = .next (((s.setStrip i d.strip).effects i d.out).answer o 0) := fun places =>
    runs.trans (congrArg Host.Outcome.next (State.runCommand_moveOrJump
      ((congrArg Prod.fst (Ctx.jump_of_admitted (c := s.contextAt i) admitted)).trans places) admitted))
  rw [flushed] at placed
  simp only [gives, List.append_nil]
  exact ⟨fun rests => placed (Ctx.placeJump_of_waits e rests), fun moving => placed (Ctx.placeJump_of_moving e moving),
    fun settling => placed (Ctx.placeJump_of_settling e settling), fun held => placed (Ctx.placeJump_of_held e held)⟩

end

/-! ### STOP (R64, R65) -/

theorem outOfActivity_p (x : Strip) : (outOfActivity x).p = x.p := by
  unfold outOfActivity
  split <;> rfl

/-- A run ended with the record kept: its FINISH record, and its count. -/
theorem Ctx.endRun_flushed (c : Ctx) : c.endRun .flushed false = { c with
    strip := { c.strip with calRun := none, flushed := c.strip.flushed + (if c.strip.calRun = none then 0 else 1) }
    out := c.out ++ c.strip.calRun.toList.map fun r => .record (.finish c.id .flushed r.tag .cell c.strip.p) } := by
  rw [Ctx.endRun_eq]
  split
  · next none =>
    rw [← none, show c.strip.flushed + 0 = c.strip.flushed from BitVec.add_zero _]
  · rw [Bool.not_false, Bool.and_true]
    rfl

/-- A strip left by its record makes the start check where that leaves it IDLE (R59). -/
theorem Ctx.startRule_of_rest {c : Ctx} (state : c.strip.state = if c.strip.cal.valid then .idle else .uncal) :
    c.startRule = { c with
      strip := (if c.strip.cal.valid then startChecked c.strip else (c.strip, [])).1
      out := c.out ++ (if c.strip.cal.valid then startChecked c.strip else (c.strip, [])).2 } := by
  by_cases valid : c.strip.cal.valid = true
  · rw [if_pos valid] at state ⊢
    exact Ctx.startRule_of_idle state
  · rw [if_neg valid] at state ⊢
    refine (Ctx.startRule_of_ne_idle (by rw [state]; nofun)).trans ?_
    simp

section
variable {c : Ctx}

theorem Ctx.stopState_of_follow (waits : c.strip.state = .waiting .follow) :
    c.stopState = (c.emit .withdraw).update fun x => { outOfActivity x with state := .idle } := by
  rw [Ctx.stopState, waits]
  simp only [Strip.leaveActivity_eq]

theorem Ctx.stopState_of_waits (waits : c.strip.state = .waiting .move ∨ c.strip.state = .waiting .stream) :
    c.stopState = (c.emit .withdraw).update fun x => { x with state := .idle } := by
  unfold Ctx.stopState
  obtain waits | waits := waits <;> rw [waits]

theorem Ctx.stopState_of_motion (moves : c.strip.state = .moving ∨ c.strip.state = .settling) :
    c.stopState = c.update Strip.settleHere := by
  unfold Ctx.stopState
  obtain moves | moves := moves <;> rw [moves]

theorem Ctx.stopState_of_following (follows : c.strip.state = .following) :
    c.stopState = c.update fun x => { outOfActivity x with
      state := .settling, settleCount := 0, settleTime := 0, profile := { (outOfActivity x).profile with guide := x.p } } := by
  rw [Ctx.stopState, follows]
  simp only [Strip.leaveActivity_eq, Ctx.update, ← outOfActivity_p c.strip]
  rfl

theorem Ctx.stopState_of_rests (rests : c.strip.state = .idle ∨ c.strip.state = .uncal ∨ c.strip.state = .touched ∨
    c.strip.state = .stalled) : c.stopState = c := by
  unfold Ctx.stopState
  obtain rests | rests | rests | rests := rests <;> rw [rests]

end

/-- A reference taken of a strip that has left its activity is the one it held before. -/
theorem relatch_outOfActivity (x : Strip) : ({ outOfActivity x with
      relatch := if (outOfActivity x).settings.source = .link ∧ (outOfActivity x).streamTarget ≠ none then true
        else (outOfActivity x).relatch
      relatchRef := if (outOfActivity x).settings.source = .link then (outOfActivity x).streamTarget.getD (outOfActivity x).relatchRef
        else (outOfActivity x).relatchRef } : Strip) =
    outOfActivity { x with
      relatch := if x.settings.source = .link ∧ x.streamTarget ≠ none then true else x.relatch
      relatchRef := if x.settings.source = .link then x.streamTarget.getD x.relatchRef else x.relatchRef } := by
  by_cases member : x.role = .follower ∨ x.role = .trimming
  · rw [outOfActivity, if_pos member]
    exact (if_pos member).symm
  · rw [outOfActivity, if_neg member]
    exact (if_neg member).symm

section
variable {n : Nat} {c d : Ctx} (on : ¬ (n ≤ c.id.val ∨ c.strip.state = .off))
include on

/-- STOP at a strip whose calibration stands, `d` the context once grant or request is given up. -/
theorem Ctx.stop_of_calibration (stands : c.strip.calibrationStands = true) (free : c.letGo = d) :
    let z := { d.strip with
      calRun := none, state := if d.strip.cal.valid then .idle else .uncal
      flushed := d.strip.flushed + (if d.strip.calRun = none then 0 else 1) }
    let r := if d.strip.cal.valid then startChecked z else (z, [])
    c.stop n = ({ d with strip := r.1, out := d.out ++
      (d.strip.calRun.toList.map fun r => .record (.finish d.id .flushed r.tag .cell d.strip.p)) ++ r.2 }, .done) := by
  subst free
  refine (if_neg on).trans ((if_pos stands).trans (congrArg (·, Outcome.done) ?_))
  rw [Ctx.endRun_flushed, Ctx.startRule_of_rest rfl]
  rfl

/-- STOP at any other strip in service: the flush, and the change of state after it. -/
theorem Ctx.stop_of_free (free : ¬ c.strip.calibrationStands = true)
    (rests : ({ c with strip := flushedStrip c.strip, out := c.out ++ flushEffects c.id c.strip } : Ctx).stopState = d) :
    c.stop n = ({ d with strip := { d.strip with
      relatch := if d.strip.settings.source = .link ∧ d.strip.streamTarget ≠ none then true else d.strip.relatch
      relatchRef := if d.strip.settings.source = .link then d.strip.streamTarget.getD d.strip.relatchRef
        else d.strip.relatchRef } }, .done) := by
  subst rests
  refine (if_neg on).trans ((if_neg free).trans (congrArg (·, Outcome.done) ?_))
  rw [Ctx.flush_eq, Ctx.update, Strip.setRelatch_eq]

end

/-- Settles O28: the calibration given up, then the flush and the row of R65 for the strip's state. -/
theorem stopEndsMotion : Obligations.StopEndsMotion := by
  intro s i x off gives ended finish rests f here es
  have commanded : ∀ {d : Ctx} {o : Outcome}, (s.contextAt i).stop s.stripCount = (d, o) →
      exec (.stop i) s = .next (((s.setStrip i d.strip).effects i d.out).answer o 0) := fun h =>
    congrArg Host.Outcome.next (State.runCommand_of_eq h)
  refine ⟨fun out => congrArg Host.Outcome.next (State.runCommand_of_refused (if_pos out)), fun on =>
    ⟨fun calibrates => commanded (Ctx.stop_of_calibration on ?_ (Ctx.letGo_of_driving ?_)),
      fun waits => commanded (Ctx.stop_of_calibration on ?_ (Ctx.letGo_of_waiting waits)), fun waits => ?_, fun waits => ?_,
      fun moves => ?_, fun follows => ?_, fun still => ?_⟩⟩
  · exact x.calibrationStands_iff.mpr (.inl calibrates)
  · show x.state.driving = true
    rw [calibrates]
    rfl
  · exact x.calibrationStands_iff.mpr (.inr waits)
  · have free : ¬ x.calibrationStands = true := by obtain k | k := waits <;> simp [Strip.calibrationStands, k]
    exact commanded (Ctx.stop_of_free on free (Ctx.stopState_of_waits waits))
  · have free : ¬ x.calibrationStands = true := by simp [Strip.calibrationStands, waits]
    have left : ({ outOfActivity f with state := .idle } : Strip) = _ :=
      congrArg (fun y : Strip => { y with state := StripState.idle }) (relatch_outOfActivity (flushedStrip x)).symm
    rw [left]
    exact commanded (Ctx.stop_of_free on free (Ctx.stopState_of_follow waits))
  · have free : ¬ x.calibrationStands = true := by obtain k | k := moves <;> simp [Strip.calibrationStands, k]
    exact commanded (Ctx.stop_of_free on free (Ctx.stopState_of_motion moves))
  · have free : ¬ x.calibrationStands = true := by simp [Strip.calibrationStands, follows]
    have left : outOfActivity f = _ := (relatch_outOfActivity (flushedStrip x)).symm
    rw [left]
    exact commanded (Ctx.stop_of_free on free (Ctx.stopState_of_following follows))
  · have free : ¬ x.calibrationStands = true := by obtain k | k | k | k := still <;> simp [Strip.calibrationStands, k]
    exact commanded (Ctx.stop_of_free on free (Ctx.stopState_of_rests still))

end Sys2Proof.Machine
end

section
/-!
SUPPORT. What effects leave at the other blocks, and the Gang Table's work at a leader's departure (R95 to R97).
-/
namespace Sys2Proof.Machine

/-! ### Effects and the blocks they reach -/

theorem State.effects_append (s : State) (i : StripId) (es fs : List Effect) :
    s.effects i (es ++ fs) = (s.effects i es).effects i fs := List.foldl_append

/-- The event to the arbiter that an effect sends, if it sends one (R30 to R32). -/
def Effect.event (i : StripId) : Effect → Option Instr
  | .request p => some (.grantRequest i p)
  | .withdraw => some (.grantWithdrawal i)
  | .giveBack => some (.grantReturn i)
  | .record _ | .drive _ | .cause _ => none

theorem State.effect_inFlight (s : State) (i : StripId) (e : Effect) : ∃ fs, (s.effect i e).inFlight = s.inFlight ++ fs ∧
    ∀ ev, e.event i = some ev → ev ∈ fs := by
  cases e with
  | record r =>
    obtain ⟨w, fs, hands⟩ := s.handRecord_eq r
    exact ⟨fs, congrArg State.inFlight hands, nofun⟩
  | drive u => exact ⟨[], (List.append_nil _).symm, nofun⟩
  | cause c => exact ⟨[], (List.append_nil _).symm, nofun⟩
  | request p => exact ⟨_, rfl, fun ev sent => Option.some.inj sent ▸ List.mem_singleton_self _⟩
  | withdraw => exact ⟨_, rfl, fun ev sent => Option.some.inj sent ▸ List.mem_singleton_self _⟩
  | giveBack => exact ⟨_, rfl, fun ev sent => Option.some.inj sent ▸ List.mem_singleton_self _⟩

/-- Every event that effects send is under way after them. -/
theorem State.effects_inFlight (s : State) (i : StripId) (es : List Effect) : ∃ fs,
    (s.effects i es).inFlight = s.inFlight ++ fs ∧ ∀ e ∈ es, ∀ ev, e.event i = some ev → ev ∈ fs := by
  induction es generalizing s with
  | nil => exact ⟨[], (List.append_nil _).symm, nofun⟩
  | cons e es ih =>
    obtain ⟨first, sends, sent⟩ := s.effect_inFlight i e
    obtain ⟨rest, follows, more⟩ := ih (s.effect i e)
    refine ⟨first ++ rest, follows.trans (by rw [sends, List.append_assoc]), fun d mem ev event => ?_⟩
    obtain rfl | mem := List.mem_cons.mp mem
    · exact List.mem_append_left _ (sent ev event)
    · exact List.mem_append_right _ (more d mem ev event)

theorem State.mem_effects_inFlight {s : State} {i : StripId} {es : List Effect} {e : Effect} {ev : Instr} (mem : e ∈ es)
    (event : e.event i = some ev) : ev ∈ (s.effects i es).inFlight := by
  obtain ⟨fs, sends, sent⟩ := s.effects_inFlight i es
  rw [sends]
  exact List.mem_append_right _ (sent e mem ev event)

theorem State.motors_handRecord (s : State) (r : Rec) : (s.handRecord r).motors = s.motors := by
  obtain ⟨w, fs, hands⟩ := s.handRecord_eq r
  rw [hands]

theorem State.attention_handRecord (s : State) (r : Rec) : (s.handRecord r).attention = s.attention := by
  obtain ⟨w, fs, hands⟩ := s.handRecord_eq r
  rw [hands]

/-- Effects of a strip leave every other strip's drive value as it was. -/
theorem State.drive_effects_ne (s : State) {i j : StripId} (other : j ≠ i) (es : List Effect) :
    (s.effects i es).drive j = s.drive j := by
  induction es generalizing s with
  | nil => rfl
  | cons e es ih =>
    refine (ih (s.effect i e)).trans ?_
    cases e with
    | record r => exact congrArg (fun m : Motors => m.chans[j].held) (s.motors_handRecord r)
    | drive u =>
      exact congrArg MotorChannel.held (Vector.getElem_set_ne i.isLt j.isLt (Fin.val_ne_of_ne other.symm))
    | request p => rfl
    | withdraw => rfl
    | giveBack => rfl
    | cause c => rfl

/-- Effects that write drive 0 and no other value leave the strip's drive value 0. -/
theorem State.drive_effects_zero {s : State} {i : StripId} {es : List Effect} (only : ∀ u, Effect.drive u ∈ es → u = 0)
    (zero : Effect.drive 0 ∈ es ∨ s.drive i = 0) : (s.effects i es).drive i = 0 := by
  induction es generalizing s with
  | nil => exact zero.resolve_left List.not_mem_nil
  | cons e es ih =>
    have rest : ∀ u, Effect.drive u ∈ es → u = 0 := fun u mem => only u (List.mem_cons_of_mem _ mem)
    refine ih rest ?_
    by_cases later : Effect.drive 0 ∈ es
    · exact .inl later
    right
    cases e with
    | drive u => exact (s.drive_writeDrive i u).trans (only u List.mem_cons_self)
    | record r =>
      have before := zero.resolve_left fun mem => later ((List.mem_cons.mp mem).resolve_left nofun)
      exact (congrArg (fun m : Motors => m.chans[i].held) (s.motors_handRecord r)).trans before
    | request p => exact zero.resolve_left fun mem => later ((List.mem_cons.mp mem).resolve_left nofun)
    | withdraw => exact zero.resolve_left fun mem => later ((List.mem_cons.mp mem).resolve_left nofun)
    | giveBack => exact zero.resolve_left fun mem => later ((List.mem_cons.mp mem).resolve_left nofun)
    | cause c => exact zero.resolve_left fun mem => later ((List.mem_cons.mp mem).resolve_left nofun)

theorem State.motors_effects {s : State} {i : StripId} {es : List Effect} (none : ∀ u, Effect.drive u ∉ es) :
    (s.effects i es).motors = s.motors := by
  induction es generalizing s with
  | nil => rfl
  | cons e es ih =>
    refine (ih fun u mem => none u (List.mem_cons_of_mem _ mem)).trans ?_
    cases e with
    | drive u => exact absurd List.mem_cons_self (none u)
    | record r => exact s.motors_handRecord r
    | request p => rfl
    | withdraw => rfl
    | giveBack => rfl
    | cause c => rfl

theorem State.attention_effects {s : State} {i : StripId} {es : List Effect} (none : ∀ c, Effect.cause c ∉ es) :
    (s.effects i es).attention = s.attention := by
  induction es generalizing s with
  | nil => rfl
  | cons e es ih =>
    refine (ih fun u mem => none u (List.mem_cons_of_mem _ mem)).trans ?_
    cases e with
    | cause c => exact absurd List.mem_cons_self (none c)
    | record r => exact s.attention_handRecord r
    | drive u => rfl
    | request p => rfl
    | withdraw => rfl
    | giveBack => rfl

section
variable (s : State) (i : StripId) (es : List Effect)

@[simp] theorem State.strip_effects (k : StripId) : (s.effects i es).strip k = s.strip k :=
  congrArg (·[k]) (s.effects_strips i es).1

@[simp] theorem State.gang_effects (g : GangId) : (s.effects i es).gang g = s.gang g :=
  congrArg (·[g]) (s.effects_strips i es).2.1

end

/-- The blocks that effects reach, and no other. -/
theorem State.effects_frame (s : State) (i : StripId) (es : List Effect) : ∃ t, s.effects i es = t ∧
    t = { s with writer := t.writer, inFlight := t.inFlight, motors := t.motors, attention := t.attention } := by
  obtain ⟨strips, gangs, v, w, _, _, _, _, onStrips⟩ := s.effects_strips i es
  rw [onStrips] at strips gangs
  have same : v = s.strips := strips
  have kept : w = s.gangs := gangs
  exact ⟨_, onStrips, by rw [same, kept]⟩

theorem State.gang_handRecord (s : State) (r : Rec) (g : GangId) : (s.handRecord r).gang g = s.gang g := by
  obtain ⟨w, fs, hands⟩ := s.handRecord_eq r
  rw [hands]
  rfl

/-- A record handed does not see the contexts, the Gang Table or the Cell Sweep. -/
theorem State.handRecord_with (s : State) (r : Rec) (strips : Vector Strip 32) (gangs : Vector Gang 8) (sweep : Sweep) :
    ({ s with strips := strips, gangs := gangs, sweep := sweep } : State).handRecord r =
      { s.handRecord r with strips := strips, gangs := gangs, sweep := sweep } := by
  unfold State.handRecord
  by_cases idle : s.writer.state ≠ .seeking
  · exact (if_pos idle).trans (by rw [if_pos idle])
  · refine (if_neg idle).trans ?_
    rw [if_neg idle]
    by_cases serving : s.part.state ≠ .stopping
    · exact (if_pos serving).trans (by rw [if_pos serving]; rfl)
    · refine (if_neg serving).trans ?_
      rw [if_neg serving]
      by_cases obtains : s.part.stop = .handing ∧ s.writer.deadSeek = false ∧ isFZ ({ s with
          writer := s.writer.hand (s.part.state = .stopping) { record := r, time := s.part.time } } : State).pageOwner
      · exact (if_pos obtains).trans (by rw [if_pos obtains])
      · exact (if_neg obtains).trans (by rw [if_neg obtains])

section
variable (s : State) (r : Rec)

theorem State.handRecord_setStrip (i : StripId) (x : Strip) :
    (s.setStrip i x).handRecord r = (s.handRecord r).setStrip i x := by
  have strips : (s.handRecord r).strips = s.strips := by
    obtain ⟨w, fs, hands⟩ := s.handRecord_eq r
    rw [hands]
  have with_ := s.handRecord_with r (s.strips.set i x) s.gangs s.sweep
  refine with_.trans ?_
  obtain ⟨w, fs, hands⟩ := s.handRecord_eq r
  rw [hands]
  rfl

theorem State.handRecord_answer (o : Outcome) (refused : Word) :
    (s.answer o refused).handRecord r = (s.handRecord r).answer o refused := by
  refine (s.handRecord_with r s.strips s.gangs { s.sweep with outcome := some o, refused := refused }).trans ?_
  obtain ⟨w, fs, hands⟩ := s.handRecord_eq r
  rw [hands]
  rfl

end

/-! ### The end of an activity, and leadership passed on (R95, R96) -/

/-- The members of a role, told of another state in which the role has moved. -/
theorem State.membersWithRole_of {s u : State} {g : GangId} {role : Role} {p : StripId → Prop} [DecidablePred p]
    (members : (u.gang g).members = (s.gang g).members) (roles : ∀ j, (u.strip j).role = role ↔ p j) :
    u.membersWithRole g role = (s.gang g).members.filter fun j => decide (p j) := by
  rw [State.membersWithRole, members]
  exact List.filter_congr fun j _ => decide_eq_decide.mpr (roles j)

theorem State.endActivity_eq (s : State) (g : GangId) (i : StripId) : s.endActivity g i = activityEnds s g i := by
  have record := (s.setGang g { s.gang g with activity := none }).handRecord_setStrip (.gang g i .ended) i
    { s.strip i with role := .outside }
  obtain ⟨t, hands⟩ : ∃ t, t = (s.setGang g { s.gang g with activity := none }).handRecord (.gang g i .ended) := ⟨_, rfl⟩
  have strip : ∀ j, t.strip j = s.strip j := fun j => by rw [hands, State.strip_handRecord]; rfl
  have members : (t.gang g).members = (s.gang g).members := by
    rw [hands, State.gang_handRecord, State.gang_setGang_self]
  have followers : (t.setStrip i { s.strip i with role := .outside }).membersWithRole g .follower =
      (s.gang g).members.filter fun j => decide (j ≠ i ∧ (s.strip j).role = .follower) := by
    refine State.membersWithRole_of members fun j => ?_
    by_cases here : j = i
    · subst here
      simp
    · rw [State.strip_setStrip_ne _ _ here, strip j]
      simp [here]
  unfold State.endActivity activityEnds
  rw [record, ← hands]
  simp only [strip]
  exact congrArg (fun js => { t.setStrip i { s.strip i with role := .outside } with
    inFlight := (t.setStrip i { s.strip i with role := .outside }).inFlight ++ js.map Instr.gangEnd }) followers

/-- Leadership passed on, where what the departing strip does leaves the other contexts and the member list alone. -/
theorem State.handOver_eq {s : State} {g : GangId} {a : Activity} {i new : StripId} {oldLeader : Nat → Ctx → Ctx}
    {old : State → Nat → State} (trims : (s.strip new).role = .trimming)
    (does : ∀ v : State, (∀ j, j ≠ new → v.strip j = s.strip j) → v.runStrip i (oldLeader (s.strip new).p) = old v (s.strip new).p) :
    s.handOver g a i new oldLeader = leadershipPasses s g a i new old := by
  have record := (s.setGang g { s.gang g with activity := some { leader := new, pL := (s.strip new).p, handovers := a.handovers + 1 } }).handRecord_setStrip
    (.gang g new .leader) new { s.strip new with role := .leader, v := (s.strip new).p, freeze := false }
  obtain ⟨t, hands⟩ : ∃ t, t = (s.setGang g { s.gang g with
    activity := some { leader := new, pL := (s.strip new).p, handovers := a.handovers + 1 } }).handRecord (.gang g new .leader) := ⟨_, rfl⟩
  have strip : ∀ j, t.strip j = s.strip j := fun j => by rw [hands, State.strip_handRecord]; rfl
  have members : (t.gang g).members = (s.gang g).members := by
    rw [hands, State.gang_handRecord, State.gang_setGang_self]
  obtain ⟨u, leads⟩ : ∃ u, u = t.setStrip new { s.strip new with role := .leader, v := (s.strip new).p, freeze := false } := ⟨_, rfl⟩
  have others : ∀ j, j ≠ new → u.strip j = s.strip j := fun j other => by
    rw [leads, State.strip_setStrip_ne _ _ other, strip j]
  have followers : ((u.runStrip i (oldLeader (s.strip new).p)).membersWithRole g .follower).filter (· ≠ i) =
      (s.gang g).members.filter fun j => decide (j ≠ i ∧ (s.strip j).role = .follower) := by
    have gang : ((u.runStrip i (oldLeader (s.strip new).p)).gang g).members = (s.gang g).members := by
      rw [State.gang, State.runStrip_gangs, leads]
      exact members
    rw [State.membersWithRole, gang, List.filter_filter]
    refine List.filter_congr fun j _ => ?_
    by_cases departs : j = i
    · simp [departs]
    · rw [State.strip_runStrip_ne _ _ departs]
      by_cases here : j = new
      · subst here
        rw [leads]
        simp [departs, trims]
      · rw [others j here]
        simp [departs]
  have tells := congrArg (fun js => { u.runStrip i (oldLeader (s.strip new).p) with
    inFlight := (u.runStrip i (oldLeader (s.strip new).p)).inFlight ++ js.map (fun j => Instr.reOffset j (s.strip new).p) }) followers
  have hands_over := congrArg (fun u : State => (u.runStrip i (oldLeader (s.strip new).p)).deliverAll
    (((u.runStrip i (oldLeader (s.strip new).p)).membersWithRole g .follower).filter (· ≠ i))
    (fun j => Instr.reOffset j (s.strip new).p))
    (show t.setStrip new { t.strip new with role := .leader, v := (s.strip new).p, freeze := false } = u by rw [leads, strip new])
  have passes := congrArg (fun u : State => { old u (s.strip new).p with inFlight := (old u (s.strip new).p).inFlight ++
    ((s.gang g).members.filter fun j => decide (j ≠ i ∧ (s.strip j).role = Role.follower)).map (fun j => Instr.reOffset j (s.strip new).p) })
    (record.trans (show _ = u by rw [leads, hands]))
  rw [hands] at hands_over
  refine (hands_over.trans (tells.trans ?_)).trans passes.symm
  rw [does u others]

theorem State.trimmers_eq (s : State) (g : GangId) : s.membersWithRole g .trimming = trimmers s g := rfl

/-- A leader's departure by a command (R97). -/
theorem State.leaderDeparts_eq {s : State} {g : GangId} {a : Activity} {i : StripId} (leads : (s.strip i).role = .leader)
    (gang : (s.strip i).gang = some g) (activity : (s.gang g).activity = some a) :
    s.leaderDeparts i = leaderDeparted s g a i := by
  rw [State.leaderDeparts, leads, gang]
  simp only [activity, State.trimmers_eq, leaderDeparted]
  cases first : trimmers s g with
  | nil => exact s.endActivity_eq g i
  | cons new others =>
    have trims : (s.strip new).role = .trimming := by
      have mem : new ∈ trimmers s g := first ▸ List.mem_cons_self
      exact of_decide_eq_true (List.mem_filter.mp mem).2
    exact State.handOver_eq trims fun v _ => rfl

/-- The answer to the Cell Sweep and a leader's departure do not meet. -/
theorem leaderDeparted_answer (s : State) (g : GangId) (a : Activity) (i : StripId) (o : Outcome) (r : Word) :
    leaderDeparted (s.answer o r) g a i = (leaderDeparted s g a i).answer o r := by
  have same : trimmers (s.answer o r) g = trimmers s g := rfl
  unfold leaderDeparted
  rw [same]
  cases trimmers s g with
  | nil =>
    have record := ((s.setGang g { s.gang g with activity := none }).setStrip i { s.strip i with role := .outside }).handRecord_answer
      (.gang g i .ended) o r
    exact congrArg (fun w : State => { w with inFlight := w.inFlight ++
      ((s.gang g).members.filter fun j => decide (j ≠ i ∧ (s.strip j).role = Role.follower)).map Instr.gangEnd }) record
  | cons new others =>
    have record := ((s.setGang g { s.gang g with
        activity := some { leader := new, pL := (s.strip new).p, handovers := a.handovers + 1 } }).setStrip new
      { s.strip new with role := .leader, v := (s.strip new).p, freeze := false }).handRecord_answer (.gang g new .leader) o r
    exact congrArg (fun w : State => { w.setStrip i { w.strip i with role := .outside } with inFlight := w.inFlight ++
      ((s.gang g).members.filter fun j => decide (j ≠ i ∧ (s.strip j).role = Role.follower)).map (fun j => Instr.reOffset j (s.strip new).p) }) record

end Sys2Proof.Machine
end

section
/-!
SUPPORT. CLEAR_STALL, STRIP_OFF and STRIP_ON (R44, R52, R53), and SCENE with its entries (R66 to R68).
-/
namespace Sys2Proof.Machine

/-! ### CLEAR_STALL (R44) -/

section
variable {n : Nat} {c : Ctx}

theorem Ctx.clearStall_of_stalled (below : c.id.val < n) (stalled : c.strip.state = .stalled) :
    let y := { c.strip with state := if c.strip.touch then .touched else .idle }
    let r := if c.strip.touch then (y, []) else startChecked y
    c.clearStall n = ({ c with strip := r.1, out := c.out ++ r.2 }, .done) := by
  refine (if_neg (Nat.not_le.mpr below)).trans ((if_pos stalled).trans (congrArg (·, Outcome.done) ?_))
  by_cases hand : c.strip.touch = true
  · rw [if_pos hand, Ctx.startRule_of_ne_idle]
    · simp [Ctx.update, hand]
    · simp [Ctx.update, hand]
  · rw [if_neg hand, Ctx.startRule_of_idle]
    · rfl
    · simp [Ctx.update, hand]

/-! ### STRIP_OFF (R52) -/

/-- Leaving the activity field by field (R98): role, follower target and freeze flag. -/
theorem outOfActivity_eq (x : Strip) : outOfActivity x = { x with
    role := if x.role = .follower ∨ x.role = .trimming then .outside else x.role
    followTarget := if x.role = .follower ∨ x.role = .trimming then none else x.followTarget
    freeze := if x.role = .follower ∨ x.role = .trimming then false else x.freeze } := by
  unfold outOfActivity
  split <;> rfl

/-- A strip turned OFF: its run and its entries flushed and counted, its grant and its activity given up. -/
def offStrip (x : Strip) : Strip :=
  { outOfActivity (flushedStrip x) with
    state := .off, calRun := none, touch := false, relatch := false, trail := [], trailStep := 0, settleCount := 0
    settleTime := 0, stallCount := 0, grantHeld := if x.state.driving then false else x.grantHeld
    flushed := x.flushed + BitVec.ofNat 16 (x.queue.length + (if x.current = none then 0 else 1) +
      (if x.calRun = none then 0 else 1)) }

/-- What STRIP_OFF does beside the context: the FINISH records, then drive and grant, or the request, given up. -/
def offEffects (i : StripId) (x : Strip) : List Effect :=
  (x.calRun.toList.map fun r => Effect.record (.finish i .flushed r.tag .cell x.p)) ++ flushEffects i x ++
    (if x.state.driving then [.drive 0, .giveBack] else if x.state.isWaiting then [.withdraw] else [])

theorem Ctx.stripOff_of_on (below : c.id.val < n) (on : c.strip.state ≠ .off) : c.stripOff n =
    ({ c with strip := offStrip c.strip, out := c.out ++ offEffects c.id c.strip }, .done) := by
  obtain ⟨i, x, out⟩ := c
  refine (if_neg (Nat.not_le.mpr below)).trans ((if_neg on).trans (congrArg (·, Outcome.done) ?_))
  have count : x.flushed + (if x.calRun = none then 0 else 1) +
      BitVec.ofNat 16 (x.queue.length + (if x.current = none then 0 else 1)) = x.flushed + BitVec.ofNat 16
        (x.queue.length + (if x.current = none then 0 else 1) + (if x.calRun = none then 0 else 1)) := by
    rw [BitVec.add_assoc, BitVec.add_comm (if x.calRun = none then (0 : Half) else 1), BitVec.ofNat_add (_ + _),
      show BitVec.ofNat 16 (if x.calRun = none then 0 else 1) = if x.calRun = none then 0 else 1 by split <;> rfl]
  rw [Ctx.endRun_flushed, Ctx.flush_eq, Ctx.letGo_eq]
  simp only [Ctx.update, Strip.leaveActivity_eq, List.append_assoc]
  simp only [offStrip, offEffects, outOfActivity_eq, ← count, List.append_assoc]
  rfl

end

theorem offStrip_leader {x : Strip} (leads : x.role = .leader) : (offStrip x).role = .leader ∧ (offStrip x).gang = x.gang := by
  have role : (flushedStrip x).role = .leader := leads
  rw [offStrip, outOfActivity_eq]
  exact ⟨by simp [role], rfl⟩

theorem offStrip_outside {x : Strip} (follows : x.role ≠ .leader) : (offStrip x).role = .outside := by
  have role : (flushedStrip x).role = x.role := rfl
  rw [offStrip, outOfActivity_eq]
  cases member : x.role with
  | leader => exact absurd member follows
  | outside => simp [role, member]
  | follower => simp [role, member]
  | trimming => simp [role, member]

/-- A leader's departure after its command's effects and answer (R97). -/
theorem State.leaderDeparts_answer {v : State} {g : GangId} {a : Activity} {i : StripId} (leads : (v.strip i).role = .leader)
    (gang : (v.strip i).gang = some g) (activity : (v.gang g).activity = some a) (o : Outcome) (r : Word) :
    (v.answer o r).leaderDeparts i = (leaderDeparted v g a i).answer o r :=
  (State.leaderDeparts_eq (s := v.answer o r) leads gang activity).trans (leaderDeparted_answer v g a i o r)

section
variable {s : State} {i : StripId}

/-- STRIP_OFF of a strip in service: its own work, then a leader's departure. -/
theorem State.stripOff_of_on (below : i.val < s.stripCount) (on : (s.strip i).state ≠ .off) : s.stripOff i =
    let t := ((s.setStrip i (offStrip (s.strip i))).effects i (offEffects i (s.strip i))).answer .done 0
    if (s.strip i).role = .leader then t.leaderDeparts i else t := by
  have command := State.runCommand_of_eq (Ctx.stripOff_of_on (c := s.contextAt i) below on)
  unfold State.stripOff
  rw [command]
  exact ite_congr (propext (by simp [on, State.answer])) (fun _ => rfl) fun _ => rfl

theorem offEffects_drive (x : Strip) (u : Int) (mem : Effect.drive u ∈ offEffects i x) : u = 0 := by
  simp only [offEffects, flushEffects, finishOf, List.mem_append, List.mem_map] at mem
  obtain (⟨_, _, e⟩ | ⟨_, _, e⟩ | ⟨_, _, e⟩) | mem := mem
  · cases e
  · cases e
  · cases e
  · split at mem
    · simpa using mem
    · split at mem <;> simp at mem

theorem offEffects_cause (x : Strip) (c : Cause) : Effect.cause c ∉ offEffects i x := by
  intro mem
  simp only [offEffects, flushEffects, finishOf, List.mem_append, List.mem_map] at mem
  obtain (⟨_, _, e⟩ | ⟨_, _, e⟩ | ⟨_, _, e⟩) | mem := mem
  · cases e
  · cases e
  · cases e
  · split at mem
    · simp at mem
    · split at mem <;> simp at mem

/-- What a strip gives up on leaving a driving or a waiting state stands among its last effects. -/
theorem mem_offEffects (x : Strip) : (x.state.driving = true → Effect.drive 0 ∈ offEffects i x ∧ .giveBack ∈ offEffects i x) ∧
    (x.state.isWaiting = true → .withdraw ∈ offEffects i x) := by
  refine ⟨fun driving => ?_, fun waits => ?_⟩
  · simp [offEffects, driving]
  · have still : x.state.driving = false := by
      cases state : x.state <;> simp_all [StripState.driving, StripState.isWaiting]
    simp [offEffects, waits, still]

end

theorem State.stripOff_of_refused {s : State} {i : StripId} {o : Outcome} (stays : o ≠ .done ∨ (s.strip i).state = .off)
    (refused : (s.contextAt i).stripOff s.stripCount = (s.contextAt i, o)) : s.stripOff i = s.answer o 0 := by
  unfold State.stripOff
  rw [State.runCommand_of_refused refused]
  refine if_neg fun ⟨_, on, done⟩ => ?_
  exact stays.elim (fun k => k (Option.some.inj done)) on

theorem State.stripOn_of_refused {s : State} {i : StripId} {o : Outcome} (stays : s.stripCount ≤ i.val ∨ (s.strip i).state ≠ .off)
    (refused : (s.contextAt i).stripOn s.stripCount = (s.contextAt i, o)) : s.stripOn i = s.answer o 0 := by
  unfold State.stripOn
  rw [State.runCommand_of_refused refused]
  exact if_neg fun ⟨below, off⟩ => stays.elim (Nat.not_le.mpr below) fun on => on off

/-- Settles O31: the three commands above n, CLEAR_STALL and STRIP_ON by the strip's state, and STRIP_OFF with a leader's
departure. -/
theorem stallAndServiceCommands : Obligations.StallAndServiceCommands := by
  intro s i
  refine ⟨fun above => ⟨congrArg Host.Outcome.next (State.runCommand_of_refused (if_pos above)),
      congrArg Host.Outcome.next (State.stripOff_of_refused (.inl (by decide)) (if_pos above)),
      congrArg Host.Outcome.next (State.stripOn_of_refused (.inl above) (if_pos above))⟩,
    fun below works => congrArg Host.Outcome.next (State.runCommand_of_refused
      ((if_neg (Nat.not_le.mpr below)).trans (if_neg works))),
    fun below stalled => congrArg Host.Outcome.next
      (State.runCommand_of_eq (Ctx.clearStall_of_stalled (c := s.contextAt i) below stalled)),
    fun below off => congrArg Host.Outcome.next (State.stripOff_of_refused (.inr off)
      ((if_neg (Nat.not_le.mpr below)).trans (if_pos off))),
    fun below on => congrArg Host.Outcome.next (State.stripOn_of_refused (.inr on)
      ((if_neg (Nat.not_le.mpr below)).trans (if_neg on))),
    fun below off => ?_, fun below on => ⟨fun follows => ?_, fun g a leads gang activity => ?_⟩, fun below on follows => ?_⟩
  · have command := State.runCommand_of_eq (f := Ctx.stripOn s.stripCount) (o := .done)
      ((if_neg (Nat.not_le.mpr below)).trans (if_pos off))
    refine congrArg Host.Outcome.next ((if_pos ⟨below, off⟩).trans ?_)
    rw [command]
    rfl
  · exact congrArg Host.Outcome.next ((State.stripOff_of_on below on).trans (if_neg follows))
  · refine congrArg Host.Outcome.next ((State.stripOff_of_on below on).trans ((if_pos leads).trans ?_))
    obtain ⟨role, same⟩ := offStrip_leader leads
    exact State.leaderDeparts_answer (by simpa using role) (by simpa [same] using gang) (by simpa using activity) _ _
  · have runs : exec (.stripOff i) s = .next _ :=
      congrArg Host.Outcome.next ((State.stripOff_of_on below on).trans (if_neg follows))
    obtain ⟨t, gives, strips, drive, sent, frame⟩ : ∃ t, (s.setStrip i (offStrip (s.strip i))).effects i
          (offEffects i (s.strip i)) = t ∧ (∀ j, t.strip j = (s.setStrip i (offStrip (s.strip i))).strip j) ∧
        (Effect.drive 0 ∈ offEffects i (s.strip i) → t.drive i = 0) ∧
        (∀ e ∈ offEffects i (s.strip i), ∀ ev, e.event i = some ev → ev ∈ t.inFlight) ∧
        t = { s with strips := t.strips, writer := t.writer, inFlight := t.inFlight, motors := t.motors } := by
      have attention := State.attention_effects (s := s.setStrip i (offStrip (s.strip i))) (i := i)
        (offEffects_cause (i := i) (s.strip i))
      refine ⟨_, rfl, State.strip_effects _ _ _, fun mem => State.drive_effects_zero (offEffects_drive _) (.inl mem),
        fun e mem ev event => State.mem_effects_inFlight mem event, ?_⟩
      obtain ⟨t, eq, frame⟩ := (s.setStrip i (offStrip (s.strip i))).effects_frame i (offEffects i (s.strip i))
      rw [eq] at attention ⊢
      rw [frame, attention]
      rfl
    have strip : t.strip i = offStrip (s.strip i) := (strips i).trans (State.strip_setStrip_self _ _ _)
    obtain ⟨drives, waits⟩ := mem_offEffects (i := i) (s.strip i)
    rw [gives] at runs
    refine ⟨_, runs, ?_⟩
    show (t.strip i).state = _ ∧ (t.strip i).cal = _ ∧ (t.strip i).current = _ ∧ (t.strip i).queue = _ ∧ (t.strip i).calRun = _ ∧
      (t.strip i).touch = _ ∧ (t.strip i).relatch = _ ∧ (t.strip i).trail = _ ∧ (t.strip i).streamTarget = _ ∧
      (t.strip i).role = _ ∧ (t.strip i).flushed = _ ∧ (_ → t.drive i = 0 ∧ (t.strip i).grantHeld = _ ∧ _ ∈ t.inFlight) ∧
      (_ → _ ∈ t.inFlight) ∧ (∀ j, j ≠ i → t.strip j = _) ∧ _
    rw [strip]
    refine ⟨rfl, by rw [offStrip, outOfActivity_eq]; rfl, by rw [offStrip, outOfActivity_eq]; rfl,
      by rw [offStrip, outOfActivity_eq]; rfl, rfl, rfl, rfl, rfl, by rw [offStrip, outOfActivity_eq]; rfl,
      offStrip_outside follows, ?_, fun driving => ⟨drive (drives driving).1, if_pos driving, sent _ (drives driving).2 _ rfl⟩,
      fun waiting => sent _ (waits waiting) _ rfl, fun j other => (strips j).trans (State.strip_setStrip_ne _ _ other), ?_⟩
    · cases run : (s.strip i).calRun <;> cases current : (s.strip i).current <;> simp [offStrip, run, current]
    · rw [State.answer, frame]

/-! ### SCENE (R66 to R68) -/

/-- One SCENE entry inside the command: the state after it, and the refused set with its strip where it was refused. -/
def sceneStep (a : SceneArgs) (acc : State × Word) (w : Word) : State × Word :=
  let t := acc.1.sceneEntry (entryStrip w) a.jump (sceneMove a w)
  (t, if t.sweep.outcome = some .done ∨ t.sweep.outcome = some .clamped then acc.2
    else acc.2 ||| 1#32 <<< (entryStrip w).val)

theorem State.sceneEntry_outcome (s : State) (i : StripId) (jump : Bool) (a : MoveArgs) :
    ∃ o, (s.sceneEntry i jump a).sweep.outcome = some o := ⟨_, rfl⟩

theorem Outcome.refuses_iff (o : Outcome) : o.refuses = true ↔ ¬ (o = .done ∨ o = .clamped) := by
  cases o <;> simp [Outcome.refuses]

/-- The entries of a SCENE taken one after another (R67, R68). -/
theorem State.sceneEntries_eq (a : SceneArgs) (ws : List Word) (acc : State × Word) :
    State.sceneEntries a ws acc = ws.foldl (sceneStep a) acc := by
  induction ws generalizing acc with
  | nil => rfl
  | cons w ws ih =>
    obtain ⟨s, refused⟩ := acc
    rw [List.foldl_cons, ← ih]
    obtain ⟨o, outcome⟩ := s.sceneEntry_outcome (entryStrip w) a.jump (sceneMove a w)
    refine congrArg (State.sceneEntries a ws) (Prod.ext rfl ?_)
    simp only [sceneStep, outcome, Option.some.injEq]
    by_cases taken : o = .done ∨ o = .clamped
    · exact (if_neg fun k => (o.refuses_iff.mp k) taken).trans (if_pos taken).symm
    · exact (if_pos (o.refuses_iff.mpr taken)).trans (if_neg taken).symm

/-- Settles O32: an empty SCENE, and the entries folded with the answer they give. -/
theorem sceneTakesEntriesInOrder : Obligations.SceneTakesEntriesInOrder := by
  intro s a entries
  refine ⟨fun none => congrArg Host.Outcome.next (if_pos none), fun some => congrArg Host.Outcome.next ((if_neg some).trans ?_)⟩
  have clamped : acceptedOutcome (countTaken a.count || decide (16383 < a.duration.toNat) ||
      (entries.take (entryCount a.count)).any fun w => decide (Config.travelTop < (highHalf w).toNat)) =
      if 32 < a.count.toNat ∨ 16383 < a.duration.toNat ∨ ∃ w ∈ entries.take (min 32 a.count.toNat), 4095 < (highHalf w).toNat
        then .clamped else .done := by
    simp only [acceptedOutcome, countTaken, Bool.or_eq_true, decide_eq_true_eq, List.any_eq_true, or_assoc]
    rfl
  refine (congrArg (fun r : State × Word => r.1.answer (if r.2 ≠ 0 then .partlyRefused else acceptedOutcome _) r.2)
    (State.sceneEntries_eq a _ (s, 0))).trans ?_
  rw [clamped]
  rfl

end Sys2Proof.Machine
end

section
/-!
SUPPORT. The hand and the gang at one context (chapter 4): a join (R91), the events to a follower (R92, R95, R96).
-/
namespace Sys2Proof.Machine

theorem followTargetOf_eq (v : Int) : followTargetOf v = (max 0 (min 4095 v)).toNat := rfl

/-! ### A join (R91) -/

/-- Entering gang activity: the current entry's GANGED finish, which no counter counts, and the queue frozen. -/
theorem Ctx.enterActivity_eq (c : Ctx) : c.enterActivity = { c with
    strip := { c.strip with current := none, restart := false, chainStart := none, freeze := true }
    out := c.out ++ currentFinish c.id .ganged c.strip } := by
  rw [Ctx.enterActivity, Ctx.finishCurrent_eq, Strip.currentFinished]
  split
  · next none => rw [Ctx.update, ← none]
  · rfl

section
variable {c : Ctx}

theorem Ctx.joinState_of_waits (waits : c.strip.state = .idle ∨ c.strip.state = .waiting .move ∨ c.strip.state = .waiting .stream) :
    c.joinState = c.await .follow c.strip.settings.priority := by
  unfold Ctx.joinState
  obtain waits | waits | waits := waits <;> rw [waits]

theorem Ctx.joinState_of_moving (moving : c.strip.state = .moving) : c.joinState = c.update fun x =>
    { x with state := .following, stallCount := 0, profile := { x.profile with set := false } } := by
  rw [Ctx.joinState, moving]

theorem Ctx.joinState_of_settling (settling : c.strip.state = .settling) : c.joinState = c.update fun x =>
    { x with
      state := .following, stallCount := 0, profile := { x.profile with set := false }, settleCount := 0, settleTime := 0 } := by
  rw [Ctx.joinState, settling]
  rfl

theorem Ctx.joinState_of_stays (stays : c.strip.state = .touched ∨ c.strip.state = .following ∨ c.strip.state = .waiting .follow) :
    c.joinState = c := by
  unfold Ctx.joinState
  obtain stays | stays | stays := stays <;> rw [stays]

end

/-- A strip that has entered its gang's activity under leader position `pL`, before the state change of R91. -/
def Strip.entered (x : Strip) (pL : Nat) : Strip :=
  { x with
    current := none, restart := false, chainStart := none, freeze := true, offset := x.v - pL
    followTarget := some (followTargetOf x.v), role := if x.touch then .trimming else .follower }

/-- The context a join finds once the activity is entered, before its state change. -/
def Ctx.entered (c : Ctx) (pL : Nat) : Ctx :=
  { c with
    strip := { c.strip with
      current := none, restart := false, chainStart := none, freeze := true, offset := c.strip.v - pL
      followTarget := some (followTargetOf c.strip.v) }
    out := c.out ++ currentFinish c.id .ganged c.strip }

theorem Ctx.join_of_state {c d : Ctx} {pL : Nat} (state : (c.entered pL).joinState = d) :
    c.join pL = d.update fun x => { x with role := if x.touch then .trimming else .follower } := by
  subst state
  unfold Ctx.join
  rw [Ctx.enterActivity_eq]
  rfl

theorem StripState.rows_of_takes {q : StripState} (takes : q.excluded = false) :
    (q = .idle ∨ q = .waiting .move ∨ q = .waiting .stream) ∨ q = .moving ∨ q = .settling ∨
      (q = .touched ∨ q = .following ∨ q = .waiting .follow) := by
  revert takes
  cases q with
  | waiting w => cases w <;> simp [StripState.excluded]
  | _ => simp [StripState.excluded]

/-- A join at a member that takes part (R91): what it changes of the motion, by the strip's state, and the request of a strip that
waits to follow. -/
theorem Ctx.join_eq (c : Ctx) (pL : Nat) (takes : c.strip.state.excluded = false) : ∃ state profile stall settle time,
    c.join pL = { c with
      strip := { c.strip.entered pL with
        state := state, profile := profile, stallCount := stall, settleCount := settle, settleTime := time }
      out := c.out ++ (currentFinish c.id .ganged c.strip ++
        if c.strip.state = .idle ∨ c.strip.state = .waiting .move ∨ c.strip.state = .waiting .stream then
          [.request c.strip.settings.priority] else []) } ∧
    (c.strip.state = .idle ∨ c.strip.state = .waiting .move ∨ c.strip.state = .waiting .stream → state = .waiting .follow) ∧
    (c.strip.state = .moving ∨ c.strip.state = .settling → state = .following ∧ profile.set = false ∧ stall = 0) ∧
    (c.strip.state = .settling → settle = 0 ∧ time = 0) ∧
    (c.strip.state = .touched ∨ c.strip.state = .following ∨ c.strip.state = .waiting .follow → state = c.strip.state) := by
  have quiet : ¬ (c.strip.state = .idle ∨ c.strip.state = .waiting .move ∨ c.strip.state = .waiting .stream) →
      c.out ++ (currentFinish c.id .ganged c.strip ++ if c.strip.state = .idle ∨ c.strip.state = .waiting .move ∨
        c.strip.state = .waiting .stream then [Effect.request c.strip.settings.priority] else []) =
      c.out ++ currentFinish c.id .ganged c.strip := fun stays => by rw [if_neg stays, List.append_nil]
  obtain waits | moving | settling | stays := StripState.rows_of_takes takes
  · rw [if_pos waits, ← List.append_assoc]
    refine ⟨_, _, _, _, _, Ctx.join_of_state (Ctx.joinState_of_waits (c := c.entered pL) waits), fun _ => rfl, ?_⟩
    obtain k | k | k := waits <;> simp [k]
  · rw [quiet (by simp [moving])]
    exact ⟨_, _, _, _, _, Ctx.join_of_state (Ctx.joinState_of_moving (c := c.entered pL) moving), by simp [moving],
      fun _ => ⟨rfl, rfl, rfl⟩, by simp [moving], by simp [moving]⟩
  · rw [quiet (by simp [settling])]
    exact ⟨_, _, _, _, _, Ctx.join_of_state (Ctx.joinState_of_settling (c := c.entered pL) settling), by simp [settling],
      fun _ => ⟨rfl, rfl, rfl⟩, fun _ => ⟨rfl, rfl⟩, by simp [settling]⟩
  · rw [quiet (by obtain k | k | k := stays <;> simp [k])]
    refine ⟨_, _, _, _, _, Ctx.join_of_state (Ctx.joinState_of_stays (c := c.entered pL) stays), ?_⟩
    obtain k | k | k := stays <;> simp [k, Ctx.entered]

theorem StripState.excluded_iff (q : StripState) : q.excluded = false ↔
    q ≠ .off ∧ q ≠ .uncal ∧ q ≠ .stalled ∧ q ≠ .calibrating ∧ q ≠ .waiting .calibrate := by
  cases q with
  | waiting w => cases w <;> simp [StripState.excluded]
  | _ => simp [StripState.excluded]

/-- An event taken at a context whose effects are records and events to the arbiter. -/
theorem State.runStrip_of_records {s : State} {i : StripId} {f : Ctx → Ctx} {z : Strip} {es : List Effect}
    (gives : f (s.contextAt i) = { id := i, strip := z, out := es }) (drives : ∀ u, Effect.drive u ∉ es)
    (causes : ∀ c, Effect.cause c ∉ es) : ∃ t, s.runStrip i f = t ∧ t = (s.setStrip i z).effects i es ∧ t.strip i = z ∧
      (∀ k, k ≠ i → t.strip k = s.strip k) ∧ (∀ e ∈ es, ∀ ev, e.event i = some ev → ev ∈ t.inFlight) ∧
      t = { s with strips := t.strips, writer := t.writer, inFlight := t.inFlight } := by
  obtain ⟨t, eq, frame⟩ := (s.setStrip i z).effects_frame i es
  have motors := (s.setStrip i z).motors_effects (i := i) drives
  have attention := (s.setStrip i z).attention_effects (i := i) causes
  have strips := (s.setStrip i z).strip_effects i es
  have sent : ∀ e ∈ es, ∀ ev, e.event i = some ev → ev ∈ ((s.setStrip i z).effects i es).inFlight :=
    fun e mem ev event => State.mem_effects_inFlight mem event
  rw [eq] at motors attention strips sent
  refine ⟨t, (State.runStrip_of_eq gives).trans eq, eq.symm, (strips i).trans (State.strip_setStrip_self _ _ _),
    fun k other => (strips k).trans (State.strip_setStrip_ne _ _ other), sent, ?_⟩
  rw [frame, motors, attention]
  rfl

/-- A strip's finish is a record. -/
theorem mem_currentFinish {i : StripId} {k : FinishKind} {x : Strip} {e : Effect} (mem : e ∈ currentFinish i k x) :
    ∃ r, e = .record r := by
  obtain ⟨q, -, rfl⟩ := List.mem_map.mp mem
  exact ⟨_, rfl⟩

/-- Settles O22: a join without effect, and one taken, by what it changes of the strip. -/
theorem gangJoinMakesFollower : Obligations.GangJoinMakesFollower := by
  intro s i j x live
  have takes_part : live ↔ (s.gang j.gang).activity ≠ none ∧ ¬ ((s.gang j.gang).serial ≠ j.serial ∨ x.role = .trimming ∨
      x.role = .leader ∨ x.state.excluded = true) := by
    simp only [live, ← StripState.excluded_iff, not_or, Classical.not_not, ne_eq, Bool.not_eq_true]
  refine ⟨fun out => congrArg Host.Outcome.next ?_, fun on => ?_⟩
  · unfold State.gangJoin
    cases activity : ((s.take (.gangJoin i j)).gang j.gang).activity with
    | none => rfl
    | some a =>
      refine if_pos (Classical.byContradiction fun held => out (takes_part.mpr ⟨?_, held⟩))
      rw [show (s.gang j.gang).activity = some a from activity]
      nofun
  · obtain ⟨active, held⟩ := takes_part.mp on
    obtain ⟨a, activity⟩ := Option.ne_none_iff_exists'.mp active
    have joins : (s.take (.gangJoin i j)).gangJoin i j = (s.take (.gangJoin i j)).runStrip i
        (Ctx.join (if a.handovers = j.handovers then j.pL else a.pL)) := by
      unfold State.gangJoin
      rw [show ((s.take (.gangJoin i j)).gang j.gang).activity = some a from activity]
      exact if_neg held
    obtain ⟨state, profile, stall, settle, time, join, waits, moves, settles, stays⟩ :=
      ((s.take (.gangJoin i j)).contextAt i).join_eq (if a.handovers = j.handovers then j.pL else a.pL)
        (Bool.eq_false_iff.mpr fun k => held (.inr (.inr (.inr k))))
    have plain : ∀ e ∈ currentFinish i .ganged x ++ (if x.state = .idle ∨ x.state = .waiting .move ∨ x.state = .waiting .stream then
        [Effect.request x.settings.priority] else []), (∀ u, e ≠ .drive u) ∧ ∀ c, e ≠ .cause c := by
      intro e mem
      obtain mem | mem := List.mem_append.mp mem
      · obtain ⟨r, rfl⟩ := mem_currentFinish mem
        exact ⟨nofun, nofun⟩
      · split at mem
        · obtain rfl := List.mem_singleton.mp mem
          exact ⟨nofun, nofun⟩
        · exact absurd mem List.not_mem_nil
    obtain ⟨t, runs, whole, strip, others, sent, frame⟩ := State.runStrip_of_records join (fun u mem => (plain _ mem).1 u rfl)
      (fun c mem => (plain _ mem).2 c rfl)
    refine ⟨t, a, congrArg Host.Outcome.next (joins.trans runs), activity, ?_⟩
    rw [strip]
    refine ⟨rfl, rfl, rfl, rfl, rfl, rfl, rfl, rfl, rfl, fun k => ⟨waits k, sent (.request x.settings.priority) ?_ _ rfl⟩, moves,
      settles, stays, whole, others, frame⟩
    have asks : Effect.request x.settings.priority ∈ (if x.state = .idle ∨ x.state = .waiting .move ∨ x.state = .waiting .stream then
        [Effect.request x.settings.priority] else []) := by
      rw [if_pos k]
      exact List.mem_singleton_self _
    exact List.mem_append_right _ (List.mem_append_right _ asks)

/-! ### The end of an activity at a follower (R96) -/

/-- A strip that has left the activity by the Gang Table's word: role, follower target and freeze flag. -/
def Strip.released (x : Strip) : Strip := { x with role := .outside, followTarget := none, freeze := false }

section
variable {c : Ctx}

theorem Ctx.activityEnded_of_following (follows : c.strip.state = .following) : c.activityEnded = c.update fun x =>
    { x.released with
      settleCount := 0, settleTime := 0, state := .settling
      profile := { x.profile with guide := x.followTarget.getD x.profile.guide } } := by
  rw [Ctx.activityEnded, follows]
  rfl

theorem Ctx.activityEnded_of_waits (waits : c.strip.state = .waiting .follow) : c.activityEnded =
    ((c.emit .withdraw).update fun x => { x.released with state := .idle }).startRule := by
  rw [Ctx.activityEnded, waits]
  rfl

theorem Ctx.activityEnded_of_other (other : c.strip.state ≠ .following) (rests : c.strip.state ≠ .waiting .follow) :
    c.activityEnded = (c.update Strip.released).startRule := by
  unfold Ctx.activityEnded
  split
  · next follows => exact absurd follows other
  · next waits => exact absurd waits rests
  · rfl

end

section
variable {s : State} {i : StripId} {d : Ctx}

/-- An end event at a follower: its context as it leaves it, and its effects. -/
theorem exec_gangEnd (follows : (s.strip i).role = .follower) (ends : (s.contextAt i).activityEnded = d) :
    exec (.gangEnd i) s = .next (((s.take (.gangEnd i)).setStrip i d.strip).effects i d.out) :=
  congrArg Host.Outcome.next ((if_pos follows).trans (State.runStrip_of_eq (s := s.take (.gangEnd i)) ends))

/-- The events to a follower (R92, R95, R96), and those that find no follower. -/
theorem followerEvents (s : State) (i : StripId) (pL : Nat) :
    let x := s.strip i
    let v := max (-4095) (min 8190 ((pL : Int) + x.offset))
    (x.role = .follower →
      exec (.followUpdate i pL) s = .next { s with
        inFlight := s.inFlight.erase (.followUpdate i pL)
        strips := s.strips.set i { x with v := v, followTarget := some (max 0 (min 4095 v)).toNat } } ∧
      exec (.reOffset i pL) s = .next { s with
        inFlight := s.inFlight.erase (.reOffset i pL), strips := s.strips.set i { x with offset := x.v - pL } }) ∧
    (x.role ≠ .follower →
      exec (.followUpdate i pL) s = .next { s with inFlight := s.inFlight.erase (.followUpdate i pL) } ∧
      exec (.reOffset i pL) s = .next { s with inFlight := s.inFlight.erase (.reOffset i pL) } ∧
      exec (.gangEnd i) s = .next { s with inFlight := s.inFlight.erase (.gangEnd i) }) :=
  ⟨fun follows => ⟨congrArg Host.Outcome.next (if_pos follows), congrArg Host.Outcome.next (if_pos follows)⟩,
    fun other => ⟨congrArg Host.Outcome.next (if_neg other), congrArg Host.Outcome.next (if_neg other),
      congrArg Host.Outcome.next (if_neg other)⟩⟩

/-- A follower waiting to follow at the end of the activity, by whether an entry may start. -/
theorem exec_gangEnd_of_waits (follows : (s.strip i).role = .follower) (waits : (s.strip i).state = .waiting .follow) :
    let x := s.strip i
    (∀ e rest, x.queue = e :: rest → x.current = none → exec (.gangEnd i) s = .next { s with
        inFlight := s.inFlight.erase (.gangEnd i) ++ [.grantWithdrawal i, .grantRequest i e.priority]
        strips := s.strips.set i { x with
          state := .waiting .move, role := .outside, followTarget := none, freeze := false, queue := rest
          current := some e, restart := false } }) ∧
    (x.queue = [] ∨ x.current ≠ none → exec (.gangEnd i) s = .next { s with
        inFlight := s.inFlight.erase (.gangEnd i) ++ [.grantWithdrawal i]
        strips := s.strips.set i { x with state := .idle, role := .outside, followTarget := none, freeze := false } }) := by
  have ends := Ctx.activityEnded_of_waits (c := s.contextAt i) waits
  refine ⟨fun e rest queue free => ?_, fun rests => ?_⟩
  · have runs := exec_gangEnd follows (ends.trans (Ctx.startRule_of_queued rfl queue free rfl))
    refine runs.trans (congrArg Host.Outcome.next ?_)
    have events := (List.append_assoc (s.inFlight.erase (.gangEnd i)) [.grantWithdrawal i] [.grantRequest i e.priority])
    exact congrArg (fun l => { (s.setStrip i { s.strip i with
      state := .waiting .move, role := .outside, followTarget := none, freeze := false, queue := rest
      current := some e, restart := false }) with inFlight := l }) events
  · exact exec_gangEnd follows (ends.trans (Ctx.startRule_of_rests (rests.imp_right .inl)))

theorem exec_gangEnd_of_other (follows : (s.strip i).role = .follower) (moves : (s.strip i).state ≠ .following)
    (rests : (s.strip i).state ≠ .waiting .follow) :
    let left := (s.strip i).released
    let r := if (s.strip i).state = .idle then startChecked left else (left, [])
    exec (.gangEnd i) s = .next (((s.take (.gangEnd i)).setStrip i r.1).effects i r.2) := by
  have ends := Ctx.activityEnded_of_other (c := s.contextAt i) moves rests
  by_cases idle : (s.strip i).state = .idle
  · simp only [if_pos idle]
    exact exec_gangEnd follows (ends.trans (Ctx.startRule_of_idle idle))
  · simp only [if_neg idle]
    exact exec_gangEnd follows (ends.trans (Ctx.startRule_of_ne_idle idle))

end

end Sys2Proof.Machine
end

section
/-!
SUPPORT. A touch-on (R77, R78) at a context, and what it starts in a gang (R90, R93).
-/
namespace Sys2Proof.Machine

/-! ### Effects, and the strip they leave alone -/

theorem State.effect_setStrip (s : State) (i k : StripId) (x : Strip) (e : Effect) :
    (s.setStrip i x).effect k e = (s.effect k e).setStrip i x := by
  cases e with
  | record r => exact s.handRecord_setStrip r i x
  | drive u => rfl
  | request p => rfl
  | withdraw => rfl
  | giveBack => rfl
  | cause c => rfl

theorem State.effects_setStrip (s : State) (i k : StripId) (x : Strip) (es : List Effect) :
    (s.setStrip i x).effects k es = (s.effects k es).setStrip i x := by
  induction es generalizing s with
  | nil => rfl
  | cons e es ih => exact (congrArg (·.effects k es) (s.effect_setStrip i k x e)).trans (ih (s.effect k e))

theorem State.setStrip_setStrip (s : State) (i : StripId) (x y : Strip) : (s.setStrip i x).setStrip i y = s.setStrip i y := by
  simp [State.setStrip]

/-- A strip whose fields are changed again once its effects are made. -/
theorem State.setStrip_effects_setStrip (s : State) (i : StripId) (x y : Strip) (es : List Effect) :
    ((s.setStrip i x).effects i es).setStrip i y = (s.setStrip i y).effects i es := by
  rw [← State.effects_setStrip, State.setStrip_setStrip]

/-- Two events taken at one context, one after the other. -/
theorem State.runStrip_runStrip {s : State} {i : StripId} {f g : Ctx → Ctx} {x y : Strip} {es fs : List Effect}
    (first : f (s.contextAt i) = { id := i, strip := x, out := es })
    (second : g { id := i, strip := x, out := [] } = { id := i, strip := y, out := fs }) :
    (s.runStrip i f).runStrip i g = (s.setStrip i y).effects i (es ++ fs) := by
  rw [State.runStrip_of_eq first]
  have strip : ((s.setStrip i x).effects i es).contextAt i = { id := i, strip := x, out := [] } := by
    simp [State.contextAt]
  rw [State.runStrip_of_eq (strip ▸ second), State.setStrip_effects_setStrip, State.effects_append]

/-- The activity queue after a record depends on nothing that a context's own change touches. -/
theorem State.writer_handRecord (s : State) (r : Rec) (strips : Vector Strip 32) (flight : List Instr) :
    (({ s with strips := strips, inFlight := flight } : State).handRecord r).writer = (s.handRecord r).writer := by
  unfold State.handRecord
  by_cases idle : s.writer.state ≠ .seeking
  · exact (congrArg State.writer (if_pos idle)).trans (by rw [if_pos idle])
  · refine (congrArg State.writer (if_neg idle)).trans ?_
    rw [if_neg idle]
    by_cases serving : s.part.state ≠ .stopping
    · exact (congrArg State.writer (if_pos serving)).trans (by rw [if_pos serving]; rfl)
    · refine (congrArg State.writer (if_neg serving)).trans ?_
      rw [if_neg serving]
      by_cases obtains : s.part.stop = .handing ∧ s.writer.deadSeek = false ∧ isFZ ({ s with
          writer := s.writer.hand (s.part.state = .stopping) { record := r, time := s.part.time } } : State).pageOwner
      · exact (congrArg State.writer (if_pos obtains)).trans (by rw [if_pos obtains])
      · exact (congrArg State.writer (if_neg obtains)).trans (by rw [if_neg obtains])

/-! ### Touch-on at the context (R77, R78) -/

/-- Whether a touch-on ends a calibration. -/
def Strip.calibrationEnds (x : Strip) : Prop := x.state = .calibrating ∨ x.state = .waiting .calibrate

/-- A touch-on that ends no calibration. -/
theorem Ctx.touchOn_eq {c : Ctx} (on : c.strip.state ≠ .off) (phase : c.strip.state ≠ .calibrating)
    (wait : c.strip.state ≠ .waiting .calibrate) :
    c.touchOn = { c with strip := touchedStrip c.strip, out := c.out ++ touchEffects c.id c.strip } := by
  obtain ⟨i, x, out⟩ := c
  unfold Ctx.touchOn Ctx.touchState
  cases state : x.state with
  | off => exact absurd state on
  | calibrating => exact absurd state phase
  | waiting w =>
    cases w with
    | calibrate => exact absurd state wait
    | _ =>
      simp [state, touchedStrip, touchEffects, Ctx.update, Ctx.emit, Strip.beTouched, Strip.clearSettle, StripState.driving,
        StripState.isWaiting]
  | _ =>
    simp [state, touchedStrip, touchEffects, Ctx.update, Ctx.emit, Strip.beTouched, Strip.clearSettle, StripState.driving,
      StripState.isWaiting, Ctx.returnGrant]

/-- A touch-on that ends a calibration (R50). -/
theorem Ctx.touchOn_of_ending {c : Ctx} (ends : c.strip.state = .calibrating ∨ c.strip.state = .waiting .calibrate) :
    c.touchOn = { c with
      strip := calibrationTouched c.strip, out := c.out ++ calibrationTouchEffects c.id c.strip } := by
  obtain ⟨i, x, out⟩ := c
  have aborts : ∀ d : Ctx, d.strip.state = .calibrating ∨ d.strip.state = .waiting .calibrate → d.touchState = d.abortCalibration := by
    intro d state
    unfold Ctx.touchState
    obtain state | state := state <;> rw [state]
  unfold Ctx.touchOn
  rw [aborts _ (by exact ends), Ctx.abortCalibration, Ctx.letGo_eq, Ctx.endRun_eq]
  obtain (state : x.state = .calibrating) | (state : x.state = .waiting .calibrate) := ends
  all_goals
    cases run : x.calRun <;>
      simp [state, run, Ctx.update, Ctx.emit, calibrationTouched, calibrationTouchEffects, StripState.driving,
        StripState.isWaiting, Strip.countFinish]

/-! ### Touch-on at the state (R77) -/

section
variable {s : State} {i : StripId}

/-- A touch-on taken at a strip in service. -/
theorem exec_touchOn (on : (s.strip i).state ≠ .off) : exec (.touchOn i) s = .next
    (let t := (s.take (.touchOn i)).runStrip i Ctx.touchOn
     if (t.strip i).state = .touched then t.touchGang i else t) := congrArg Host.Outcome.next (if_neg on)

theorem touchedStrip_state (x : Strip) : (touchedStrip x).state =
    if x.state = .uncal then .uncal else if x.state = .stalled then .stalled else .touched := by
  unfold touchedStrip
  cases x.state <;> simp

theorem calibrationTouched_state (x : Strip) : (calibrationTouched x).state = .uncal := by
  unfold calibrationTouched
  cases x.calRun <;> rfl

/-- A touch-on at a strip in no gang, at one that does not become TOUCHED, and at a leader: nothing but its context's own work. -/
theorem exec_touchOn_of_alone {z : Strip} {es : List Effect} (on : (s.strip i).state ≠ .off)
    (gives : (s.contextAt i).touchOn = { id := i, strip := z, out := es })
    (alone : z.state ≠ .touched ∨ (s.strip i).gang = none ∨
      ∃ g a, (s.strip i).gang = some g ∧ (s.gang g).activity = some a ∧ a.leader = i) (gang : z.gang = (s.strip i).gang) :
    exec (.touchOn i) s = .next (((s.take (.touchOn i)).setStrip i z).effects i es) := by
  have runs : (s.take (.touchOn i)).runStrip i Ctx.touchOn = _ := State.runStrip_of_eq (s := s.take (.touchOn i)) gives
  obtain ⟨t, eq, strip, gangs⟩ : ∃ t, ((s.take (.touchOn i)).setStrip i z).effects i es = t ∧ t.strip i = z ∧
      ∀ g, t.gang g = s.gang g :=
    ⟨_, rfl, by simp, fun g => by simp⟩
  refine (exec_touchOn on).trans (congrArg Host.Outcome.next ?_)
  rw [runs]
  rw [eq]
  simp only [strip]
  split
  · next touched =>
    unfold State.touchGang
    rw [strip, gang]
    obtain other | none | ⟨g, a, member, activity, leads⟩ := alone
    · exact absurd touched other
    · rw [none]
    · rw [member]
      simp only [gangs, activity]
      exact if_pos leads
  · rfl

end

/-! ### What the effects of a touch-on leave -/

theorem StripState.driving_of_waiting {q : StripState} (waits : q.isWaiting = true) : q.driving = false := by
  cases q <;> simp [StripState.isWaiting] at waits
  rfl

section
variable (i : StripId) (x : Strip)

theorem touchEffects_drive (u : Int) (mem : Effect.drive u ∈ touchEffects i x) : u = 0 := by
  simp only [touchEffects, List.mem_append] at mem
  obtain mem | mem := mem
  · simpa using mem
  · split at mem
    · simp at mem
    · split at mem <;> simp at mem

theorem calibrationTouchEffects_drive (u : Int) (mem : Effect.drive u ∈ calibrationTouchEffects i x) : u = 0 := by
  simp only [calibrationTouchEffects, List.mem_append, List.mem_map] at mem
  obtain (mem | mem) | ⟨_, _, e⟩ := mem
  · simpa using mem
  · split at mem
    · simpa using mem
    · simp at mem
  · cases e

theorem zero_mem_touchEffects : Effect.drive 0 ∈ touchEffects i x ∧ Effect.drive 0 ∈ calibrationTouchEffects i x := by
  simp [touchEffects, calibrationTouchEffects]

end

/-- The fields a touch-on leaves where no calibration ends. -/
theorem touchedStrip_fields (x : Strip) : (touchedStrip x).touches = x.touches + 1 ∧ (touchedStrip x).touch = true ∧
    (touchedStrip x).current = x.current ∧ (touchedStrip x).queue = x.queue ∧ (touchedStrip x).cal = x.cal ∧
    (touchedStrip x).gang = x.gang ∧ (touchedStrip x).p = x.p := by
  unfold touchedStrip
  split <;> exact ⟨rfl, rfl, rfl, rfl, rfl, rfl, rfl⟩

theorem touchedStrip_grantHeld {x : Strip} (driving : x.state.driving = true) : (touchedStrip x).grantHeld = false := by
  have other : ¬ (x.state = .touched ∨ x.state = .uncal ∨ x.state = .stalled) := by
    rintro (k | k | k) <;> simp [k, StripState.driving] at driving
  rw [touchedStrip, if_neg other]
  exact if_pos driving

/-- The fields a touch-on leaves where a calibration ends. -/
theorem calibrationTouched_fields (x : Strip) : (calibrationTouched x).touches = x.touches + 1 ∧
    (calibrationTouched x).touch = true ∧ (calibrationTouched x).current = x.current ∧
    (calibrationTouched x).queue = x.queue ∧ (calibrationTouched x).gang = x.gang ∧
    (calibrationTouched x).grantHeld = (if x.state = .calibrating then false else x.grantHeld) := by
  unfold calibrationTouched
  cases x.calRun <;> exact ⟨rfl, rfl, rfl, rfl, rfl, rfl⟩

theorem calibrationTouched_run {x : Strip} {r : CalRun} (run : x.calRun = some r) :
    (calibrationTouched x).cal = { x.cal with valid := false } ∧ (calibrationTouched x).calRun = none ∧
    (calibrationTouched x).cut = x.cut + 1 := by
  rw [calibrationTouched, run]
  exact ⟨rfl, rfl, rfl⟩

/-- Effects without a record leave the writer alone. -/
theorem State.writer_effects {s : State} {i : StripId} {es : List Effect} (none : ∀ r, Effect.record r ∉ es) :
    (s.effects i es).writer = s.writer := by
  induction es generalizing s with
  | nil => rfl
  | cons e es ih =>
    refine (ih fun r mem => none r (List.mem_cons_of_mem _ mem)).trans ?_
    cases e with
    | record r => exact absurd List.mem_cons_self (none r)
    | drive u => rfl
    | request p => rfl
    | withdraw => rfl
    | giveBack => rfl
    | cause c => rfl

/-- The one record of a touch-on that ends no calibration. -/
theorem State.writer_touchEffects (s : State) (i : StripId) (x : Strip) :
    (s.effects i (touchEffects i x)).writer = (s.handRecord (.touch i x.p)).writer := by
  have rest : ∀ r, Effect.record r ∉ (if x.state.driving then [Effect.giveBack] else if x.state.isWaiting then [.withdraw] else []) := by
    intro r mem
    split at mem
    · simp at mem
    · split at mem <;> simp at mem
  rw [touchEffects, State.effects_append, State.writer_effects rest]
  rfl

section
variable {s : State} {i : StripId} {z : Strip} {es : List Effect}

/-- A touch-on's fields and effects set down: the strip, its drive, the events, and what stays. -/
theorem State.touched_gives (zero : Effect.drive 0 ∈ es) (only : ∀ u, Effect.drive u ∈ es → u = 0) :
    ∃ t, ((s.take (.touchOn i)).setStrip i z).effects i es = t ∧ t.strip i = z ∧ t.drive i = 0 ∧
      (∀ e ∈ es, ∀ ev, e.event i = some ev → ev ∈ t.inFlight) ∧
      (∀ j, j ≠ i → t.strip j = s.strip j ∧ t.drive j = s.drive j) ∧ t.gangs = s.gangs ∧
      t = { s with
        strips := t.strips, writer := t.writer, inFlight := t.inFlight, motors := t.motors, attention := t.attention } := by
  have drive := State.drive_effects_zero (s := (s.take (.touchOn i)).setStrip i z) (i := i) only (.inl zero)
  have others : ∀ j, j ≠ i → (((s.take (.touchOn i)).setStrip i z).effects i es).drive j = s.drive j :=
    fun j other => State.drive_effects_ne _ other es
  have sent : ∀ e ∈ es, ∀ ev, e.event i = some ev → ev ∈ (((s.take (.touchOn i)).setStrip i z).effects i es).inFlight :=
    fun e mem ev event => State.mem_effects_inFlight mem event
  have strips := ((s.take (.touchOn i)).setStrip i z).strip_effects i es
  obtain ⟨t, eq, frame⟩ := ((s.take (.touchOn i)).setStrip i z).effects_frame i es
  rw [eq] at drive others sent strips
  refine ⟨t, eq, (strips i).trans (State.strip_setStrip_self _ _ _), drive, sent,
    fun j other => ⟨(strips j).trans (State.strip_setStrip_ne _ _ other), others j other⟩, by rw [frame]; rfl, ?_⟩
  rw [frame]
  rfl

end

/-- Settles O19: the touch-on that ends no calibration and the one that ends one, each by the fields it leaves and its effects. -/
theorem touchOnChangesState : Obligations.TouchOnChangesState := by
  intro s i
  refine ⟨fun off => congrArg Host.Outcome.next (if_pos off), fun on alone => ?_⟩
  by_cases ending : (s.strip i).state = .calibrating ∨ (s.strip i).state = .waiting .calibrate
  · obtain ⟨touches, touch, current, queue, gang, grant⟩ := calibrationTouched_fields (s.strip i)
    have state := calibrationTouched_state (s.strip i)
    have runs := exec_touchOn_of_alone on (Ctx.touchOn_of_ending (c := s.contextAt i) ending)
      (.inl (by rw [State.contextAt_strip, state]; nofun)) gang
    obtain ⟨t, eq, strip, drive, sent, others, gangs, frame⟩ := State.touched_gives (s := s) (i := i)
      (z := calibrationTouched (s.strip i)) (zero_mem_touchEffects i _).2 (calibrationTouchEffects_drive i (s.strip i))
    refine ⟨t, runs.trans (congrArg Host.Outcome.next eq), ?_⟩
    rw [strip]
    refine ⟨touches, touch, drive, current, queue, state.trans (if_pos (.inl ending)).symm, fun _ run => ?_,
      fun k => absurd ending k, fun driving => ?_, fun waiting => ?_, fun k => absurd ending k, fun _ => eq.symm,
      fun _ r run => (calibrationTouched_run run).2.2, others, gangs, frame⟩
    · obtain ⟨r, run⟩ := Option.ne_none_iff_exists'.mp run
      exact ⟨(calibrationTouched_run run).1, (calibrationTouched_run run).2.1⟩
    · obtain phase | wait := ending
      · exact ⟨grant.trans (if_pos phase), sent .giveBack (by simp [calibrationTouchEffects, phase]) _ rfl⟩
      · simp [wait, StripState.driving] at driving
    · obtain phase | wait := ending
      · simp [phase, StripState.isWaiting] at waiting
      · exact sent .withdraw (by simp [calibrationTouchEffects, wait]) _ rfl
  · obtain ⟨touches, touch, current, queue, cal, gang, -⟩ := touchedStrip_fields (s.strip i)
    obtain ⟨phase, wait⟩ := not_or.mp ending
    have state := touchedStrip_state (s.strip i)
    have runs := exec_touchOn_of_alone on (Ctx.touchOn_eq (c := s.contextAt i) on phase wait) ?_ gang
    · obtain ⟨t, eq, strip, drive, sent, others, gangs, frame⟩ := State.touched_gives (s := s) (i := i)
        (z := touchedStrip (s.strip i)) (zero_mem_touchEffects i _).1 (touchEffects_drive i (s.strip i))
      refine ⟨t, runs.trans (congrArg Host.Outcome.next eq), ?_⟩
      rw [strip]
      refine ⟨touches, touch, drive, current, queue, ?_, fun k => absurd k ending, fun _ => ⟨cal, ?_⟩, fun driving => ?_,
        fun waiting => ?_, fun _ => eq.symm, fun k => absurd k ending, fun k => absurd k ending, others, gangs, frame⟩
      · rw [state]
        by_cases uncal : (s.strip i).state = .uncal
        · rw [if_pos uncal, if_pos (.inr uncal)]
        · rw [if_neg uncal, if_neg (not_or.mpr ⟨ending, uncal⟩)]
      · have writer := congrArg State.writer eq
        rw [State.writer_touchEffects] at writer
        rw [← writer]
        exact s.writer_handRecord _ (s.strips.set i (touchedStrip (s.strip i))) (s.inFlight.erase (.touchOn i))
      · refine ⟨touchedStrip_grantHeld driving, sent .giveBack ?_ _ rfl⟩
        simp [touchEffects, driving]
      · refine sent .withdraw ?_ _ rfl
        simp [touchEffects, waiting, StripState.driving_of_waiting waiting]
    · rw [State.contextAt_strip, state]
      obtain none | uncal | stalled | phase' | wait' | leads := alone
      · exact .inr (.inl none)
      · exact .inl (by rw [if_pos uncal]; nofun)
      · exact .inl (by rw [stalled]; nofun)
      · exact absurd phase' phase
      · exact absurd wait' wait
      · exact .inr (.inr leads)

/-! ### A touch-on in a gang (R90, R93) -/

theorem touchedStrip_roles (x : Strip) : (touchedStrip x).role = x.role ∧ (touchedStrip x).freeze = x.freeze := by
  unfold touchedStrip
  split <;> exact ⟨rfl, rfl⟩

/-- A strip that enters its gang's activity by its own touch-on (R93). -/
theorem Ctx.beginTrimming_of_entering {c : Ctx} (entering : c.strip.role = .outside ∧ c.strip.freeze = false) :
    c.beginTrimming = { c with
      strip := { c.strip with
        role := .trimming, followTarget := none, freeze := true, current := none, restart := false, chainStart := none }
      out := c.out ++ currentFinish c.id .ganged c.strip } := by
  unfold Ctx.beginTrimming
  rw [if_pos entering, Ctx.enterActivity_eq]
  rfl

theorem Ctx.beginTrimming_of_entered {c : Ctx} (entered : ¬ (c.strip.role = .outside ∧ c.strip.freeze = false)) :
    c.beginTrimming = c.update fun x => { x with role := .trimming, followTarget := none } := by
  unfold Ctx.beginTrimming
  rw [if_neg entered]

section
variable {s : State} {i : StripId} {g : GangId}

/-- A touch-on that leaves its strip TOUCHED. -/
theorem touchOn_touched (on : (s.strip i).state ≠ .off) (cal : (s.strip i).state ≠ .uncal) (works : (s.strip i).state ≠ .stalled)
    (phase : (s.strip i).state ≠ .calibrating) (wait : (s.strip i).state ≠ .waiting .calibrate) :
    (s.contextAt i).touchOn = { id := i, strip := touchedStrip (s.strip i), out := touchEffects i (s.strip i) } ∧
    exec (.touchOn i) s = .next (((s.take (.touchOn i)).runStrip i Ctx.touchOn).touchGang i) := by
  have gives := Ctx.touchOn_eq (c := s.contextAt i) on phase wait
  refine ⟨gives, (exec_touchOn on).trans (congrArg Host.Outcome.next (if_pos ?_))⟩
  have strip := (s.take (.touchOn i)).strip_runStrip_self i Ctx.touchOn
  rw [strip]
  refine (congrArg (fun c : Ctx => c.strip.state) gives).trans ((touchedStrip_state _).trans ?_)
  rw [State.contextAt_strip, if_neg cal, if_neg works]

/-- A member touched while another strip leads its gang's activity (R93). -/
theorem exec_touchOn_of_trims {a : Activity} {y : Strip} {fs : List Effect}
    (touched : (s.contextAt i).touchOn = { id := i, strip := touchedStrip (s.strip i), out := touchEffects i (s.strip i) })
    (runs : exec (.touchOn i) s = .next (((s.take (.touchOn i)).runStrip i Ctx.touchOn).touchGang i))
    (member : (s.strip i).gang = some g) (activity : (s.gang g).activity = some a) (other : a.leader ≠ i)
    (trims : Ctx.beginTrimming { id := i, strip := touchedStrip (s.strip i), out := [] } = { id := i, strip := y, out := fs }) :
    exec (.touchOn i) s = .next (((s.take (.touchOn i)).setStrip i y).effects i (touchEffects i (s.strip i) ++ fs)) := by
  refine runs.trans (congrArg Host.Outcome.next ?_)
  rw [← State.runStrip_runStrip (s := s.take (.touchOn i)) touched trims]
  have strip : (((s.take (.touchOn i)).runStrip i Ctx.touchOn).strip i).gang = some g := by
    rw [State.runStrip_of_eq (s := s.take (.touchOn i)) touched]
    simpa [(touchedStrip_fields (s.strip i)).2.2.2.2.2.1] using member
  have gang : (((s.take (.touchOn i)).runStrip i Ctx.touchOn).gang g).activity = some a := by
    rw [State.runStrip_of_eq (s := s.take (.touchOn i)) touched]
    simpa using activity
  unfold State.touchGang
  rw [strip]
  simp only [gang]
  exact if_neg other

/-- The start of gang activity (R90), said of the state that the touch-on leaves. -/
theorem State.startActivity_eq (t : State) (g : GangId) (i : StripId) :
    let z := { t.strip i with role := .leader, v := (t.strip i).p, freeze := false, followTarget := none }
    let v := (t.setStrip i z).handRecord (.gang g i .start)
    let gangs := t.gangs.set g { t.gang g with
      activity := some { leader := i, pL := (t.strip i).p, handovers := 0 }, serial := (t.gang g).serial + 1 }
    t.startActivity g i = { v with
      gangs := gangs
      inFlight := v.inFlight ++ ((t.gang g).members.filter fun j => j ≠ i ∧ (t.strip j).state.excluded = false).map fun j =>
        .gangJoin j { gang := g, serial := (t.gang g).serial + 1, handovers := 0, pL := (t.strip i).p } } := by
  intro z v gangs
  have record : (({ t with strips := t.strips.set i z, gangs := gangs } : State).handRecord (.gang g i .start)) =
      { v with gangs := gangs } := by
    rw [show v = _ from t.handRecord_with (.gang g i .start) (t.strips.set i z) t.gangs t.sweep]
    exact t.handRecord_with (.gang g i .start) (t.strips.set i z) gangs t.sweep
  have strip : ∀ j, j ≠ i → ({ v with gangs := gangs } : State).strip j = t.strip j := fun j other => by
    rw [← record, State.strip_handRecord]
    exact t.strip_setStrip_ne z other
  have joins : ((t.gang g).members.filter fun j => j ≠ i ∧ (({ v with gangs := gangs } : State).strip j).state.excluded = false) =
      (t.gang g).members.filter fun j => j ≠ i ∧ (t.strip j).state.excluded = false := by
    refine List.filter_congr fun j _ => ?_
    by_cases here : j = i
    · simp [here]
    · rw [strip j here]
  have starts := congrArg (fun u : State => u.deliverAll ((t.gang g).members.filter fun j =>
      j ≠ i ∧ (u.strip j).state.excluded = false)
    (fun j => .gangJoin j { gang := g, serial := (t.gang g).serial + 1, handovers := 0, pL := (t.strip i).p })) record
  exact starts.trans (congrArg (fun js : List StripId => ({ v with gangs := gangs } : State).deliverAll js
    (fun j => .gangJoin j { gang := g, serial := (t.gang g).serial + 1, handovers := 0, pL := (t.strip i).p })) joins)

end

/-- Settles O20: the member that trims, entered already or entering now, and the member that starts the activity. -/
theorem touchOnStartsGangActivity : Obligations.TouchOnStartsGangActivity := by
  constructor
  · intro s i g a x entering z u member activity other on cal works phase wait
    obtain ⟨touched, runs⟩ := touchOn_touched on cal works phase wait
    obtain ⟨role, freeze⟩ := touchedStrip_roles x
    obtain ⟨-, -, current, -, -, -, p⟩ := touchedStrip_fields x
    refine ⟨fun entered => ?_, fun enters => ?_⟩
    · have trims := exec_touchOn_of_trims touched runs member activity other (Ctx.beginTrimming_of_entered
        (c := { id := i, strip := touchedStrip x, out := [] }) (by rw [role, freeze]; exact entered))
      rwa [List.append_nil] at trims
    · have trims := exec_touchOn_of_trims touched runs member activity other (Ctx.beginTrimming_of_entering
        (c := { id := i, strip := touchedStrip x, out := [] }) (by rw [role, freeze]; exact enters))
      have finish : currentFinish i .ganged (touchedStrip x) = x.current.toList.map fun e => finishOf i .ganged e x.p := by
        rw [currentFinish, current, p]
      rw [List.nil_append, finish] at trims
      exact trims
  · intro s i g member quiet on cal works phase wait x v join
    obtain ⟨touched, runs⟩ := touchOn_touched on cal works phase wait
    obtain ⟨-, touch, -, -, -, gang, p⟩ := touchedStrip_fields x
    obtain ⟨w, leaves, strip, others, gangs, drive⟩ : ∃ w, ((s.take (.touchOn i)).setStrip i (touchedStrip x)).effects i
          (touchEffects i x) = w ∧ w.strip i = touchedStrip x ∧ (∀ j, j ≠ i → w.strip j = s.strip j) ∧ w.gangs = s.gangs ∧
        w.drive i = 0 := by
      obtain ⟨w, eq, strip, drive, -, others, gangs, -⟩ := State.touched_gives (s := s) (i := i) (z := touchedStrip x)
        (zero_mem_touchEffects i x).1 (touchEffects_drive i x)
      exact ⟨w, eq, strip, fun j other => (others j other).1, gangs, drive⟩
    have gang_eq : ∀ k, w.gang k = s.gang k := fun k => congrArg (·[k]) gangs
    have starts : ((s.take (.touchOn i)).runStrip i Ctx.touchOn).touchGang i = w.startActivity g i := by
      rw [State.runStrip_of_eq (s := s.take (.touchOn i)) touched]
      rw [leaves]
      unfold State.touchGang
      rw [strip, gang, member]
      simp only [gang_eq, quiet]
    have state : (touchedStrip x).state = .touched := by
      rw [touchedStrip_state]
      exact (if_neg cal).trans (if_neg works)
    have joins : ((w.gang g).members.filter fun j => j ≠ i ∧ (w.strip j).state.excluded = false) =
        (s.gang g).members.filter fun j => j ≠ i ∧ (s.strip j).state ≠ .off ∧ (s.strip j).state ≠ .uncal ∧
          (s.strip j).state ≠ .stalled ∧ (s.strip j).state ≠ .calibrating ∧ (s.strip j).state ≠ .waiting .calibrate := by
      rw [gang_eq]
      refine List.filter_congr fun j _ => decide_eq_decide.mpr (and_congr_right fun other => ?_)
      rw [others j other, StripState.excluded_iff]
    have whole := w.startActivity_eq g i
    have record : (w.setStrip i { w.strip i with
        role := .leader, v := (w.strip i).p, freeze := false, followTarget := none }).handRecord (.gang g i .start) = v := by
      rw [← leaves, State.setStrip_effects_setStrip, leaves, strip, p]
      rfl
    have at_leader : v.strip i =
        { touchedStrip x with role := .leader, v := x.p, freeze := false, followTarget := none } := by
      rw [← record, State.strip_handRecord, State.strip_setStrip_self, strip, p]
    have at_others : ∀ j, j ≠ i → v.strip j = s.strip j := fun j other => by
      rw [← record, State.strip_handRecord, State.strip_setStrip_ne _ _ other, others j other]
    have drives : v.drive i = 0 := by
      rw [← record]
      exact (congrArg (fun m : Motors => m.chans[i].held) (State.motors_handRecord _ _)).trans drive
    clear_value v
    simp only [record] at whole
    rw [joins] at whole
    simp only [strip, p, gang_eq, gangs] at whole
    refine ⟨_, runs.trans (congrArg Host.Outcome.next (starts.trans whole)), rfl, (congrArg Strip.state at_leader).trans state,
      congrArg Strip.role at_leader, congrArg Strip.v at_leader, congrArg Strip.freeze at_leader,
      (congrArg Strip.touch at_leader).trans touch, drives, Vector.getElem_set_self _,
      at_others, fun k other => Vector.getElem_set_ne g.isLt k.isLt (Fin.val_ne_of_ne (Ne.symm other))⟩

end Sys2Proof.Machine
end

section
/-!
SUPPORT. The hand let go (sections 4.3 and 4.6): a release, a leader's with the gang's activity, and the end of trimming.
-/
namespace Sys2Proof.Machine

/-! ### Leadership passed on by a strip that is set down anew -/

theorem State.setStrip_comm (s : State) {i j : StripId} (x y : Strip) (other : j ≠ i) :
    (s.setStrip i x).setStrip j y = (s.setStrip j y).setStrip i x :=
  congrArg (fun v => { s with strips := v }) (Vector.set_comm x y (Fin.val_ne_of_ne (Ne.symm other)))

/-- Where the old leader is set down anew, what it was before does not matter. -/
theorem leadershipPasses_setStrip (s : State) (g : GangId) (a : Activity) {i new : StripId} (x : Strip) (z : Nat → Strip)
    (es : Nat → List Effect) (other : new ≠ i) :
    let old : State → Nat → State := fun v pL => (v.setStrip i (z pL)).effects i (es pL)
    leadershipPasses (s.setStrip i x) g a i new old = leadershipPasses s g a i new old := by
  intro old
  have strip : ∀ j, j ≠ i → (s.setStrip i x).strip j = s.strip j := fun j away => State.strip_setStrip_ne _ _ away
  have followers : (((s.setStrip i x).gang g).members.filter fun j => decide (j ≠ i ∧ ((s.setStrip i x).strip j).role = .follower)) =
      (s.gang g).members.filter fun j => decide (j ≠ i ∧ (s.strip j).role = .follower) :=
    List.filter_congr fun j _ => decide_eq_decide.mpr (and_congr_right fun away => by rw [strip j away])
  have hands : ∀ (h : Gang) (y : Strip),
      old ((((s.setStrip i x).setGang g h).setStrip new y).handRecord (.gang g new .leader)) (s.strip new).p =
        old (((s.setGang g h).setStrip new y).handRecord (.gang g new .leader)) (s.strip new).p := fun h y => by
    rw [show (s.setStrip i x).setGang g h = (s.setGang g h).setStrip i x from rfl, State.setStrip_comm _ _ _ other,
      State.handRecord_setStrip]
    exact congrArg (fun v : State => v.effects i (es (s.strip new).p)) (State.setStrip_setStrip _ _ _ _)
  unfold leadershipPasses
  rw [followers, strip new other]
  simp only [show (s.setStrip i x).gang g = s.gang g from rfl, hands]

/-! ### The pieces of a release (R82 to R84) -/

theorem Ctx.writeTrail_eq (c : Ctx) : c.writeTrail = { c with
    strip := { c.strip with trail := [] }
    out := c.out ++ if c.strip.trail = [] then [] else [.record (.trail c.id c.strip.trail)] } := by
  unfold Ctx.writeTrail
  split
  · next empty => rw [if_pos empty, List.append_nil, ← empty]
  · next held =>
    rw [if_neg held]
    rfl

/-- A strip after steps 1 to 3 of a release, its entries' touch-time flags not yet cleared. -/
def Strip.handLeft (x : Strip) : Strip := { x with trail := [], trailStep := 0, touch := false, v := x.p }

theorem letGoOf_eq (x : Strip) : x.handLeft.clearTouchTime = letGoOf x := rfl

theorem Ctx.releaseHead_eq (c : Ctx) :
    c.releaseHead = { c with strip := c.strip.handLeft, out := c.out ++ releaseEffects c.id c.strip } := by
  rw [Ctx.releaseHead, Ctx.writeTrail_eq, releaseEffects, ← List.append_assoc]
  rfl

/-- The end of trimming (R94): the strip as the release leaves it, following again from where the hand left it. -/
theorem Ctx.rejoin_eq (c : Ctx) (pL : Nat) : c.rejoin pL = { c with
    strip := { letGoOf c.strip with
      current := c.strip.current, offset := (c.strip.p : Int) - pL, followTarget := some (min 4095 c.strip.p)
      role := .follower, state := .waiting .follow }
    out := c.out ++ (releaseEffects c.id c.strip ++ [.request c.strip.settings.priority]) } := by
  have target : followTargetOf (c.strip.p : Int) = min 4095 c.strip.p := by
    rw [followTargetOf_eq]
    omega
  have head : c.rejoin pL = (c.releaseHead.update fun x => { x with
      queue := x.queue.map fun e => { e with touchTime := false }, offset := x.v - pL
      followTarget := some (followTargetOf x.v), role := .follower }).await .follow c.releaseHead.strip.settings.priority := rfl
  rw [head, Ctx.releaseHead_eq, ← target, ← List.append_assoc]
  rfl

/-- The old leader at a handover (R95, item 4): a follower of the new leader's position. -/
theorem Ctx.followNewLeader_eq (c : Ctx) (pL : Nat) : c.followNewLeader pL = { c with
    strip := { c.strip.clearTouchTime with
      current := none, restart := false, chainStart := none, freeze := true, role := .follower
      offset := c.strip.v - pL, followTarget := some (followTargetOf c.strip.v), state := .waiting .follow }
    out := c.out ++ (currentFinish c.id .ganged c.strip ++ [.request c.strip.settings.priority]) } := by
  rw [Ctx.followNewLeader, Ctx.enterActivity_eq, ← List.append_assoc]
  rfl

/-- The strip in STAY before the start check (R83). -/
def Strip.stayed (x : Strip) : Strip :=
  { letGoOf x with
    state := .idle, current := none, restart := false, cut := x.cut + (if x.current = none then 0 else 1)
    queue := (x.queue.filter (·.touchTime)).map fun e => { e with touchTime := false }
    flushed := x.flushed + BitVec.ofNat 16 (x.queue.filter fun e => !e.touchTime).length
    relatch := if x.settings.source = .link ∧ x.streamTarget ≠ none then true else x.relatch
    relatchRef := if x.settings.source = .link then x.streamTarget.getD x.relatchRef else x.relatchRef }

theorem Ctx.releaseStay_eq (c : Ctx) : (c.releaseStay.update Strip.clearTouchTime) = { c with
    strip := { c.strip with
      state := .idle, current := none, restart := false, cut := c.strip.cut + (if c.strip.current = none then 0 else 1)
      queue := (c.strip.queue.filter (·.touchTime)).map fun e => { e with touchTime := false }
      flushed := c.strip.flushed + BitVec.ofNat 16 (c.strip.queue.filter fun e => !e.touchTime).length
      relatch := if c.strip.settings.source = .link ∧ c.strip.streamTarget ≠ none then true else c.strip.relatch
      relatchRef := if c.strip.settings.source = .link then c.strip.streamTarget.getD c.strip.relatchRef
        else c.strip.relatchRef }
    out := c.out ++ currentFinish c.id .cut c.strip ++
      (c.strip.queue.filter fun e => !e.touchTime).map fun e => finishOf c.id .flushed e c.strip.p } := by
  obtain ⟨i, x, out⟩ := c
  rw [Ctx.releaseStay, Ctx.finishCurrent_eq, Strip.currentFinished]
  simp only [Ctx.finishes_flushed, Ctx.update, Strip.setRelatch_eq]
  cases current : x.current with
  | none => simp [Strip.clearTouchTime, current]
  | some e => simp [Strip.clearTouchTime, Strip.countFinish]

theorem Ctx.startRule_append (c : Ctx) {x : Strip} {es : List Effect} (state : x.state = .idle) :
    ({ c with strip := x, out := c.out ++ es } : Ctx).startRule =
      { c with strip := (startChecked x).1, out := c.out ++ (es ++ (startChecked x).2) } := by
  rw [Ctx.startRule_of_idle (c := { c with strip := x, out := c.out ++ es }) state, List.append_assoc]

/-- A release at the strip's context (R82 to R84). -/
theorem Ctx.release_eq (c : Ctx) : c.release =
    { c with strip := (released c.id c.strip).1, out := c.out ++ (released c.id c.strip).2 } := by
  obtain ⟨i, x, out⟩ := c
  rw [Ctx.release, Ctx.releaseHead_eq]
  unfold released
  cases mode : x.settings.release with
  | stay =>
    have mode' : x.handLeft.settings.release = .stay := mode
    simp only [mode', Ctx.releaseStay_eq]
    refine (congrArg Ctx.startRule ?_).trans (Ctx.startRule_append { id := i, strip := x, out := out } (x := x.stayed)
      (es := releaseEffects i x ++ currentFinish i .cut x ++
        (x.queue.filter fun e => !e.touchTime).map fun e => finishOf i .flushed e x.p) rfl)
    simp only [List.append_assoc]
    rfl
  | _ => -- RETURN, whose constructor bears a keyword's name
    have mode' : x.handLeft.settings.release = .return := mode
    simp only [mode']
    cases current : x.current with
    | none =>
      have none' : x.handLeft.current = none := current
      unfold Ctx.releaseReturn
      simp only [none']
      exact Ctx.startRule_append { id := i, strip := x, out := out } (x := { letGoOf x with state := .idle }) rfl
    | some e =>
      have some' : x.handLeft.current = some e := current
      unfold Ctx.releaseReturn
      simp only [some']
      refine (Ctx.startRule_of_ne_idle (by simp [Ctx.await, Ctx.update, Ctx.emit, Strip.clearTouchTime])).trans ?_
      simp only [Ctx.await, Ctx.emit, Ctx.update, List.append_assoc]
      rfl

theorem released_quiet (i : StripId) (x : Strip) :
    (∀ u, Effect.drive u ∉ (released i x).2) ∧ ∀ c, Effect.cause c ∉ (released i x).2 := by
  have head : (∀ u, Effect.drive u ∉ releaseEffects i x) ∧ ∀ c, Effect.cause c ∉ releaseEffects i x := by
    unfold releaseEffects
    split <;> simp
  have checked : ∀ z, (∀ u, Effect.drive u ∉ (startChecked z).2) ∧ ∀ c, Effect.cause c ∉ (startChecked z).2 := by
    intro z
    unfold startChecked
    split
    · split <;> simp
    · simp
  obtain ⟨drives, causes⟩ := head
  unfold released
  split
  · simp [drives, causes, checked, finishOf]
  · simp [drives, causes]
  · simp [drives, causes, checked]

theorem startChecked_of_empty {x : Strip} (empty : x.queue = []) : startChecked x = (x, []) := by
  unfold startChecked
  rw [empty]

/-- A release with no entry waiting, by the mode and the current entry. -/
theorem released_of_empty (i : StripId) {x : Strip} (empty : x.queue = []) :
    let y := (released i x).1
    y.touch = false ∧ y.v = x.p ∧ y.trail = [] ∧ y.trailStep = 0 ∧ y.queue = [] ∧
    (x.settings.release = .stay → y.state = .idle ∧ y.current = none ∧ y.restart = false ∧
      y.cut = x.cut + (if x.current.isSome then 1 else 0)) ∧
    (x.settings.release = .return → x.current = none → y.state = .idle ∧ y.current = none ∧ y.cut = x.cut) ∧
    (∀ e, x.settings.release = .return → x.current = some e → y.state = .waiting .move ∧
      y.current = some { e with touchTime := false } ∧ y.restart = true ∧ y.chainStart = none ∧
      y.profile.set = false ∧ y.cut = x.cut ∧ Effect.request e.priority ∈ (released i x).2) := by
  cases mode : x.settings.release with
  | stay =>
    have stayed : (released i x).1 = x.stayed := by
      unfold released
      simp only [mode]
      exact congrArg Prod.fst (startChecked_of_empty (x := x.stayed) (by simp [Strip.stayed, empty]))
    rw [stayed]
    cases current : x.current <;> simp [Strip.stayed, letGoOf, empty, current]
  | _ => -- RETURN, whose constructor bears a keyword's name
    cases current : x.current with
    | none =>
      have idle : (released i x).1 = { letGoOf x with state := .idle } := by
        unfold released
        simp only [mode, current]
        exact congrArg Prod.fst (startChecked_of_empty (x := { letGoOf x with state := .idle }) (by simp [letGoOf, empty]))
      rw [idle]
      simp [letGoOf, empty, current]
    | some e =>
      have waits : released i x = ({ letGoOf x with
          state := .waiting .move, restart := true, chainStart := none, profile := { x.profile with set := false } },
          releaseEffects i x ++ [.request e.priority]) := by
        unfold released
        simp only [mode, current]
      rw [waits]
      simp [letGoOf, empty, current]

/-! ### Touch-off (R81) -/

section
variable {s : State} {i : StripId}

theorem State.touchOff_of_clear (clear : (s.strip i).touch = false) : s.touchOff i = s := if_pos clear

theorem State.touchOff_of_held (held : (s.strip i).touch = true) (rests : (s.strip i).state = .uncal ∨ (s.strip i).state = .stalled) :
    s.touchOff i = s.setStrip i { s.strip i with touch := false } := by
  refine (if_neg (by rw [held]; decide)).trans ?_
  obtain rests | rests := rests <;> simp only [rests]

theorem State.touchOff_of_rowless (cal : (s.strip i).state ≠ .uncal) (works : (s.strip i).state ≠ .stalled)
    (free : (s.strip i).state ≠ .touched) : s.touchOff i = s := by
  unfold State.touchOff
  dsimp only
  split
  · rfl
  · split
    · next uncal => exact absurd uncal cal
    · next stalled => exact absurd stalled works
    · next touched => exact absurd touched free
    · rfl

theorem State.touchOff_of_touched (held : (s.strip i).touch = true) (state : (s.strip i).state = .touched) : s.touchOff i =
    if (s.strip i).role = .trimming then s.runStrip i (Ctx.rejoin (s.rejoinPosition i)) else s.release i := by
  refine (if_neg (by rw [held]; decide)).trans ?_
  simp only [state]

theorem State.release_of_no_lead (other : (s.strip i).role ≠ .leader) : s.release i = s.runStrip i Ctx.release := by
  unfold State.release
  dsimp only
  split
  · next leads _ => exact absurd leads other
  · rfl

section
variable {g : GangId} {a : Activity} (leads : (s.strip i).role = .leader) (gang : (s.strip i).gang = some g)
  (activity : (s.gang g).activity = some a)
include leads gang activity

theorem State.release_of_alone (alone : trimmers s g = []) : s.release i = (s.runStrip i Ctx.release).endActivity g i := by
  unfold State.release
  simp only [leads, gang, activity, State.trimmers_eq, alone]

theorem State.release_of_handed {new : StripId} {others : List StripId} (handed : trimmers s g = new :: others) :
    s.release i = (s.runStrip i Ctx.releaseHead).handOver g a i new Ctx.followNewLeader := by
  unfold State.release
  simp only [leads, gang, activity, State.trimmers_eq, handed]

end

/-- A leader's release with a trimming member: it follows the new leader from the place its hand left it. -/
theorem State.release_passes {g : GangId} {a : Activity} {new : StripId} {others : List StripId}
    (leads : (s.strip i).role = .leader) (gang : (s.strip i).gang = some g) (activity : (s.gang g).activity = some a)
    (handed : trimmers s g = new :: others) :
    let x := s.strip i
    s.release i = leadershipPasses ((s.setStrip i (letGoOf x)).effects i (releaseEffects i x)) g a i new fun v pL =>
      (v.setStrip i { letGoOf x with
        current := none, restart := false, chainStart := none, freeze := true, role := .follower
        offset := (x.p : Int) - pL, followTarget := some (min 4095 x.p), state := .waiting .follow }).effects i
          ((x.current.toList.map fun e => finishOf i .ganged e x.p) ++ [.request x.settings.priority]) := by
  intro x
  have mem : new ∈ trimmers s g := handed ▸ List.mem_cons_self
  have trims : (s.strip new).role = .trimming := of_decide_eq_true (List.mem_filter.mp mem).2
  have away : new ≠ i := fun here => by
    rw [here, leads] at trims
    cases trims
  have target : followTargetOf (x.p : Int) = min 4095 x.p := by
    rw [followTargetOf_eq]
    omega
  obtain ⟨v, head⟩ : ∃ v, v = (s.setStrip i x.handLeft).effects i (releaseEffects i x) := ⟨_, rfl⟩
  have left : s.runStrip i Ctx.releaseHead = v := by
    rw [head]
    exact State.runStrip_of_eq (Ctx.releaseHead_eq (s.contextAt i))
  have here : v.strip i = x.handLeft := by rw [head, State.strip_effects, State.strip_setStrip_self]
  have there : v.strip new = s.strip new := by rw [head, State.strip_effects, State.strip_setStrip_ne _ _ away]
  have set : v.setStrip i (letGoOf x) = (s.setStrip i (letGoOf x)).effects i (releaseEffects i x) := by
    rw [head, State.setStrip_effects_setStrip]
  rw [State.release_of_handed leads gang activity handed, left, ← set]
  refine (State.handOver_eq (by rw [there, trims]) fun w same => ?_).trans (leadershipPasses_setStrip v g a _ _ _ away).symm
  have follows := Ctx.followNewLeader_eq (w.contextAt i) (v.strip new).p
  rw [State.runStrip_of_eq follows, ← target, show (w.contextAt i).strip = x.handLeft from (same i (Ne.symm away)).trans here]
  rfl

theorem State.rejoinPosition_eq {g : GangId} {a : Activity} (gang : (s.strip i).gang = some g) (activity : (s.gang g).activity = some a) :
    s.rejoinPosition i = a.pL := by
  unfold State.rejoinPosition
  simp only [gang, activity]
  rfl

/-- A touch-off that releases the strip, by its role. -/
theorem State.touchOff_releases (held : (s.strip i).touch = true) (state : (s.strip i).state = .touched) :
    let x := s.strip i
    let done := (s.setStrip i (released i x).1).effects i (released i x).2
    (x.role = .outside ∨ x.role = .follower → s.touchOff i = done) ∧
    ∀ g a, x.gang = some g → (s.gang g).activity = some a →
      (x.role = .leader → trimmers s g = [] → s.touchOff i = activityEnds done g i) ∧
      (x.role = .leader → ∀ new others, trimmers s g = new :: others → s.touchOff i = s.release i) ∧
      (x.role = .trimming → s.touchOff i = (s.setStrip i { letGoOf x with
          current := x.current, offset := (x.p : Int) - a.pL, followTarget := some (min 4095 x.p), role := .follower
          state := .waiting .follow }).effects i (releaseEffects i x ++ [.request x.settings.priority])) := by
  intro x done
  have release : s.runStrip i Ctx.release = done := State.runStrip_of_eq (Ctx.release_eq (s.contextAt i))
  have free : x.role ≠ .trimming → s.touchOff i = s.release i := fun other =>
    (State.touchOff_of_touched held state).trans (if_neg other)
  refine ⟨fun role => ?_, fun g a gang activity => ⟨fun leads alone => ?_, fun leads new others handed => ?_, fun trims => ?_⟩⟩
  · have other : x.role ≠ .trimming ∧ x.role ≠ .leader := by
      obtain role | role := role <;> rw [role] <;> decide
    rw [free other.1, State.release_of_no_lead other.2, release]
  · rw [free (by rw [leads]; decide), State.release_of_alone leads gang activity alone, release, State.endActivity_eq]
  · exact free (by rw [leads]; decide)
  · rw [State.touchOff_of_touched held state, if_pos trims, State.rejoinPosition_eq gang activity]
    exact State.runStrip_of_eq (Ctx.rejoin_eq (s.contextAt i) a.pL)

end

theorem trimmers_take (s : State) (e : Instr) (g : GangId) : trimmers (s.take e) g = trimmers s g := rfl

/-- Settles O21: the touch-offs without a release, the release, and what a gang's member makes of it. -/
theorem touchOffReleases : Obligations.TouchOffReleases := by
  intro s i x
  refine ⟨fun clear => congrArg Host.Outcome.next (State.touchOff_of_clear (s := s.take (.touchOff i)) clear),
    fun held rests => congrArg Host.Outcome.next (State.touchOff_of_held (s := s.take (.touchOff i)) held rests),
    fun cal works free => congrArg Host.Outcome.next (State.touchOff_of_rowless (s := s.take (.touchOff i)) cal works free),
    fun held state => ?whole, fun held state role empty => ?fields⟩
  case whole =>
    obtain ⟨free, gangs⟩ := State.touchOff_releases (s := s.take (.touchOff i)) held state
    intro u r done y
    refine ⟨fun role => congrArg Host.Outcome.next (free role), fun g a gang activity => ?_⟩
    obtain ⟨ends, passes, rejoins⟩ := gangs g a gang activity
    rw [trimmers_take] at ends passes
    refine ⟨fun leads alone => congrArg Host.Outcome.next (ends leads alone), fun new others leads handed => ?_,
      fun trims => congrArg Host.Outcome.next (rejoins trims)⟩
    have release := State.release_passes (s := s.take (.touchOff i)) leads gang activity
      ((trimmers_take s (.touchOff i) g).trans handed)
    exact congrArg Host.Outcome.next ((passes leads new others handed).trans release)
  case fields =>
    obtain ⟨t, -, eq, strip, others, sent, frame⟩ := State.runStrip_of_records (s := s.take (.touchOff i))
      (Ctx.release_eq ((s.take (.touchOff i)).contextAt i)) (released_quiet i x).1 (released_quiet i x).2
    have runs : exec (.touchOff i) s = .next t := 
      congrArg Host.Outcome.next (((State.touchOff_releases (s := s.take (.touchOff i)) held state).1 (.inl role)).trans eq.symm)
    obtain ⟨touch, v, trail, step, queue, stay, idle, kept⟩ := released_of_empty i empty
    have strip' : t.strip i = (released i x).1 := strip
    refine ⟨t, runs, ?_⟩
    rw [strip']
    refine ⟨touch, v, trail, step, queue, stay, idle, fun e mode current => ?_, others, by rw [frame]; rfl⟩
    obtain ⟨waits, entry, restart, chain, profile, cut, request⟩ := kept e mode current
    exact ⟨waits, entry, restart, chain, profile, cut, sent _ request _ rfl⟩

end Sys2Proof.Machine
end

section
/-!
SUPPORT. A sample arrival (chapters 1 and 2): what it adopts and senses, the Gang Table's part, and what each state makes of it.
-/
namespace Sys2Proof.Machine

/-! ### What every arrival does before its state's step (R12, R15, R16, R29, R75, R86) -/

theorem State.leaderMoved_eq (s : State) (i : StripId) : s.leaderMoved i = leaderTells s i := by
  unfold State.leaderMoved leaderTells
  dsimp only
  cases (s.strip i).role with
  | leader =>
    cases (s.strip i).gang with
    | none => rfl
    | some g =>
      dsimp only
      cases (s.gang g).activity <;> rfl
  | _ => rfl

theorem Strip.streaming_iff (x : Strip) : x.streaming = true ↔ x.state = .moving ∧ x.current = none := by
  simp [Strip.streaming]

theorem Ctx.adopt_eq (s : State) (i : StripId) : (s.contextAt i).adopt s.servoLoaded =
    { id := i, strip := adopted s i, out := adoptionEffects s i } := by
  by_cases changes : (s.strip i).settings.source = .link ∧ (s.strip i).staged.source = .cells
  · by_cases streams : (s.strip i).state = .moving ∧ (s.strip i).current = none
    · have model : (s.contextAt i).adopt s.servoLoaded = _ :=
        (if_pos changes).trans (if_pos ((Strip.streaming_iff (s.strip i)).mpr streams))
      have strip : adopted s i = _ := (if_pos changes).trans (if_pos streams)
      have effects : adoptionEffects s i = _ := if_neg fun k => by simp [streams.1] at k
      rw [model, strip, effects]
      rfl
    · have still : ¬ (s.strip i).streaming = true := fun k => streams ((Strip.streaming_iff _).mp k)
      by_cases waits : (s.strip i).state = .waiting .stream
      · have model : (s.contextAt i).adopt s.servoLoaded = _ := (if_pos changes).trans ((if_neg still).trans (if_pos waits))
        have strip : adopted s i = _ := (if_pos changes).trans ((if_neg streams).trans (if_pos waits))
        have effects : adoptionEffects s i = _ := if_pos ⟨changes.1, changes.2, waits⟩
        rw [model, strip, effects]
        rfl
      · have model : (s.contextAt i).adopt s.servoLoaded = _ := (if_pos changes).trans ((if_neg still).trans (if_neg waits))
        have strip : adopted s i = _ := (if_pos changes).trans ((if_neg streams).trans (if_neg waits))
        have effects : adoptionEffects s i = _ := if_neg fun k => waits k.2.2
        rw [model, strip, effects]
        rfl
  · have model : (s.contextAt i).adopt s.servoLoaded = _ := if_neg changes
    have strip : adopted s i = _ := if_neg changes
    have effects : adoptionEffects s i = _ := if_neg fun k => changes ⟨k.1, k.2.1⟩
    rw [model, strip, effects]
    rfl

theorem Strip.reports_iff (x : Strip) (p : Nat) : x.reports p = true ↔ x.pRepSet = false ∨
    (x.state = .moving ∨ x.state = .settling ∨ x.state = .following ∨ x.state = .calibrating) ∨
      x.settings.jitter ≤ ((p : Int) - x.pRep).natAbs := by
  simp [Strip.reports, or_assoc]

theorem Strip.takesPosition_iff (x : Strip) : x.takesPosition = true ↔ x.pRepSet = false ∨
    (x.state = .moving ∨ (x.state = .settling ∧ x.current ≠ none) ∨ x.state = .touched) := by
  simp [Strip.takesPosition, or_assoc, Option.isSome_iff_ne_none]

theorem sensed_eq (s : State) (i : StripId) (code : Code) : (adopted s i).sense code.toNat = sensed s i code := by
  unfold Strip.sense sensed
  simp only [Strip.reports_iff, Strip.takesPosition_iff, Strip.position, CalRecord.convert_eq_travelOf]

/-- An arrival takes what it senses to the step of the strip's state. -/
theorem Ctx.arrive_eq (s : State) (i : StripId) (code : Code) (on : (s.strip i).state ≠ .off) :
    (s.contextAt i).arrive s.servoLoaded s.scanner.period code.toNat =
      ({ id := i, strip := sensed s i code, out := adoptionEffects s i } : Ctx).act s.scanner.period code.toNat := by
  have off : (s.contextAt i).strip.state ≠ .off := on
  rw [Ctx.arrive, if_neg off, Ctx.adopt_eq]
  exact congrArg (fun y => ({ id := i, strip := y, out := adoptionEffects s i } : Ctx).act s.scanner.period code.toNat)
    (sensed_eq s i code)

section
variable {s : State} {i : StripId} {code : Code}

/-- The context that a state's step starts from at an arrival. -/
def arriving (s : State) (i : StripId) (code : Code) : Ctx :=
  { id := i, strip := sensed s i code, out := adoptionEffects s i }

theorem arrivalGives_of_act {z : Strip} {es : List Effect} (on : (s.strip i).state ≠ .off)
    (acts : (arriving s i code).act s.scanner.period code.toNat = { id := i, strip := z, out := es }) :
    ArrivalGives s i code z es := by
  have gives := State.runStrip_of_eq (s := s.take (.sampleArrival i code))
    ((Ctx.arrive_eq (s.take (.sampleArrival i code)) i code on).trans acts)
  have moved : (s.take (.sampleArrival i code)).sampleArrival i code = _ :=
    (if_neg on).trans ((congrArg (fun t : State => t.leaderMoved i) gives).trans (State.leaderMoved_eq _ i))
  exact congrArg Host.Outcome.next moved

theorem sensed_state_ne_off (on : (s.strip i).state ≠ .off) : (sensed s i code).state ≠ .off := by
  have adopted_ne : (adopted s i).state ≠ .off := by
    unfold adopted
    dsimp only
    split
    · split
      · nofun
      · split
        · nofun
        · exact on
    · exact on
  exact adopted_ne

theorem adoptionEffects_of_busy (busy : (sensed s i code).state ≠ .idle) : adoptionEffects s i = [] := by
  refine if_neg fun ⟨link, cells, waits⟩ => busy ?_
  have idle : (adopted s i).state = .idle := by
    unfold adopted
    dsimp only
    rw [if_pos ⟨link, cells⟩, if_neg fun k => by simp [waits] at k, if_pos waits]
  exact idle

theorem arriving_of_busy (busy : (sensed s i code).state ≠ .idle) :
    arriving s i code = { id := i, strip := sensed s i code, out := [] } := by
  rw [arriving, adoptionEffects_of_busy busy]

end

theorem arrivalGives_of_busy {s : State} {i : StripId} {code : Code} {z : Strip} {es : List Effect} (on : (s.strip i).state ≠ .off)
    (busy : (sensed s i code).state ≠ .idle)
    (acts : ({ id := i, strip := sensed s i code, out := [] } : Ctx).act s.scanner.period code.toNat =
      { id := i, strip := z, out := es }) : ArrivalGives s i code z es :=
  arrivalGives_of_act on ((congrArg (Ctx.act s.scanner.period code.toNat) (arriving_of_busy busy)).trans acts)

/-! ### States at rest -/

section
variable {c : Ctx} {period r : Nat}

theorem Ctx.act_of_idle (idle : c.strip.state = .idle) : c.act period r = c.startRule.streamTest := by
  rw [Ctx.act, idle]

theorem Ctx.act_of_touched (touched : c.strip.state = .touched) : c.act period r = c.trailStep := by
  rw [Ctx.act, touched]

theorem Ctx.act_of_rests (rests : c.strip.state = .uncal ∨ c.strip.state.isWaiting = true ∨ c.strip.state = .stalled) :
    c.act period r = c := by
  unfold Ctx.act
  obtain state | waits | state := rests
  · rw [state]
  · cases state : c.strip.state <;> rw [state] at waits <;> trivial
  · rw [state]

theorem Ctx.act_of_moving {e : Entry} (moving : c.strip.state = .moving) (current : c.strip.current = some e) :
    c.act period r = c.servoStep period e := by
  rw [Ctx.act, moving]
  simp only [current]

theorem Ctx.act_of_streaming (moving : c.strip.state = .moving) (free : c.strip.current = none) :
    c.act period r = c.streamStep := by
  rw [Ctx.act, moving]
  simp only [free]

theorem Ctx.act_of_settling (settling : c.strip.state = .settling) : c.act period r = c.settleStep := by
  rw [Ctx.act, settling]

theorem Ctx.act_of_following (following : c.strip.state = .following) : c.act period r = c.followStep := by
  rw [Ctx.act, following]

theorem Ctx.act_of_calibrating (calibrating : c.strip.state = .calibrating) : c.act period r = c.calStep r := by
  rw [Ctx.act, calibrating]

theorem Ctx.streamTest_of_no (no : ¬ ∃ t, c.strip.streamTarget = some t ∧ c.strip.settings.source = .link ∧
    c.strip.relatch = false ∧ c.strip.servo.deadband < ((t : Int) - c.strip.p).natAbs) : c.streamTest = c := by
  unfold Ctx.streamTest
  split
  · rfl
  · next t target => exact if_neg fun ⟨_, link, free, far⟩ => no ⟨t, target, link, free, far⟩

theorem Ctx.trailStep_of_none (off : c.strip.settings.trail = 0) : c.trailStep = c := if_pos off

theorem Ctx.trailStep_of_early (early : c.strip.trailStep + 1 < c.strip.settings.trail) :
    c.trailStep = c.update fun x => { x with trailStep := c.strip.trailStep + 1 } :=
  (if_neg (Nat.ne_zero_of_lt early)).trans (if_pos early)

theorem Ctx.trailStep_of_due (sampled : c.strip.settings.trail ≠ 0) (due : c.strip.settings.trail ≤ c.strip.trailStep + 1) :
    c.trailStep = if 8 ≤ (c.strip.trail ++ [c.strip.p]).length then
        { c with
          strip := { c.strip with trailStep := 0, trail := [] }
          out := c.out ++ [.record (.trail c.id (c.strip.trail ++ [c.strip.p]))] }
      else c.update fun x => { x with trailStep := 0, trail := c.strip.trail ++ [c.strip.p] } := by
  refine (if_neg sampled).trans ((if_neg (Nat.not_lt.mpr due)).trans ?_)
  dsimp only
  rw [Ctx.writeTrail_eq]
  refine ite_congr rfl (fun _ => ?_) fun _ => rfl
  have held : (c.update fun x => { x with trailStep := 0, trail := x.trail ++ [x.p] }).strip.trail ≠ [] := by
    simp [Ctx.update]
  rw [if_neg held]
  rfl

end

section
variable {s : State} {i : StripId} {code : Code}

/-- An arrival at rest. -/
theorem restingArrival (on : (s.strip i).state ≠ .off) : RestingArrival s i code := by
  unfold RestingArrival
  intro y w far n ps
  refine ⟨fun rests => ?_, fun e rest idle queue free thawed => ?_, fun idle held => ⟨?_, ?_⟩, fun touched => ⟨fun off => ?_, fun early => ?_, fun sampled due => ⟨?_, ?_⟩⟩⟩
  · have busy : y.state ≠ .idle := by
      obtain state | waits | state := rests
      · rw [state]; nofun
      · intro idle
        rw [idle] at waits
        cases waits
      · rw [state]; nofun
    exact arrivalGives_of_act on ((Ctx.act_of_rests (c := arriving s i code) rests).trans (arriving_of_busy busy))
  · have start := Ctx.startRule_of_queued (c := arriving s i code) idle queue free thawed
    refine arrivalGives_of_act on ((Ctx.act_of_idle (c := arriving s i code) idle).trans ?_)
    rw [start]
    exact Ctx.streamTest_of_ne_idle nofun
  · rintro ⟨t, target, link, free, apart⟩
    have rests := Ctx.startRule_of_rests (c := arriving s i code) held
    refine arrivalGives_of_act on ((Ctx.act_of_idle (c := arriving s i code) idle).trans ?_)
    rw [rests, Ctx.streamTest_of_far (c := arriving s i code) idle link free target apart]
    rfl
  · intro near
    have rests := Ctx.startRule_of_rests (c := arriving s i code) held
    refine arrivalGives_of_act on ((Ctx.act_of_idle (c := arriving s i code) idle).trans ?_)
    rw [rests, Ctx.streamTest_of_no (c := arriving s i code) near]
    rfl
  all_goals
    have busy : y.state ≠ .idle := by rw [touched]; nofun
    have quiet := arriving_of_busy busy
    have acts := Ctx.act_of_touched (c := arriving s i code) (period := s.scanner.period) (r := code.toNat) touched
  · exact arrivalGives_of_act on (acts.trans ((Ctx.trailStep_of_none (c := arriving s i code) off).trans quiet))
  · refine arrivalGives_of_act on (acts.trans ((Ctx.trailStep_of_early (c := arriving s i code) early).trans ?_))
    rw [quiet]
    rfl
  · intro room
    refine arrivalGives_of_act on (acts.trans ((Ctx.trailStep_of_due (c := arriving s i code) sampled due).trans ?_))
    rw [quiet]
    exact if_neg (Nat.not_le.mpr room)
  · intro full
    refine arrivalGives_of_act on (acts.trans ((Ctx.trailStep_of_due (c := arriving s i code) sampled due).trans ?_))
    rw [quiet]
    exact if_pos full

end

/-! ### The drive, the chase and the stall (R36, R40, R41, R43) -/

theorem ServoClass.drive_eq (k : ServoClass) (e : Int) : k.drive e = driveOf k e := rfl

theorem chase_eq (vmax g aim : Nat) : chase vmax g aim = chased vmax g aim := by
  unfold chase chased
  repeat' split
  all_goals omega

section
variable (c : Ctx)

/-- The entries a stall finishes (R43). -/
theorem Ctx.finishedStalled_eq : (c.finishCurrent .stalled).flushQueue = { c with
    strip := { c.strip with
      current := none, queue := [], restart := if c.strip.current = none then c.strip.restart else false
      stalls := c.strip.stalls + (if c.strip.current = none then 0 else 1)
      flushed := c.strip.flushed + BitVec.ofNat 16 c.strip.queue.length }
    out := c.out ++ ((c.strip.current.toList.map fun e => finishOf c.id .stalled e c.strip.p) ++
      c.strip.queue.map fun e => finishOf c.id .flushed e c.strip.p) } := by
  obtain ⟨i, x, out⟩ := c
  rw [Ctx.finishCurrent_eq, Ctx.flushQueue_eq, Strip.currentFinished, ← List.append_assoc]
  cases current : x.current with
  | none =>
    have kept : x = { x with current := none } := by rw [← current]
    simp [currentFinish, current]
  | some e => simp [currentFinish, current, Strip.countFinish]

theorem Ctx.stall_eq : c.stall = { c with strip := stripStalled c.strip, out := c.out ++ stallEffects c.id c.strip } := by
  obtain ⟨i, x, out⟩ := c
  rw [Ctx.stall, Ctx.finishedStalled_eq]
  simp only [Ctx.update, Ctx.stopDriving, Ctx.emit, Strip.leaveActivity_eq, outOfActivity_eq, stripStalled, stallEffects,
    List.append_assoc]
  rfl

variable {c}

/-- The drive of a strip whose stall count has reached the limit (R41, R43). -/
theorem Ctx.drive_of_stalls {goOn : Ctx → Ctx} {z : Strip} (counted : c.strip.countStall = z) (stalls : z.servo.limit ≤ z.stallCount) :
    c.drive goOn = { c with strip := stripStalled z, out := c.out ++ stallEffects c.id z } := by
  subst counted
  exact (if_pos stalls).trans (Ctx.stall_eq _)

/-- The drive of any other (R36). -/
theorem Ctx.drive_of_goes {goOn : Ctx → Ctx} {z : Strip} (counted : c.strip.countStall = z) (goes : z.stallCount < z.servo.limit) :
    c.drive goOn = goOn { c with strip := z, out := c.out ++ [.drive (driveOf z.servo z.error)] } := by
  subst counted
  exact if_neg (Nat.not_le.mpr goes)

end

/-! ### The servo step (R33 to R37) -/

/-- A strip whose profile is planned and has made its next guide step (R34, R35). -/
def Strip.steered (x : Strip) (period : Nat) (e : Entry) : Strip :=
  let y := if x.profile.set then x else x.plan e period
  { y with profile := y.profile.advance }

/-- The guide's step and the stall count that follows it, in numbers (R34, R35, R41). -/
theorem Strip.steered_countStall (y : Strip) (period : Nat) (e : Entry) :
    let g0 := y.chainStart.getD y.p
    let d : Int := (e.target : Int) - g0
    let nd := ((if y.restart then 0 else e.duration) * 1000 + period - 1) / period
    let nv := (d.natAbs + y.servo.vmax - 1) / y.servo.vmax
    let q := if y.profile.set then y.profile else
      { set := true, start := g0, dist := d, steps := max (max nd nv) 1, k := 0, guide := g0 }
    let off := (2 * q.dist.natAbs * (q.k + 1) + q.steps) / (2 * q.steps)
    let g := ((q.start : Int) + (if 0 ≤ q.dist then (off : Int) else -(off : Int))).toNat
    let err := (g : Int) - y.p
    let stall := if y.servo.stallErr < err.natAbs then (if y.profile.set then y.stallCount else 0) + 1 else 0
    (y.steered period e).countStall = { y with
      profile := { q with k := q.k + 1, guide := g }, stallCount := stall
      chainStart := if y.profile.set then y.chainStart else none } := by
  unfold Strip.steered
  cases y.profile.set <;> rfl

theorem Ctx.servoStep_eq (c : Ctx) (period : Nat) (e : Entry) : c.servoStep period e =
    (c.update (·.steered period e)).drive fun d => if d.strip.profile.k = d.strip.profile.steps then d.endOfGuide else d := by
  have planned : (if c.strip.profile.set then c else c.update (·.plan e period)) =
      c.update fun x => if x.profile.set then x else x.plan e period := by
    cases set : c.strip.profile.set <;> simp [Ctx.update, set]
  exact congrArg (fun d : Ctx => (d.update fun x => { x with profile := x.profile.advance }).drive fun d =>
    if d.strip.profile.k = d.strip.profile.steps then d.endOfGuide else d) planned

section
variable {c : Ctx} {e : Entry}

theorem Ctx.endOfGuide_of_chains {next : Entry} {rest : List Entry} (current : c.strip.current = some e)
    (queue : c.strip.queue = next :: rest) (thawed : c.strip.freeze = false) : c.endOfGuide =
    { c with
      strip := { c.strip with
        current := some next, queue := rest, restart := false, chainStart := some e.target, arrived := c.strip.arrived + 1
        profile := { c.strip.profile with set := false } }
      out := c.out ++ [finishOf c.id .arrived e c.strip.p] } := by
  unfold Ctx.endOfGuide
  rw [queue, thawed, current]
  unfold Ctx.finishCurrent
  rw [current]
  rfl

theorem Ctx.endOfGuide_of_settles (held : c.strip.queue = [] ∨ c.strip.freeze = true) :
    c.endOfGuide = c.update fun x => { x with state := .settling, settleCount := 0, settleTime := 0 } := by
  unfold Ctx.endOfGuide
  obtain empty | frozen := held
  · rw [empty]
    rfl
  · rw [frozen]
    split
    · contradiction
    · rfl

end

section
variable {s : State} {i : StripId} {code : Code}

theorem movingArrival (on : (s.strip i).state ≠ .off) : MovingArrival s i code := by
  unfold MovingArrival
  intro y e moving current g0 d nd nv q off g err stall z u
  have busy : (sensed s i code).state ≠ .idle := by rw [show (sensed s i code).state = _ from moving]; nofun
  have step := Ctx.act_of_moving (c := { id := i, strip := y, out := [] }) (period := s.scanner.period) (r := code.toNat)
    moving current
  rw [Ctx.servoStep_eq] at step
  have counted : (y.steered s.scanner.period e).countStall = z := y.steered_countStall s.scanner.period e
  refine ⟨fun stalls => arrivalGives_of_busy on busy (step.trans (Ctx.drive_of_stalls counted stalls)), fun goes on_way => ?_,
    fun goes last => ⟨fun next rest queue thawed => ?_, fun held => ?_⟩⟩
  all_goals have drives := step.trans (Ctx.drive_of_goes counted goes)
  · exact arrivalGives_of_busy on busy (drives.trans (if_neg on_way))
  · exact arrivalGives_of_busy on busy (drives.trans ((if_pos last).trans (Ctx.endOfGuide_of_chains current queue thawed)))
  · exact arrivalGives_of_busy on busy (drives.trans ((if_pos last).trans (Ctx.endOfGuide_of_settles held)))

/-- The chase and the stall count that follows it, in numbers (R40, R41). -/
theorem Strip.chaseAim_countStall (y : Strip) (aim : Nat) :
    let g := chased y.servo.vmax (if y.profile.set then y.profile.guide else y.p) aim
    let err := (g : Int) - y.p
    let stall := if y.servo.stallErr < err.natAbs then y.stallCount + 1 else 0
    (y.chaseAim aim).countStall = { y with profile := { y.profile with set := true, guide := g }, stallCount := stall } := by
  simp only [← chase_eq]
  rfl

/-- What follows the drive in stream motion: the count of arrivals at rest on the target, and the motion's end (R73). -/
def Ctx.streamRest (d : Ctx) : Ctx :=
  let atRest := some d.strip.profile.guide = d.strip.streamTarget ∧ d.strip.error.natAbs ≤ d.strip.servo.deadband
  let n := if atRest then d.strip.settleCount + 1 else 0
  if d.strip.servo.settled ≤ n then
    (d.stopDriving.update fun x => { x with settleCount := 0, state := .idle }).startRule
  else d.update fun x => { x with settleCount := n }

section
variable {c : Ctx} {aim : Nat}

theorem Ctx.followStep_of_target (target : c.strip.followTarget = some aim) :
    c.followStep = (c.update (·.chaseAim aim)).drive fun d => d :=
  congrArg (fun a => (c.update (·.chaseAim a)).drive fun d => d) (show c.strip.followTarget.getD c.strip.p = aim by rw [target]; rfl)

theorem Ctx.streamStep_of_target (target : c.strip.streamTarget = some aim) :
    c.streamStep = (c.update (·.chaseAim aim)).drive Ctx.streamRest :=
  congrArg (fun a => (c.update (·.chaseAim a)).drive Ctx.streamRest)
    (show c.strip.streamTarget.getD c.strip.p = aim by rw [target]; rfl)

/-- The count of arrivals at rest, with the target's value written out. -/
theorem Ctx.streamRest_eq (target : c.strip.streamTarget = some aim) :
    let n := if c.strip.profile.guide = aim ∧ c.strip.error.natAbs ≤ c.strip.servo.deadband then c.strip.settleCount + 1 else 0
    c.streamRest = if c.strip.servo.settled ≤ n then
        (c.stopDriving.update fun x => { x with settleCount := 0, state := .idle }).startRule
      else c.update fun x => { x with settleCount := n } := by
  unfold Ctx.streamRest
  simp only [target, Option.some.injEq]

end

theorem chasingArrival (on : (s.strip i).state ≠ .off) : ChasingArrival s i code := by
  unfold ChasingArrival
  intro y aim g err stall z u n streams
  have counted : (y.chaseAim aim).countStall = z := y.chaseAim_countStall aim
  have follow : y.state = .following → y.followTarget = some aim →
      ({ id := i, strip := y, out := [] } : Ctx).act s.scanner.period code.toNat = _ := fun following target =>
    (Ctx.act_of_following (c := { id := i, strip := y, out := [] }) following).trans (Ctx.followStep_of_target target)
  have stream : streams → ({ id := i, strip := y, out := [] } : Ctx).act s.scanner.period code.toNat = _ :=
    fun ⟨moving, free, target⟩ => (Ctx.act_of_streaming (c := { id := i, strip := y, out := [] }) moving free).trans
      (Ctx.streamStep_of_target target)
  have follow_busy : y.state = .following → (sensed s i code).state ≠ .idle := fun following => by
    rw [show (sensed s i code).state = _ from following]; nofun
  have stream_busy : streams → (sensed s i code).state ≠ .idle := fun k => by
    rw [show (sensed s i code).state = _ from k.1]; nofun
  refine ⟨fun chases stalls => ?_, fun following target goes => ?_, fun streaming goes => ?_⟩
  · obtain ⟨following, target⟩ | streaming := chases
    · exact arrivalGives_of_busy on (follow_busy following) ((follow following target).trans (Ctx.drive_of_stalls counted stalls))
    · exact arrivalGives_of_busy on (stream_busy streaming) ((stream streaming).trans (Ctx.drive_of_stalls counted stalls))
  · exact arrivalGives_of_busy on (follow_busy following) ((follow following target).trans (Ctx.drive_of_goes counted goes))
  · have drives := (stream streaming).trans (Ctx.drive_of_goes counted goes)
    rw [Ctx.streamRest_eq (aim := aim) streaming.2.2] at drives
    refine ⟨fun early => ?_, fun settled => ?_⟩
    · exact arrivalGives_of_busy on (stream_busy streaming) (drives.trans (if_neg (Nat.not_le.mpr early)))
    · exact arrivalGives_of_busy on (stream_busy streaming) (drives.trans ((if_pos settled).trans (Ctx.startRule_of_idle rfl)))

/-! ### The settle step (R38, R39) -/

section
variable {c : Ctx}

/-- The settle's counts after one arrival (R38). -/
def Strip.settleCounted (x : Strip) : Strip :=
  { x with
    settleCount := if x.error.natAbs ≤ x.servo.deadband then x.settleCount + 1 else 0, settleTime := x.settleTime + 1 }

theorem Ctx.settleStep_of_stalls (short : c.strip.settleCounted.settleCount < c.strip.servo.settled)
    (late : c.strip.servo.limit < c.strip.settleTime + 1) : c.settleStep =
    { c with strip := stripStalled c.strip.settleCounted, out := c.out ++ stallEffects c.id c.strip.settleCounted } :=
  (if_neg (Nat.not_le.mpr short)).trans ((if_pos late).trans (Ctx.stall_eq _))

theorem Ctx.settleStep_of_goes (short : c.strip.settleCounted.settleCount < c.strip.servo.settled)
    (early : c.strip.settleTime + 1 ≤ c.strip.servo.limit) : c.settleStep =
    { c with strip := c.strip.settleCounted, out := c.out ++ [.drive (driveOf c.strip.servo c.strip.error)] } := by
  have value : (if c.strip.error.natAbs ≤ c.strip.servo.deadband then 0 else c.strip.servo.drive c.strip.error) =
      driveOf c.strip.servo c.strip.error := by
    split
    · next inside => exact (if_pos inside).symm
    · rfl
  rw [← value]
  exact (if_neg (Nat.not_le.mpr short)).trans (if_neg (Nat.not_lt.mpr early))

theorem Ctx.settleStep_of_ends (ends : c.strip.servo.settled ≤ c.strip.settleCounted.settleCount) :
    c.settleStep = (c.update Strip.settleCounted).settleEnd := if_pos ends

/-- The end of a settle before its start check (R39). -/
theorem Ctx.settleEnd_eq : c.settleEnd = ({ c with
    strip := { c.strip with
      state := .idle, current := none, grantHeld := false, restart := if c.strip.current = none then c.strip.restart else false
      arrived := c.strip.arrived + (if c.strip.current = none then 0 else 1) }
    out := c.out ++ ((c.strip.current.toList.map fun e => finishOf c.id .arrived e c.strip.p) ++ [.drive 0, .giveBack]) } : Ctx).startRule := by
  obtain ⟨i, x, out⟩ := c
  refine congrArg Ctx.startRule ?_
  rw [Ctx.finishCurrent_eq, Strip.currentFinished, ← List.append_assoc]
  cases current : x.current with
  | none => simp [currentFinish, current, Ctx.stopDriving, Ctx.update, Ctx.emit]
  | some e => simp [currentFinish, current, Ctx.stopDriving, Ctx.update, Ctx.emit, Strip.countFinish]

end

theorem settlingArrival (on : (s.strip i).state ≠ .off) : SettlingArrival s i code := by
  unfold SettlingArrival
  intro y err n z ended es settling
  have busy : (sensed s i code).state ≠ .idle := by rw [show (sensed s i code).state = _ from settling]; nofun
  have step := Ctx.act_of_settling (c := { id := i, strip := y, out := [] }) (period := s.scanner.period) (r := code.toNat) settling
  have counted : y.settleCounted = z := rfl
  refine ⟨fun short early => ?_, fun short late => ?_, fun settled held => ?_, fun e rest settled queue thawed => ?_⟩
  · exact arrivalGives_of_busy on busy (step.trans (Ctx.settleStep_of_goes (c := { id := i, strip := y, out := [] }) short early))
  · exact arrivalGives_of_busy on busy (step.trans (Ctx.settleStep_of_stalls (c := { id := i, strip := y, out := [] }) short late))
  all_goals
    have ends := step.trans ((Ctx.settleStep_of_ends (c := { id := i, strip := y, out := [] }) settled).trans Ctx.settleEnd_eq)
  · exact arrivalGives_of_busy on busy (ends.trans (Ctx.startRule_of_rests (held.imp_right Or.inr)))
  · exact arrivalGives_of_busy on busy (ends.trans (Ctx.startRule_of_queued rfl queue rfl thawed))

/-! ### Calibration (R46 to R48) -/

section
variable {c : Ctx} {run : CalRun} {r : Nat}

theorem Ctx.calStep_of_run {run0 : CalRun} (stands : c.strip.calRun = some run0) (counted : run0.countArrival r = run) :
    c.calStep r =
      if 40 ≤ run.steady then (c.update fun x => { x with calRun := some run }).endPhase run r
      else if 4000 ≤ run.count then (c.update fun x => { x with calRun := some run }).failCalibration run .calTimeout
      else (c.update fun x => { x with calRun := some run }).emit (.drive (run.duty c.strip.servo.calDuty)) := by
  subst counted
  unfold Ctx.calStep
  rw [stands]
  rfl

theorem Ctx.failCalibration_eq (c : Ctx) (run : CalRun) (k : FaultKind) : c.failCalibration run k = { c with
    strip := { c.strip with
      grantHeld := false, cal := { c.strip.cal with valid := false }, calRun := none, state := .uncal }
    out := c.out ++ [.drive 0, .giveBack, .record (.finish c.id .failed run.tag .cell c.strip.p), .record (.fault c.id k),
      .cause .strip] } := by
  simp only [Ctx.failCalibration, Ctx.stopDriving, Ctx.finish, Ctx.emit, Ctx.update, Strip.countFinish, List.append_assoc]
  rfl

theorem Ctx.endPhase_of_down (down : run.phase = .down) : c.endPhase run r = { c with
    strip := { c.strip with calRun := some { run with phase := .up, newBottom := r, anchor := none, steady := 0, count := 0 } }
    out := c.out ++ [.drive c.strip.servo.calDuty] } := by
  rw [Ctx.endPhase, down]
  rfl

theorem Ctx.endPhase_of_short (up : run.phase = .up) (short : r < run.newBottom + 512) :
    c.endPhase run r = c.failCalibration run .calSpan := by
  rw [Ctx.endPhase, up]
  exact if_neg (Nat.not_le.mpr short)

theorem Ctx.endPhase_of_long (up : run.phase = .up) (long : run.newBottom + 512 ≤ r) : c.endPhase run r = ({ c with
    strip := { c.strip with
      grantHeld := false, cal := { bottom := run.newBottom, top := r, valid := true }, calRun := none, state := .idle
      v := 4095, arrived := c.strip.arrived + 1 }
    out := c.out ++ [.drive 0, .giveBack, .record (.finish c.id .arrived run.tag .cell c.strip.p)] } : Ctx).startRule := by
  rw [Ctx.endPhase, up]
  refine (if_pos long).trans (congrArg Ctx.startRule ?_)
  simp only [Ctx.stopDriving, Ctx.finish, Ctx.emit, Ctx.update, Strip.countFinish, List.append_assoc]
  rfl

end

theorem calibratingArrival (on : (s.strip i).state ≠ .off) : CalibratingArrival s i code := by
  unfold CalibratingArrival
  intro y r c calibrating stands moved run failed failure
  have counted : c.countArrival r = run := by
    unfold CalRun.countArrival
    split
    · next a anchor =>
      split
      · next far =>
        have k : moved := fun b eq => by rwa [← Option.some.inj (anchor.symm.trans eq)]
        simp only [run, if_pos k]
      · next near =>
        have k : ¬ moved := fun k => near (k a anchor)
        simp only [run, if_neg k]
    · next anchor =>
      have k : moved := fun b eq => by rw [anchor] at eq; cases eq
      simp only [run, if_pos k]
  have busy : (sensed s i code).state ≠ .idle := by rw [show (sensed s i code).state = _ from calibrating]; nofun
  have step := (Ctx.act_of_calibrating (c := { id := i, strip := y, out := [] }) (period := s.scanner.period) (r := r)
    calibrating).trans (Ctx.calStep_of_run (c := { id := i, strip := y, out := [] }) stands counted)
  refine ⟨fun steady down => ?_, fun steady up long => ?_, fun steady up short => ?_, fun moving late => ?_, fun moving early => ?_⟩
  · exact arrivalGives_of_busy on busy (step.trans ((if_pos steady).trans (Ctx.endPhase_of_down down)))
  · exact arrivalGives_of_busy on busy (step.trans ((if_pos steady).trans
      ((Ctx.endPhase_of_long up long).trans (Ctx.startRule_of_idle rfl))))
  · exact arrivalGives_of_busy on busy (step.trans ((if_pos steady).trans
      ((Ctx.endPhase_of_short up short).trans (Ctx.failCalibration_eq _ _ _))))
  · exact arrivalGives_of_busy on busy (step.trans ((if_neg (Nat.not_le.mpr moving)).trans
      ((if_pos late).trans (Ctx.failCalibration_eq _ _ _))))
  · have duty : run.duty y.servo.calDuty = if c.phase = .down then -(y.servo.calDuty : Int) else (y.servo.calDuty : Int) := by
      have phase : run.phase = c.phase := rfl
      unfold CalRun.duty
      rw [phase]
      cases c.phase <;> rfl
    rw [← duty]
    exact arrivalGives_of_busy on busy (step.trans ((if_neg (Nat.not_le.mpr moving)).trans (if_neg (Nat.not_le.mpr early))))

end

/-! ### What no state's step changes of what was sensed -/

/-- The fields of a strip that an arrival senses and adopts, v apart, with the gang it belongs to. -/
def Strip.bySense (x : Strip) := (x.r, x.p, x.pRep, x.pRepSet, x.settings, x.servo, x.streamTarget, x.relatch, x.gang)

/-- `y` holds what `x` sensed, v too where `keepsV`, and leads where `x` does. -/
def Strip.Same (keepsV : Prop) (x y : Strip) : Prop :=
  y.bySense = x.bySense ∧ (x.role = .leader → y.role = .leader) ∧ (keepsV → y.v = x.v)

section
variable {k : Prop} {x y z : Strip} {c : Ctx}

theorem Strip.same_of (sense : y.bySense = x.bySense) (role : y.role = x.role) (v : y.v = x.v) : Strip.Same k x y :=
  ⟨sense, fun leads => role.trans leads, fun _ => v⟩

theorem Strip.Same.trans (first : Strip.Same k x y) (second : Strip.Same k y z) : Strip.Same k x z :=
  ⟨second.1.trans first.1, second.2.1 ∘ first.2.1, fun v => (second.2.2 v).trans (first.2.2 v)⟩

theorem stripStalled_same (x : Strip) : Strip.Same k x (stripStalled x) := by
  rw [stripStalled, outOfActivity_eq]
  exact ⟨rfl, fun leads => by simp [leads], fun _ => rfl⟩

theorem Ctx.startRule_same (c : Ctx) : Strip.Same k c.strip c.startRule.strip := by
  unfold Ctx.startRule
  split
  · exact Strip.same_of rfl rfl rfl
  · split <;> exact Strip.same_of rfl rfl rfl

theorem Ctx.streamTest_same (c : Ctx) : Strip.Same k c.strip c.streamTest.strip := by
  unfold Ctx.streamTest
  split
  · exact Strip.same_of rfl rfl rfl
  · split <;> exact Strip.same_of rfl rfl rfl

theorem Ctx.drive_same {goOn : Ctx → Ctx} (goes : ∀ d : Ctx, Strip.Same k d.strip (goOn d).strip) :
    Strip.Same k c.strip (c.drive goOn).strip := by
  have counts : Strip.Same k c.strip c.strip.countStall := Strip.same_of rfl rfl rfl
  obtain stalls | runs := Nat.lt_or_ge c.strip.countStall.stallCount c.strip.countStall.servo.limit
  · rw [Ctx.drive_of_goes rfl stalls]
    exact counts.trans (goes _)
  · rw [Ctx.drive_of_stalls rfl runs]
    exact counts.trans (stripStalled_same _)

theorem Ctx.finishCurrent_same (c : Ctx) (kind : FinishKind) : Strip.Same k c.strip (c.finishCurrent kind).strip := by
  rw [Ctx.finishCurrent_eq, Strip.currentFinished]
  split
  · exact Strip.same_of rfl rfl rfl
  · cases kind <;> exact Strip.same_of rfl rfl rfl

theorem Ctx.endOfGuide_same (c : Ctx) : Strip.Same k c.strip c.endOfGuide.strip := by
  unfold Ctx.endOfGuide
  split
  · exact (c.finishCurrent_same .arrived).trans (Strip.same_of rfl rfl rfl)
  · exact Strip.same_of rfl rfl rfl

theorem Ctx.servoStep_same (c : Ctx) (period : Nat) (e : Entry) : Strip.Same k c.strip (c.servoStep period e).strip := by
  have steers : Strip.Same k c.strip (c.strip.steered period e) := by
    unfold Strip.steered
    cases c.strip.profile.set <;> exact Strip.same_of rfl rfl rfl
  rw [Ctx.servoStep_eq]
  refine steers.trans (Ctx.drive_same fun d => ?_)
  split
  · exact d.endOfGuide_same
  · exact Strip.same_of rfl rfl rfl

theorem Ctx.streamStep_same (c : Ctx) : Strip.Same k c.strip c.streamStep.strip := by
  have chases : Strip.Same k c.strip (c.strip.chaseAim (c.strip.streamTarget.getD c.strip.p)) := Strip.same_of rfl rfl rfl
  refine chases.trans (Ctx.drive_same fun d => ?_)
  dsimp only
  generalize (if some d.strip.profile.guide = d.strip.streamTarget ∧ d.strip.error.natAbs ≤ d.strip.servo.deadband
    then d.strip.settleCount + 1 else 0) = n
  split
  · exact Strip.Same.trans (Strip.same_of rfl rfl rfl) (Ctx.startRule_same _)
  · exact Strip.same_of rfl rfl rfl

theorem Ctx.settleStep_same (c : Ctx) : Strip.Same k c.strip c.settleStep.strip := by
  have counts : Strip.Same k c.strip c.strip.settleCounted := Strip.same_of rfl rfl rfl
  obtain short | ends := Nat.lt_or_ge c.strip.settleCounted.settleCount c.strip.servo.settled
  · obtain late | early := Nat.lt_or_ge c.strip.servo.limit (c.strip.settleTime + 1)
    · rw [Ctx.settleStep_of_stalls short late]
      exact counts.trans (stripStalled_same _)
    · rw [Ctx.settleStep_of_goes short early]
      exact counts
  · rw [Ctx.settleStep_of_ends ends, Ctx.settleEnd_eq]
    exact Strip.Same.trans (Strip.same_of rfl rfl rfl) (Ctx.startRule_same _)

theorem Ctx.trailStep_same (c : Ctx) : Strip.Same k c.strip c.trailStep.strip := by
  by_cases off : c.strip.settings.trail = 0
  · rw [Ctx.trailStep_of_none off]
    exact Strip.same_of rfl rfl rfl
  · obtain early | due := Nat.lt_or_ge (c.strip.trailStep + 1) c.strip.settings.trail
    · rw [Ctx.trailStep_of_early early]
      exact Strip.same_of rfl rfl rfl
    · rw [Ctx.trailStep_of_due off due]
      split <;> exact Strip.same_of rfl rfl rfl

theorem Ctx.failCalibration_same (c : Ctx) (run : CalRun) (fault : FaultKind) :
    Strip.Same k c.strip (c.failCalibration run fault).strip := by
  rw [Ctx.failCalibration_eq]
  exact Strip.same_of rfl rfl rfl

/-- A calibration's end is where v is set down anew (R47). -/
theorem Ctx.calStep_same (c : Ctx) (r : Nat) : Strip.Same False c.strip (c.calStep r).strip := by
  cases stands : c.strip.calRun with
  | none =>
    rw [Ctx.calStep, stands]
    exact Strip.same_of rfl rfl rfl
  | some run =>
    have counts : Strip.Same False c.strip (c.update fun x => { x with calRun := some (run.countArrival r) }).strip :=
      Strip.same_of rfl rfl rfl
    rw [Ctx.calStep_of_run stands rfl]
    split
    · cases phase : (run.countArrival r).phase with
      | down =>
        rw [Ctx.endPhase_of_down phase]
        exact Strip.same_of rfl rfl rfl
      | up =>
        obtain short | long := Nat.lt_or_ge r ((run.countArrival r).newBottom + 512)
        · rw [Ctx.endPhase_of_short phase short]
          exact counts.trans (Ctx.failCalibration_same _ _ _)
        · rw [Ctx.endPhase_of_long phase long]
          refine Strip.Same.trans ?_ (Ctx.startRule_same _)
          exact ⟨rfl, fun leads => leads, nofun⟩
    · split
      · exact counts.trans (Ctx.failCalibration_same _ _ _)
      · exact counts

theorem Ctx.act_same (c : Ctx) (period r : Nat) : Strip.Same (c.strip.state ≠ .calibrating) c.strip (c.act period r).strip := by
  unfold Ctx.act
  split
  · exact (c.startRule_same).trans (Ctx.streamTest_same _)
  · next calibrating =>
    obtain ⟨sense, leads, -⟩ := c.calStep_same r
    exact ⟨sense, leads, fun other => absurd calibrating other⟩
  · split
    · exact c.servoStep_same period _
    · exact c.streamStep_same
  · exact c.settleStep_same
  · exact Ctx.drive_same fun d => Strip.same_of rfl rfl rfl
  · exact c.trailStep_same
  all_goals exact Strip.same_of rfl rfl rfl

end

/-! ### The arrival whole -/

section
variable {s : State} {i : StripId} {code : Code}

theorem adopted_fields (s : State) (i : StripId) :
    let x := s.strip i
    let y := adopted s i
    y.cal = x.cal ∧ y.settings = x.staged ∧ y.servo = s.servoLoaded[x.staged.servoClass] ∧ y.pRepSet = x.pRepSet ∧
      y.role = x.role ∧ y.gang = x.gang ∧ (y.state = .uncal ↔ x.state = .uncal) ∧ (y.state = .calibrating ↔ x.state = .calibrating) := by
  intro x y
  unfold y adopted
  dsimp only
  split
  · split
    · next streams => simp [x, streams.1]
    · split
      · next waits => simp [x, waits]
      · simp [x]
  · simp [x]

/-- Where source LINK is not left for CELLS, only the settings and the class are taken over. -/
theorem adopted_of_kept (kept : ¬ ((s.strip i).settings.source = .link ∧ (s.strip i).staged.source = .cells)) :
    adopted s i = { s.strip i with settings := (s.strip i).staged, servo := s.servoLoaded[(s.strip i).staged.servoClass] } :=
  if_neg kept

theorem leaderTells_frame (t : State) (i : StripId) : ∃ u, leaderTells t i = u ∧
    u = { t with gangs := u.gangs, inFlight := u.inFlight } ∧ ∀ g, (u.gang g).members = (t.gang g).members := by
  refine ⟨_, rfl, ?_⟩
  unfold leaderTells
  dsimp only
  split
  · next h _ _ =>
    split
    · refine ⟨rfl, fun g => ?_⟩
      by_cases here : g = h
      · subst here
        exact (congrArg Gang.members (Vector.getElem_set_self g.isLt)).trans rfl
      · exact congrArg Gang.members (Vector.getElem_set_ne h.isLt g.isLt (Fin.val_ne_of_ne (Ne.symm here)))
    · exact ⟨rfl, fun _ => rfl⟩
  · exact ⟨rfl, fun _ => rfl⟩

theorem leaderTells_of_other {t : State} (other : (t.strip i).role ≠ .leader) : leaderTells t i = t := by
  unfold leaderTells
  dsimp only
  split
  · next leads _ => exact absurd leads other
  · rfl

theorem leaderTells_of_leader {t : State} {g : GangId} {a : Activity} (leads : (t.strip i).role = .leader)
    (gang : (t.strip i).gang = some g) (activity : (t.gang g).activity = some a) : leaderTells t i = { t with
      gangs := t.gangs.set g { t.gang g with activity := some { a with pL := (t.strip i).p } }
      inFlight := t.inFlight ++ ((t.gang g).members.filter fun j => decide ((t.strip j).role = .follower)).map
        fun j => .followUpdate j (t.strip i).p } := by
  unfold leaderTells
  simp only [leads, gang, activity]

/-- Any arrival: a strip that still holds what was sensed, and the effects of its state's step. -/
theorem arrivalGives (code : Code) (on : (s.strip i).state ≠ .off) : ∃ z es, ArrivalGives s i code z es ∧
    Strip.Same ((s.strip i).state ≠ .calibrating) (sensed s i code) z := by
  obtain ⟨d, acts⟩ : ∃ d, (arriving s i code).act s.scanner.period code.toNat = d := ⟨_, rfl⟩
  have same := (arriving s i code).act_same s.scanner.period code.toNat
  rw [acts] at same
  have gives := State.runStrip_of_eq (s := s.take (.sampleArrival i code))
    ((Ctx.arrive_eq (s.take (.sampleArrival i code)) i code on).trans acts)
  have moved : (s.take (.sampleArrival i code)).sampleArrival i code = _ :=
    (if_neg on).trans ((congrArg (fun t : State => t.leaderMoved i) gives).trans (State.leaderMoved_eq _ i))
  have state : (arriving s i code).strip.state = .calibrating ↔ (s.strip i).state = .calibrating :=
    (adopted_fields s i).2.2.2.2.2.2.2
  exact ⟨d.strip, d.out, congrArg Host.Outcome.next moved, same.1, same.2.1, fun moves => same.2.2 (fun k => moves (state.mp k))⟩

end

/-- Settles O16: OFF discards; any other arrival leaves what was sensed; and the states at rest. -/
theorem sampleArrivalSenses : Obligations.SampleArrivalSenses := by
  intro s i code
  refine ⟨fun off => congrArg Host.Outcome.next (if_pos off), fun on => ?_, fun on => restingArrival on⟩
  obtain ⟨z, es, gives, sense, -, v⟩ := arrivalGives (code := code) on
  obtain ⟨w, effects, frame⟩ := State.effects_frame
    (({ s with inFlight := s.inFlight.erase (.sampleArrival i code) } : State).setStrip i z) i es
  have strips := (({ s with inFlight := s.inFlight.erase (.sampleArrival i code) } : State).setStrip i z).strip_effects i es
  rw [effects] at strips
  obtain ⟨t, tells, told, members⟩ := leaderTells_frame w i
  have runs : exec (.sampleArrival i code) s = .next t := gives.trans (congrArg Host.Outcome.next
    ((congrArg (fun u => leaderTells u i) effects).trans tells))
  have strip : ∀ j, t.strip j = w.strip j := fun j => by rw [told]; rfl
  have here : t.strip i = z := (strip i).trans ((strips i).trans (State.strip_setStrip_self _ _ _))
  obtain ⟨cal, settings, servo, pRepSet, -, -, uncal, -⟩ := adopted_fields s i
  simp only [Strip.bySense, Prod.mk.injEq] at sense
  obtain ⟨r, p, pRep, set, settings', servo', streamTarget, relatch, -⟩ := sense
  refine ⟨t, runs, by rw [told, frame]; rfl, ?_⟩
  rw [here, r, p, pRep, set, settings', servo', streamTarget, relatch]
  refine ⟨rfl, ?_, rfl, fun fresh => ?_, settings, servo, rfl, rfl, rfl, v, fun j other => ?_, fun g => ?_⟩
  · unfold sensed
    simp only [uncal, cal]
  · exact if_pos (.inl (pRepSet.trans fresh))
  · exact (strip j).trans ((strips j).trans (State.strip_setStrip_ne _ _ other))
  · rw [members, frame]
    rfl

end Sys2Proof.Machine
end

section
/-!
SUPPORT. The driving states' arrivals settled, the leader's arrival, and CALIBRATE (chapters 2 and 4).
-/
namespace Sys2Proof.Machine

section
variable {s : State} {i : StripId} {code : Code}

theorem Strip.with_same {x : Strip} {a : StripSettings} {k : ServoClass} (settings : a = x.settings) (servo : k = x.servo) :
    { x with settings := a, servo := k } = x := by
  subst settings servo
  rfl

/-- With nothing newly staged the adoption changes nothing. -/
theorem adopted_of_same (staged : (s.strip i).staged = (s.strip i).settings)
    (servo : (s.strip i).servo = s.servoLoaded[(s.strip i).settings.servoClass]) : adopted s i = s.strip i := by
  have kept : ¬ ((s.strip i).settings.source = .link ∧ (s.strip i).staged.source = .cells) := by
    rintro ⟨link, cells⟩
    rw [staged, link] at cells
    cases cells
  have loaded : s.servoLoaded[(s.strip i).staged.servoClass] = (s.strip i).servo := by
    simp only [staged, servo]
  exact (adopted_of_kept kept).trans (Strip.with_same staged loaded)

/-- What a MOVING strip senses with nothing newly staged. -/
theorem sensed_of_moving (moving : (s.strip i).state = .moving) (staged : (s.strip i).staged = (s.strip i).settings)
    (servo : (s.strip i).servo = s.servoLoaded[(s.strip i).settings.servoClass]) :
    let p := if (s.strip i).cal.valid = false then 0 else travelOf (s.strip i).cal code.toNat
    sensed s i code = { s.strip i with r := code.toNat, p := p, pRep := p, pRepSet := true, v := p } := by
  intro p
  unfold sensed
  simp [adopted_of_same staged servo, moving, p]

/-- One drive value written, to a strip's own channel. -/
theorem State.drive_effects_drive (u : State) (i : StripId) (d : Int) :
    let t := u.effects i [.drive d]
    t.drive i = d ∧ (∀ j, j ≠ i → t.drive j = u.drive j) ∧ t.writer = u.writer ∧ t.attention = u.attention ∧ t.gangs = u.gangs ∧
      t.strips = u.strips :=
  ⟨u.drive_writeDrive i d, fun _ other => u.drive_effects_ne other [.drive d], rfl, rfl, rfl, rfl⟩

/-- An arrival of a strip that does not lead is told to nobody. -/
theorem ArrivalGives.runs {z : Strip} {es : List Effect} (gives : ArrivalGives s i code z es) (other : z.role ≠ .leader) :
    exec (.sampleArrival i code) s = .next ((({ s with inFlight := s.inFlight.erase (.sampleArrival i code) } : State).setStrip i z).effects
      i es) := by
  refine gives.trans (congrArg Host.Outcome.next (leaderTells_of_other ?_))
  rw [State.strip_effects, State.strip_setStrip_self]
  exact other

end

/-- Settles O17: each driving state's arrival whole, and the step of a strip on its way, in numbers. -/
theorem servoStepDrives : Obligations.ServoStepDrives := by
  refine ⟨fun s i code on => ⟨movingArrival on, chasingArrival on, settlingArrival on⟩, ?_⟩
  intro s i code e x q p off g err stall t0 mag moving current staged servo set on_way goes other
  have on : (s.strip i).state ≠ .off := by rw [show (s.strip i).state = _ from moving]; nofun
  have senses := sensed_of_moving (code := code) moving staged servo
  have busy : (sensed s i code).state ≠ .idle := by
    rw [senses, show (s.strip i).state = _ from moving]; nofun
  obtain ⟨y, sensed_y⟩ : ∃ y, y = { x with r := code.toNat, p := p, pRep := p, pRepSet := true, v := (p : Int) } := ⟨_, rfl⟩
  obtain ⟨z, z_eq⟩ : ∃ z : Strip, z = { y with profile := { q with k := q.k + 1, guide := g }, stallCount := stall } := ⟨_, rfl⟩
  have counted : ({ y with profile := y.profile.advance } : Strip).countStall = z := by
    rw [z_eq, sensed_y]
    rfl
  have step : ({ id := i, strip := y, out := [] } : Ctx).act s.scanner.period code.toNat =
      { id := i, strip := z, out := [.drive (driveOf x.servo err)] } := by
    have acts := Ctx.act_of_moving (c := { id := i, strip := y, out := [] }) (period := s.scanner.period) (r := code.toNat)
      (e := e) (by rw [sensed_y]; exact moving) (by rw [sensed_y]; exact current)
    have planned : y.profile.set = true := by rw [sensed_y]; exact set
    have steered : y.steered s.scanner.period e = { y with profile := y.profile.advance } := by
      rw [Strip.steered, if_pos planned]
    rw [acts, Ctx.servoStep_eq, Ctx.update, steered]
    have drives := Ctx.drive_of_goes (c := { id := i, strip := { y with profile := y.profile.advance }, out := [] })
      (goOn := fun d => if d.strip.profile.k = d.strip.profile.steps then d.endOfGuide else d) counted (by rw [z_eq, sensed_y]; exact goes)
    have on_its_way : ¬ z.profile.k = z.profile.steps := by rw [z_eq]; exact Nat.ne_of_lt on_way
    refine drives.trans ((if_neg on_its_way).trans ?_)
    rw [z_eq, sensed_y]
    rfl
  have sensed_is : sensed s i code = y := senses.trans sensed_y.symm
  have gives : ArrivalGives s i code z [.drive (driveOf x.servo err)] := arrivalGives_of_busy on busy
    ((congrArg (fun y => ({ id := i, strip := y, out := [] } : Ctx).act s.scanner.period code.toNat) sensed_is).trans step)
  have runs := gives.runs (by rw [z_eq, sensed_y]; exact other)
  obtain ⟨drive, others, writer, attention, gangs, strips⟩ := State.drive_effects_drive
    (({ s with inFlight := s.inFlight.erase (.sampleArrival i code) } : State).setStrip i z) i (driveOf x.servo err)
  obtain ⟨t, made⟩ : ∃ t, (({ s with inFlight := s.inFlight.erase (.sampleArrival i code) } : State).setStrip i z).effects i
      [.drive (driveOf x.servo err)] = t := ⟨_, rfl⟩
  rw [made] at runs drive others writer attention gangs strips
  have here : t.strip i = z := (congrArg (·[i]) strips).trans (State.strip_setStrip_self _ _ _)
  refine ⟨t, runs, ?_⟩
  rw [here, z_eq, sensed_y]
  exact ⟨rfl, rfl, moving, current, rfl, rfl, drive, others, writer, attention, gangs⟩

/-- Settles O23: the leader's arrival told to its followers, and the four kinds of event a follower takes. -/
theorem followersFollowUntilTheEnd : Obligations.FollowersFollowUntilTheEnd := by
  refine ⟨fun s i code g a on leads gang activity => ?_, fun s i pL => ?_⟩
  · obtain ⟨z, es, gives, sense, lead, -⟩ := arrivalGives (code := code) on
    obtain ⟨-, -, -, -, role, member, -, -⟩ := adopted_fields s i
    simp only [Strip.bySense, Prod.mk.injEq] at sense
    obtain ⟨-, -, -, -, -, -, -, -, gang'⟩ := sense
    have leads' : z.role = .leader := lead (role.trans leads)
    have in_gang : z.gang = some g := gang'.trans (member.trans gang)
    obtain ⟨w, effects, frame⟩ := State.effects_frame
      (({ s with inFlight := s.inFlight.erase (.sampleArrival i code) } : State).setStrip i z) i es
    have strips := (({ s with inFlight := s.inFlight.erase (.sampleArrival i code) } : State).setStrip i z).strip_effects i es
    rw [effects] at strips
    have here : w.strip i = z := (strips i).trans (State.strip_setStrip_self _ _ _)
    have gangs : w.gangs = s.gangs := by rw [frame]; rfl
    have gang_eq : w.gang g = s.gang g := congrArg (·[g]) gangs
    have tells := leaderTells_of_leader (t := w) (by rw [here, leads']) (by rw [here, in_gang]) (by rw [gang_eq, activity])
    have followers : ((w.gang g).members.filter fun j => decide ((w.strip j).role = .follower)) =
        (s.gang g).members.filter fun j => decide ((s.strip j).role = .follower) := by
      rw [gang_eq]
      refine List.filter_congr fun j _ => decide_eq_decide.mpr ?_
      by_cases self : j = i
      · rw [self, here, leads', leads]
      · rw [(strips j).trans (State.strip_setStrip_ne _ _ self)]
        rfl
    rw [followers, gangs, gang_eq] at tells
    have runs : exec (.sampleArrival i code) s = .next _ := gives.trans (congrArg Host.Outcome.next
      ((congrArg (fun u => leaderTells u i) effects).trans tells))
    exact ⟨_, w.inFlight, runs, rfl, rfl, (congrArg Strip.role here).trans leads'⟩
  · obtain ⟨follower, others⟩ := followerEvents s i pL
    intro x v
    exact ⟨follower, others, fun follows following => exec_gangEnd follows (Ctx.activityEnded_of_following (c := s.contextAt i) following),
      fun e rest follows waits queue free => (exec_gangEnd_of_waits follows waits).1 e rest queue free,
      fun follows waits rests => (exec_gangEnd_of_waits follows waits).2 rests,
      fun follows moves rests => exec_gangEnd_of_other follows moves rests⟩

/-! ### CALIBRATE (R45, R50, R97, R98) -/

section
variable {c : Ctx} {n : Nat} {tag : Half} (on : ¬ (n ≤ c.id.val ∨ c.strip.state = .off))
  (free : ¬ c.strip.calibrationStands = true)
include on free

theorem Ctx.calibrate_of_touched (touch : c.strip.touch = true) : c.calibrate n tag = ({ c with
    strip := { outOfActivity (flushedStrip c.strip) with
      state := .uncal, calRun := none, cut := c.strip.cut + 1, cal := { c.strip.cal with valid := false }
      grantHeld := if c.strip.state.driving then false else c.strip.grantHeld }
    out := c.out ++ (flushEffects c.id c.strip ++
      (if c.strip.state.driving then [.drive 0, .giveBack] else if c.strip.state.isWaiting then [.withdraw] else []) ++
      [.record (.finish c.id .cut tag .cell c.strip.p)]) }, .done) := by
  refine (if_neg on).trans ((if_neg free).trans ((if_pos touch).trans (congrArg (·, Outcome.done) ?_)))
  rw [Ctx.flush_eq, Ctx.abortCalibration, Ctx.letGo_eq, Ctx.endRun_eq]
  simp only [Ctx.update, Strip.newRun, Strip.leaveActivity_eq, outOfActivity_eq, Strip.countFinish, Bool.not_true, Bool.and_false,
    List.append_assoc]
  rfl

theorem Ctx.calibrate_of_waits {w : Purpose} (clear : c.strip.touch = false) (waits : c.strip.state = .waiting w) :
    c.calibrate n tag = ({ c with
      strip := { outOfActivity (flushedStrip c.strip) with
        calRun := some { tag := tag, phase := .down, newBottom := 0, anchor := none, steady := 0, count := 0 }
        state := .waiting .calibrate }
      out := c.out ++ (flushEffects c.id c.strip ++ [.request c.strip.settings.priority]) }, .done) := by
  refine (if_neg on).trans ((if_neg free).trans ((if_neg (by rw [clear]; decide)).trans ?_))
  rw [waits, Ctx.flush_eq, ← List.append_assoc]
  simp only [Ctx.update, Strip.leaveActivity_eq]
  rfl

theorem Ctx.calibrate_of_drives (clear : c.strip.touch = false)
    (drives : c.strip.state = .moving ∨ c.strip.state = .settling ∨ c.strip.state = .following) :
    c.calibrate n tag = ({ c with
      strip := { outOfActivity (flushedStrip c.strip) with
        calRun := some { tag := tag, phase := .down, newBottom := 0, anchor := none, steady := 0, count := 0 }
        state := .calibrating }
      out := c.out ++ flushEffects c.id c.strip }, .done) := by
  refine (if_neg on).trans ((if_neg free).trans ((if_neg (by rw [clear]; decide)).trans ?_))
  rw [Ctx.flush_eq]
  simp only [Ctx.update, Strip.leaveActivity_eq]
  obtain state | state | state := drives <;> rw [state] <;> rfl

theorem Ctx.calibrate_of_rests (clear : c.strip.touch = false)
    (rests : c.strip.state = .idle ∨ c.strip.state = .uncal ∨ c.strip.state = .stalled ∨ c.strip.state = .touched) :
    c.calibrate n tag = ({ c with
      strip := { c.strip with
        calRun := some { tag := tag, phase := .down, newBottom := 0, anchor := none, steady := 0, count := 0 }
        state := .waiting .calibrate }
      out := c.out ++ [.request c.strip.settings.priority] }, .done) := by
  refine (if_neg on).trans ((if_neg free).trans ((if_neg (by rw [clear]; decide)).trans ?_))
  obtain state | state | state | state := rests <;> rw [state] <;> rfl

end

section
variable {s : State} {i : StripId} {tag : Half}

/-- An accepted CALIBRATE, with a leader's departure after it. -/
theorem calibrateGives {z : Strip} {es : List Effect} (lead : (s.strip i).role = .leader → z.role = .leader ∧ z.gang = (s.strip i).gang)
    (accepted : (s.contextAt i).calibrate s.stripCount tag = ({ id := i, strip := z, out := es }, .done)) :
    CalibrateGives s i tag z es := by
  have command := State.runCommand_of_eq (s := s) (f := Ctx.calibrate s.stripCount tag) accepted
  have runs : s.calibrate i tag = if (s.strip i).role = .leader ∧
      (((s.setStrip i z).effects i es).answer .done 0).sweep.outcome = some .done then
      (((s.setStrip i z).effects i es).answer .done 0).leaderDeparts i else ((s.setStrip i z).effects i es).answer .done 0 := by
    rw [State.calibrate, command]
  refine ⟨fun other => congrArg Host.Outcome.next (runs.trans (if_neg fun k => other k.1)), fun g a leads gang activity => ?_⟩
  obtain ⟨role, same⟩ := lead leads
  refine congrArg Host.Outcome.next (runs.trans ((if_pos ⟨leads, rfl⟩).trans ?_))
  exact State.leaderDeparts_answer (by simpa using role) (by simpa [same] using gang) (by simpa using activity) _ _

theorem State.calibrate_of_refused {o : Outcome} (refusal : o ≠ .done)
    (refused : (s.contextAt i).calibrate s.stripCount tag = (s.contextAt i, o)) : s.calibrate i tag = s.answer o 0 := by
  rw [State.calibrate, State.runCommand_of_refused refused]
  exact if_neg fun k => refusal (Option.some.inj k.2)

theorem outOfActivity_flushed_leads (x : Strip) (leads : x.role = .leader) :
    (outOfActivity (flushedStrip x)).role = .leader ∧ (outOfActivity (flushedStrip x)).gang = x.gang := by
  have role : (flushedStrip x).role = .leader := leads
  rw [outOfActivity_eq]
  exact ⟨by simp [role], rfl⟩

end

/-- Settles O29: the arrivals of a calibration, the refusals, and the run created by the hand, the wait and the drive. -/
theorem calibrateBeginsRun : Obligations.CalibrateBeginsRun := by
  intro s i tag x off stands run f es gives
  refine ⟨fun code on => calibratingArrival on,
    fun out => congrArg Host.Outcome.next (State.calibrate_of_refused (by decide) (if_pos out)),
    fun on held => congrArg Host.Outcome.next (State.calibrate_of_refused (by decide)
      ((if_neg on).trans (if_pos ((Strip.calibrationStands_iff _).mpr held)))), fun on free => ?_⟩
  have free' : ¬ (s.contextAt i).strip.calibrationStands = true := fun k => free ((Strip.calibrationStands_iff _).mp k)
  have lead := outOfActivity_flushed_leads x
  refine ⟨fun touch => calibrateGives lead (Ctx.calibrate_of_touched on free' touch),
    fun clear => ⟨fun rests => calibrateGives (fun leads => ⟨leads, rfl⟩) (Ctx.calibrate_of_rests on free' clear rests),
      fun waits => calibrateGives lead ?_, fun drives => calibrateGives lead (Ctx.calibrate_of_drives on free' clear drives)⟩⟩
  obtain waits | waits | waits := waits
  · exact Ctx.calibrate_of_waits on free' clear waits
  · exact Ctx.calibrate_of_waits on free' clear waits
  · exact Ctx.calibrate_of_waits on free' clear waits

end Sys2Proof.Machine
end

section
/-!
SUPPORT. The Activity Writer's pages (chapter 6) and the STOP sequence that watches them (R183): each step of the model as the
step the statements write out.
-/
namespace Sys2Proof.Machine

/-! ### A page handed over (R126) -/

/-- The Activity Writer takes no part in a handing: it can be set before or after. -/
theorem State.postAll_withWriter (s : State) (w : Writer) (ws : List PostedWrite) :
    ({ s with writer := w } : State).postAll ws = { s.postAll ws with writer := w } := by
  have same : s.SameImage { s with writer := w } := ⟨rfl, rfl, rfl, rfl, rfl⟩
  refine (same.postAll_eq ws).trans ?_
  rw [State.withImage, (s.onImage_postAll ws).eq_withImage, State.withImage]

theorem Writer.headerWords_eq (w : Writer) :
    let page := 0x2800 + 4 * w.pageSize * w.page
    let word := fun (at_ : Nat) (d : Word) => ({ offset := at_, data := d, note := .plain } : PostedWrite)
    w.headerWords = [word (page + 4) (w.base.getD 0), word (page + 8) (if w.gap then 1 else 0),
      word page (BitVec.ofNat 32 (w.used % 65536 * 65536))] := by
  have gap : BitVec.ofNat 32 (boolBit w.gap) = if w.gap then 1 else 0 := by cases w.gap <;> rfl
  intro page word
  unfold Writer.headerWords
  rw [gap]
  rfl

theorem State.handPage_eq (s : State) : s.handPage = pageHanded s := by
  obtain ⟨v, handed⟩ : ∃ v, s.postAll s.writer.headerWords = v := ⟨_, rfl⟩
  have hands := s.postAll_withWriter { s.writer with hold := none } s.writer.headerWords
  rw [handed] at hands
  have words := congrArg s.postAll s.writer.headerWords_eq
  rw [handed] at words
  unfold State.handPage pageHanded
  rw [hands]
  dsimp only
  rw [← words]
  rfl

theorem State.closePage_eq (s : State) : s.closePage = pageClosed s := by
  rw [State.closePage, State.handPage_eq]
  rfl

theorem State.endDrain_eq (s : State) : s.endDrain = drainEnds s := by
  unfold State.endDrain drainEnds
  rw [State.handPage_eq]

/-! ### The Report Writer's words as the queue has places (R201) -/

section
variable {s : State} {run : ReportRun} {m : Nat}

theorem State.pumpFor_of_full (full : 8 ≤ s.posted.length) : State.pumpFor m s = s := by
  cases m with
  | zero => rfl
  | succ m => exact if_neg (Nat.not_lt.mpr full)

theorem State.pumpFor_of_none (idle : s.reporter.run = none) : State.pumpFor m s = s := by
  induction m with
  | zero => rfl
  | succ m ih =>
    unfold State.pumpFor
    rw [State.reportAction_of_none idle]
    split
    · exact ih
    · rfl

/-- A record begun, its values taken. -/
theorem State.pumpFor_of_begins (place : s.posted.length < 8) (runs : s.reporter.run = some run) (empty : run.words = [])
    (more : run.next < 99) : State.pumpFor (m + 1) s = State.pumpFor m { s with reporter := { s.reporter with
      run := some { run with
        next := run.next + 1
        words := layWords (run.bank.offset + 4 * (s.reportRecord run.next).1) (s.reportRecord run.next).2 } } } := by
  refine (if_pos place).trans (congrArg (State.pumpFor m) ?_)
  unfold State.reportAction
  simp only [runs, empty, if_pos more]

/-- Words of the record in hand handed, as many as there are places for. -/
theorem State.pumpFor_of_words {k : Nat} (runs : s.reporter.run = some run) (held : k ≤ run.words.length)
    (places : s.posted.length + k ≤ 8) (plain : ∀ x ∈ run.words, x.note = .plain) :
    State.pumpFor (k + m) s = State.pumpFor m { s with
      posted := s.posted ++ run.words.take k
      reporter := { s.reporter with run := some { run with words := run.words.drop k } } } := by
  induction k generalizing s run with
  | zero =>
    have same : s = { s with
        posted := s.posted ++ run.words.take 0
        reporter := { s.reporter with run := some { run with words := run.words.drop 0 } } } := by
      rw [List.take_zero, List.append_nil, List.drop_zero, ← runs]
    rw [Nat.zero_add, ← same]
  | succ k ih =>
    cases words : run.words with
    | nil => simp [words] at held
    | cons w rest =>
      have note : w.note = .plain := plain w (words ▸ List.mem_cons_self)
      have acts : s.reportAction = { s with
          posted := s.posted ++ [w], reporter := { s.reporter with run := some { run with words := rest } } } := by
        rw [State.reportAction_of_word runs words]
        simp [note]
      have place : s.posted.length < 8 := by omega
      rw [Nat.add_right_comm]
      refine ((if_pos place).trans (congrArg (State.pumpFor (k + m)) acts)).trans ?_
      rw [words, List.length_cons] at held
      refine (ih rfl (Nat.le_of_succ_le_succ held) (by simp; omega) fun x mem => plain x (words ▸ List.mem_cons_of_mem _ mem)).trans ?_
      simp only [List.take_succ_cons, List.drop_succ_cons, List.append_assoc, List.singleton_append]

end

theorem layWords_length (o : Nat) (ws : List Word) : (layWords o ws).length = ws.length := by
  induction ws generalizing o with
  | nil => rfl
  | cons w ws ih => exact congrArg (· + 1) (ih _)

theorem State.partRecord_length (s : State) : (s.reportRecord 0).2.length = 4 := rfl

theorem State.stripRecord_length (s : State) : (s.reportRecord 1).2.length = 5 := rfl

/-- The Report Writer at the start of a report: as many words of its first two records as there are places. -/
theorem State.pump_begun {s : State} {bank : Bank} (runs : s.reporter.run = some { bank := bank, next := 0, words := [] }) :
    let part := layWords bank.offset (s.reportRecord 0).2
    let both := part ++ layWords (bank.offset + 16) (s.reportRecord 1).2
    let n := 8 - s.posted.length
    s.pump = { s with
      posted := s.posted ++ both.take n
      reporter := { s.reporter with run := some {
        bank := bank, next := if n = 0 then 0 else if n ≤ 4 then 1 else 2
        words := if n = 0 then [] else if n ≤ 4 then part.drop n else both.drop n } } } := by
  intro part both n
  have part_length : part.length = 4 := layWords_length _ _
  have second_length : (layWords (bank.offset + 16) (s.reportRecord 1).2).length = 5 := layWords_length _ _
  by_cases full : 8 ≤ s.posted.length
  · have none_ : n = 0 := by omega
    rw [State.pump, State.pumpFor_of_full full, none_, if_pos rfl, if_pos rfl, List.take_zero, List.append_nil, ← runs]
  · have first : State.pumpFor 24 s = State.pumpFor 23 { s with
        reporter := { s.reporter with run := some { bank := bank, next := 1, words := part } } } :=
      State.pumpFor_of_begins (Nat.not_le.mp full) runs rfl (Nat.zero_lt_succ _)
    by_cases few : n ≤ 4
    · have some_ : n ≠ 0 := by omega
      have hands := State.pumpFor_of_words (s := { s with
          reporter := { s.reporter with run := some { bank := bank, next := 1, words := part } } })
        (m := 23 - n) (k := n) rfl (by simp only [part_length]; exact few) (by show s.posted.length + n ≤ 8; omega) (layWords_note _ _)
      rw [Nat.add_sub_cancel' (by omega : n ≤ 23)] at hands
      rw [State.pump, first, hands, State.pumpFor_of_full (by simp; omega), if_neg some_, if_neg some_, if_pos few, if_pos few,
        List.take_append_of_le_length (by omega)]
    · have hands := State.pumpFor_of_words (s := { s with
          reporter := { s.reporter with run := some { bank := bank, next := 1, words := part } } })
        (m := 19) (k := 4) rfl (by simp only [part_length]; exact Nat.le_refl 4) (by show s.posted.length + 4 ≤ 8; omega) (layWords_note _ _)
      have all : part.take 4 = part := List.take_of_length_le (by omega)
      have none_ : part.drop 4 = [] := List.drop_of_length_le (by omega)
      simp only [all, none_] at hands
      have second := State.pumpFor_of_begins (m := 18) (s := { s with
          posted := s.posted ++ part, reporter := { s.reporter with run := some { bank := bank, next := 1, words := [] } } })
        (by simp only [List.length_append, part_length]; omega) rfl rfl (Nat.lt_add_of_pos_left (n := 1) (k := 98) (by omega))
      have rest := State.pumpFor_of_words (m := 18 - (n - 4)) (k := n - 4) (s := { s with
          posted := s.posted ++ part
          reporter := { s.reporter with run := some {
            bank := bank, next := 2, words := layWords (bank.offset + 16) (s.reportRecord 1).2 } } })
        rfl (by simp only [second_length]; omega) (by simp only [List.length_append, part_length]; omega) (layWords_note _ _)
      rw [Nat.add_sub_cancel' (by omega : n - 4 ≤ 18)] at rest
      have some_ : n ≠ 0 := by omega
      rw [State.pump, first, hands]
      refine second.trans (rest.trans ?_)
      rw [State.pumpFor_of_full (by simp only [List.length_append, part_length, List.length_take, second_length]; omega),
        if_neg some_, if_neg some_, if_neg few, if_neg few, List.take_append, List.drop_append, part_length,
        List.take_of_length_le (i := n) (l := part) (by omega), List.drop_of_length_le (i := n) (l := part) (by omega), List.nil_append,
        List.append_assoc]

/-- The final report begun, with as many words handed as there are places (R183 step 4). -/
theorem State.finalReport_eq (s : State) :
    { s.beginReport.pump with part := { s.beginReport.pump.part with stop := .report } } = finalReportBegins s := by
  have begins := State.pump_begun (s := s.beginReport) (bank := s.reporter.bank.other) rfl
  have part : s.beginReport.pump.part = s.part := (State.onImage_pump _).part
  rw [part, begins]
  unfold finalReportBegins
  cases s.reporter.bank <;> rfl

/-! ### The STOP sequence going on (R183, steps 3 to 5) -/

theorem Writer.drained_iff (w : Writer) : w.drained = true ↔ w.queue = [] ∧ w.held = [] ∧ ¬ (w.state = .filling ∧ w.lost ≠ 0) := by
  simp [Writer.drained, and_assoc, Decidable.imp_iff_not_or]

theorem State.stopDisplay_of_report {s : State} (ends : s.part.stop = .report ∧ s.reporter.run = none) :
    s.stopDisplay = displayStops s := by
  refine (if_pos ends).trans ?_
  rw [State.leaveLinks_eq]
  rfl

/-- The STOP sequence as far as it goes. -/
theorem State.stopSequence_eq (s : State) : s.stopDrain.stopReport.stopDisplay = stopGoesOn s := by
  have drain : s.stopDrain = if s.part.stop = .drain ∧ s.writer.queue = [] ∧ s.writer.held = [] ∧
      ¬ (s.writer.state = .filling ∧ s.writer.lost ≠ 0) then drainEnds s else s := by
    rw [← State.endDrain_eq]
    exact ite_congr (propext (and_congr_right fun _ => Writer.drained_iff _)) (fun _ => rfl) fun _ => rfl
  have report : ∀ a : State, a.stopReport = if a.part.stop = .awaitReport ∧ a.reporter.run = none then finalReportBegins a else a := by
    intro a
    rw [← State.finalReport_eq]
    rfl
  have display : ∀ b : State, b.stopDisplay = if b.part.stop = .report ∧ b.reporter.run = none then displayStops b else b := by
    intro b
    by_cases ends : b.part.stop = .report ∧ b.reporter.run = none
    · rw [State.stopDisplay_of_report ends, if_pos ends]
    · exact (if_neg ends).trans (if_neg ends).symm
  rw [display, report, drain]
  rfl

theorem State.advanceStop_eq (s : State) : s.advanceStop = stopWatched s := by
  unfold State.advanceStop stopWatched
  rw [State.stopSequence_eq]

end Sys2Proof.Machine
end

section
/-!
SUPPORT. Records and their places (sections 6.1 to 6.4): the words of each kind, the activity queue, placements, and owner reads.
-/
namespace Sys2Proof.Machine

/-! ### The words of a record (R119, section 10.5) -/

theorem recordHead_eq {kind id sub origin : Nat} (offset : Nat) (kinds : kind < 16) (ids : id < 32) (subs : sub < 16)
    (origins : origin < 2) : recordHead kind id sub origin offset =
      BitVec.ofNat 32 (kind + 16 * id + 512 * sub + 8192 * origin + 65536 * (offset % 65536)) := by
  unfold recordHead bitsAt
  congr 1
  omega

/-- The positions of a TRAIL record, two to a word. -/
theorem positionWords_eq (ps : List Nat) : positionWords ps = (List.range ((ps.length + 1) / 2)).map fun n =>
    BitVec.ofNat 32 ((ps.getD (2 * n) 0) % 4096 + 65536 * ((ps.getD (2 * n + 1) 0) % 4096)) := by
  induction ps using positionWords.induct with
  | case1 => rfl
  | case2 a => simp [positionWords, bitsAt]
  | case3 a b rest ih =>
    have words : ((a :: b :: rest).length + 1) / 2 = (rest.length + 1) / 2 + 1 := by simp only [List.length_cons]; omega
    rw [positionWords, ih, words, List.range_succ_eq_map, List.map_cons, List.map_map]
    refine List.cons_eq_cons.mpr ⟨?_, List.map_congr_left fun n _ => ?_⟩
    · simp [bitsAt, Nat.mul_comm]
    · have even : 2 * (n + 1) = 2 * n + 1 + 1 := by omega
      simp [even]

theorem recordLayout : RecordLayout := by
  intro i g p offset ps tag k o f e head kindNumber faultNumber eventNumber pos
  have strip : i.val < 32 := i.isLt
  have gang : g.val < 32 := Nat.lt_trans g.isLt (by decide)
  have word1 : ∀ n, BitVec.ofNat 32 (bitsAt n 12 0) = BitVec.ofNat 32 (n % 4096) := fun n => by simp [bitsAt]
  refine ⟨?_, ?_, fun some_ few => ?_, ?_, ?_, ?_, fun small => ?_⟩
  · rw [Rec.words, recordHead_eq offset (by decide) strip (by decide) (by decide), word1]
  · rw [Rec.words, recordHead_eq offset (by decide) strip (by decide) (by decide), word1]
  · rw [Rec.words, recordHead_eq offset (by decide) strip (by omega) (by decide), positionWords_eq]
  · have kinds : kindNumber = k.code := by cases k <;> rfl
    have origins : (if o = .scene then 1 else 0) = o.code := by cases o <;> rfl
    have sub : k.code < 16 := by cases k <;> decide
    have origin : o.code < 2 := by cases o <;> decide
    rw [Rec.words, recordHead_eq offset (by decide) strip sub origin, kinds, origins]
    have tags : bitsAt tag.toNat 16 0 + bitsAt p 12 16 = tag.toNat + 65536 * (p % 4096) := by
      have := tag.isLt
      unfold bitsAt
      omega
    rw [tags]
  · have faults : faultNumber = f.code := by cases f <;> rfl
    have sub : f.code < 16 := by cases f <;> decide
    rw [Rec.words, recordHead_eq offset (by decide) strip sub (by decide), faults]
  · have events : eventNumber = e.code := by cases e <;> rfl
    have sub : e.code < 16 := by cases e <;> decide
    have leader : bitsAt i.val 5 0 = i.val := by
      unfold bitsAt
      omega
    rw [Rec.words, recordHead_eq offset (by decide) gang sub (by decide), events, leader]
  · have lost : bitsAt p 16 0 = p := by
      unfold bitsAt
      omega
    rw [gapWords, recordHead_eq offset (by decide) (by decide) (by decide) (by decide), lost]

/-! ### A record handed (R120, R121) -/

theorem isFZ_iff (w : Word) : isFZ w = true ↔ w.toNat % 256 = 1 := by
  simp [isFZ, fieldOf, Config.ownerFZ]

section
variable {w : Writer} {q : QueuedRec}

theorem Writer.hand_free (serving : w.queue.length < 16) : w.hand false q = { w with queue := w.queue ++ [q] } := if_pos serving

theorem Writer.hand_full (full : 16 ≤ w.queue.length) : w.hand false q =
    { w with lost := min 65535 (w.lost + 1), lostCount := w.lostCount + 1 } := if_neg (Nat.not_lt.mpr full)

theorem Writer.hand_stopping_filling (filling : w.state = .filling) : w.hand true q =
    if w.queue.length < 16 ∧ w.held = [] then { w with queue := w.queue ++ [q] } else { w with held := w.held ++ [q] } :=
  if_pos filling

theorem Writer.hand_stopping_seeking (other : w.state ≠ .filling) : w.hand true q =
    if w.deadSeek then w.drop else if w.queue.length < 16 then { w with queue := w.queue ++ [q] } else w.drop := if_neg other

/-- A record handed moves no page. -/
theorem Writer.hand_page (w : Writer) (stopping : Bool) (q : QueuedRec) :
    (w.hand stopping q).page = w.page ∧ (w.hand stopping q).pageSize = w.pageSize := by
  unfold Writer.hand
  repeat' split
  all_goals exact ⟨rfl, rfl⟩

end

/-- Settles O40: the layout, the handing by part state and writer state, and the queue's own rules. -/
theorem activityQueueTakesRecords : Obligations.ActivityQueueTakesRecords := by
  refine ⟨recordLayout, fun s r => ?_, fun w q => ?_⟩
  · intro w q free
    refine ⟨fun serving => ⟨fun other => ?_, fun seeking => ?_⟩, fun stopping => ?_⟩
    · rw [State.handRecord_served serving, if_neg other, List.append_nil]
    · rw [State.handRecord_served serving, if_pos seeking]
    · obtain ⟨page, size⟩ := w.hand_page true q
      have owner : isFZ ({ s with writer := w.hand true q } : State).pageOwner = true ↔ free := by
        rw [isFZ_iff, State.pageOwner, Writer.pageOffset, size, page]
        rfl
      have hands := State.handRecord_stopping stopping r
      refine ⟨fun handing seeking alive fz => ?_, fun other => ?_⟩
      · rw [hands, if_pos ⟨seeking, handing, alive, owner.mpr fz⟩]
        rfl
      · rw [hands, if_neg]
        rintro ⟨seeking, handing, alive, fz⟩
        obtain idle | rests | dead | taken := other
        · exact idle handing
        · exact rests seeking
        · exact Bool.false_ne_true (alive.symm.trans dead)
        · exact taken (owner.mp fz)
  · refine ⟨fun other alive room => ?_, fun other refused => ?_, fun filling held => ?_, Writer.hand_free, Writer.hand_full,
      fun filling empty room => ?_, fun filling full => ?_⟩
    · rw [Writer.hand_stopping_seeking other, if_neg (by rw [alive]; decide), if_pos room]
    · rw [Writer.hand_stopping_seeking other]
      obtain full | dead := refused
      · rw [if_neg (Nat.not_lt.mpr full), ite_self]
        rfl
      · rw [if_pos dead]
        rfl
    · rw [Writer.hand_stopping_filling filling, if_neg fun k => held k.2]
    · rw [Writer.hand_stopping_filling filling, if_pos ⟨room, empty⟩]
    · rw [Writer.hand_stopping_filling filling, if_neg fun k => Nat.not_le.mpr k.1 full]

/-! ### Placements (R124 to R127) -/

theorem Writer.releaseHeld_eq (w : Writer) : w.releaseHeld = heldJoins w := by
  unfold Writer.releaseHeld heldJoins
  cases w.held <;> rfl

/-- The writer once `length` words are placed at event time `time`, before its queue and its lost count change. -/
def Writer.opened (w : Writer) (time : Word) (length : Nat) : Writer :=
  { w with
    used := w.used + length, base := some (w.base.getD time)
    holdTime := if w.base = none then w.holdStaged else w.holdTime
    hold := if w.base = none then some w.holdStaged else w.hold }

theorem Writer.placed_gap (w : Writer) (time : Word) : w.placed (.gap time) = { w.opened time 2 with lost := 0, gap := true } := by
  unfold Writer.placed Writer.opened
  cases w.base <;> rfl

theorem Writer.placed_head (w : Writer) (q : QueuedRec) (rest : List QueuedRec) :
    w.placed (.head q rest) = { w.opened q.time q.record.length with queue := rest } := by
  unfold Writer.placed Writer.opened
  cases w.base <;> rfl

theorem Writer.fits_iff (w : Writer) (d : Due) : w.fits d = true ↔ w.offset d.time ≤ 65535 ∧ w.used + d.length ≤ w.pageSize := by
  simp [Writer.fits]

section
variable {s : State} {d : Due}

theorem State.placeRecord_of_none (none_ : s.writer.state ≠ .filling ∨ (s.writer.queue = [] ∧ s.writer.lost = 0)) :
    s.placeRecord = s := by
  unfold State.placeRecord
  split
  · next filling =>
    obtain ⟨empty, whole⟩ := none_.resolve_left fun other => other filling
    rw [Writer.due, empty]
    simp only [if_pos whole]
  · rfl

theorem State.placeRecord_of_due (filling : s.writer.state = .filling) (due : s.writer.due s.part.time = some d) :
    s.placeRecord = if s.writer.fits d then s.place d else s.closePage := by
  unfold State.placeRecord
  rw [if_pos filling, due]

theorem State.place_eq (s : State) (d : Due) : s.place d =
    { s.postAll (layWords (0x2800 + 4 * s.writer.pageSize * s.writer.page + 4 * s.writer.used)
        (d.words s.writer.lost (s.writer.offset d.time))) with writer := heldJoins (s.writer.placed d) } := by
  rw [← Writer.releaseHeld_eq]
  exact State.postAll_withWriter _ _ _

end

/-- Settles O38: nothing due, the GAP record, the record at the queue's head, and the page closed, each watched by the STOP sequence. -/
theorem placementWritesOrCloses : Obligations.PlacementWritesOrCloses := by
  intro s w time length offset page fits opened gives
  have watched : ∀ {t}, s.placeRecord = t → gives t := fun placed =>
    congrArg Host.Outcome.next ((congrArg State.advanceStop placed).trans (State.advanceStop_eq _))
  have gap : w.lost ≠ 0 → w.due s.part.time = some (.gap time) ∧ length = 2 := fun lost => by
    refine ⟨?_, if_pos lost⟩
    unfold time Writer.due
    cases w.queue with
    | nil => exact if_neg lost
    | cons q rest => exact if_neg lost
  have head : ∀ q rest, w.lost = 0 → w.queue = q :: rest →
      w.due s.part.time = some (.head q rest) ∧ length = q.record.length ∧ time = q.time := fun q rest whole queue => by
    have zero : ¬ w.lost ≠ 0 := Classical.not_not.mpr whole
    unfold length time Writer.due
    rw [queue, if_neg zero]
    exact ⟨if_pos whole, rfl, rfl⟩
  clear_value length time
  refine ⟨fun none_ => watched (State.placeRecord_of_none none_), fun filling lost fit => ?_,
    fun q rest filling whole queue fit => ?_, fun filling some_ unfit => ?_⟩
  · obtain ⟨due, two⟩ := gap lost
    subst two
    have placed := State.placeRecord_of_due filling due
    rw [if_pos ((Writer.fits_iff w (.gap time)).mpr fit), State.place_eq, Writer.placed_gap] at placed
    exact watched placed
  · obtain ⟨due, long, stamped⟩ := head q rest whole queue
    subst long stamped
    have placed := State.placeRecord_of_due filling due
    rw [if_pos ((Writer.fits_iff w (.head q rest)).mpr fit), State.place_eq, Writer.placed_head] at placed
    exact watched placed
  · by_cases whole : w.lost = 0
    · obtain ⟨q, rest, queue⟩ := List.exists_cons_of_ne_nil (some_.resolve_right fun lost => lost whole)
      obtain ⟨due, long, stamped⟩ := head q rest whole queue
      subst long stamped
      have closed := State.placeRecord_of_due filling due
      rw [if_neg fun k => unfit ((Writer.fits_iff w (.head q rest)).mp k), State.closePage_eq] at closed
      exact watched closed
    · obtain ⟨due, two⟩ := gap whole
      subst two
      have closed := State.placeRecord_of_due filling due
      rw [if_neg fun k => unfit ((Writer.fits_iff w (.gap time)).mp k), State.closePage_eq] at closed
      exact watched closed

/-! ### Owner reads and timers (R123, R126, R127, R131) -/

theorem Writer.drops_eq (l : List QueuedRec) (w : Writer) : l.foldl (fun v _ => v.drop) w = { w with
    lost := if l.length = 0 then w.lost else min 65535 (w.lost + l.length)
    lostCount := w.lostCount + BitVec.ofNat 16 l.length } := by
  induction l generalizing w with
  | nil => simp
  | cons q l ih =>
    have lost : (if l.length = 0 then w.drop.lost else min 65535 (w.drop.lost + l.length)) = min 65535 (w.lost + (l.length + 1)) := by
      have dropped : w.drop.lost = min 65535 (w.lost + 1) := rfl
      rw [dropped]
      split <;> omega
    have count : w.drop.lostCount + BitVec.ofNat 16 l.length = w.lostCount + BitVec.ofNat 16 (l.length + 1) := by
      rw [Nat.add_comm l.length, BitVec.ofNat_add, ← BitVec.add_assoc]
      rfl
    rw [List.foldl_cons, ih, lost, count, List.length_cons, if_neg (Nat.succ_ne_zero _)]
    rfl

theorem Writer.dropAll_eq (w : Writer) :
    let k := w.queue.length + w.held.length
    w.dropAll = { w with
      queue := [], held := [], deadSeek := true, lost := if k = 0 then w.lost else min 65535 (w.lost + k)
      lostCount := w.lostCount + BitVec.ofNat 16 k } := by
  rw [Writer.dropAll, Writer.drops_eq, List.length_append]

theorem State.beforeRead_writer (s : State) (host : List HostWrite) : (s.beforeRead host).writer = s.writer ∧
    (s.beforeRead host).part = s.part := ⟨(s.onImage_beforeRead host).writer, (s.onImage_beforeRead host).part⟩

/-- Settles O39: the owner read by its owner word, and the two timers. -/
theorem pagesAreSoughtAndHeld : Obligations.PagesAreSoughtAndHeld := by
  intro s host w u v page free k gives
  obtain ⟨writer, part⟩ := u.beforeRead_writer host
  have writer' : v.writer = w := writer
  have part' : v.part = s.part := part
  have owner : isFZ v.pageOwner = true ↔ free := by
    rw [isFZ_iff, State.pageOwner, Writer.pageOffset, writer']
    rfl
  have reads : ∀ {t}, u.ownerRead host = t → gives t := fun read =>
    congrArg Host.Outcome.next ((congrArg State.advanceStop read).trans (State.advanceStop_eq _))
  have seeks : w.state = .seeking → w.deadSeek = false → u.ownerRead host = v.takeOwner := fun seeking alive =>
    if_pos ⟨seeking, alive⟩
  have timer : s.retryRunning = true ↔ w.state = .seeking ∧ w.queue ≠ [] ∧ s.part.state ≠ .stopping := by
    simp [State.retryRunning, and_assoc, w]
  refine ⟨fun seeking alive fz => reads ((seeks seeking alive).trans ?_), fun seeking alive taken => ⟨fun serving => reads ((seeks seeking alive).trans ?_),
    fun stopping => reads ((seeks seeking alive).trans ?_)⟩, fun idle => reads (if_neg ?_), fun seeking some_ serving => ?_, fun idle => ?_,
    fun still => ?_, fun runs => ?_⟩
  · refine (if_pos (owner.mpr fz)).trans ?_
    rw [writer']
    rfl
  · exact (if_neg fun k => taken (owner.mp k)).trans (if_neg (by rw [part']; exact serving))
  · refine (if_neg fun k => taken (owner.mp k)).trans ((if_pos (by rw [part']; exact stopping)).trans ?_)
    rw [writer', Writer.dropAll_eq]
  · rintro ⟨seeking, alive⟩
    exact idle.elim (fun other => other seeking) fun dead => Bool.false_ne_true (alive.symm.trans dead)
  · exact congrArg Host.Outcome.next (if_pos (timer.mpr ⟨seeking, some_, serving⟩))
  · refine congrArg Host.Outcome.next (if_neg fun k => ?_)
    obtain ⟨seeking, some_, serving⟩ := timer.mp k
    exact idle.elim (fun other => other seeking) fun h => h.elim some_ serving
  · have stays : s.holdExpiry = s := if_neg (by rw [show s.writer.hold = none from still]; decide)
    exact congrArg Host.Outcome.next ((congrArg State.advanceStop stays).trans (State.advanceStop_eq _))
  · have closes : s.holdExpiry = pageClosed s :=
      (if_pos (Option.isSome_iff_ne_none.mpr runs)).trans (State.closePage_eq s)
    exact congrArg Host.Outcome.next ((congrArg State.advanceStop closes).trans (State.advanceStop_eq _))

end Sys2Proof.Machine
end

section
/-!
SUPPORT. ACTIVITY_FLUSH (section 6.4): what it still owes the page, step by step, and where it stops.
-/
namespace Sys2Proof.Machine

/-! ### What the writer owes -/

/-- The placements a writer still owes: one for each queued record, and the GAP record where records were lost. -/
def Writer.owed (w : Writer) : Nat := w.queue.length + (if w.lost = 0 then 0 else 1)

/-- A writer as R119 and R122 leave it outside STOPPING: nothing held, and every queued record fits a page without one. -/
def Writer.Ordinary (w : Writer) : Prop := w.held = [] ∧ 64 ≤ w.pageSize ∧ ∀ q ∈ w.queue, q.record.length ≤ 5

/-- A page obtained and not yet written. -/
def Writer.Fresh (w : Writer) : Prop := w.base = none ∧ w.used = 3

section
variable {w : Writer} {now : Word} {d : Due}

theorem Writer.owed_eq_zero : w.owed = 0 ↔ w.queue = [] ∧ w.lost = 0 := by
  unfold Writer.owed
  rw [Nat.add_eq_zero_iff, List.length_eq_zero_iff]
  refine and_congr_right fun _ => ?_
  split <;> simp_all

theorem Writer.due_eq_none : w.due now = none ↔ w.owed = 0 := by
  rw [Writer.owed_eq_zero]
  unfold Writer.due
  cases w.queue with
  | nil => by_cases whole : w.lost = 0 <;> simp [whole]
  | cons q rest => by_cases whole : w.lost = 0 <;> simp [whole]

/-- The two kinds of placement due. -/
theorem Writer.due_cases (due : w.due now = some d) : (∃ t, d = .gap t ∧ w.lost ≠ 0) ∨
    ∃ q rest, d = .head q rest ∧ w.lost = 0 ∧ w.queue = q :: rest := by
  unfold Writer.due at due
  cases queue : w.queue with
  | nil =>
    rw [queue] at due
    by_cases whole : w.lost = 0
    · simp [whole] at due
    · simp only [if_neg whole, Option.some.injEq] at due
      exact .inl ⟨_, due.symm, whole⟩
  | cons q rest =>
    rw [queue] at due
    by_cases whole : w.lost = 0
    · simp only [if_pos whole, Option.some.injEq] at due
      exact .inr ⟨q, rest, due.symm, whole, rfl⟩
    · simp only [if_neg whole, Option.some.injEq] at due
      exact .inl ⟨_, due.symm, whole⟩

/-- A placement takes one off what is owed, and leaves the writer with its page and as ordinary as it was. -/
theorem Writer.placed_gives (due : w.due now = some d) : (w.placed d).owed + 1 = w.owed ∧ (w.placed d).state = w.state ∧
    (w.placed d).held = w.held ∧ (w.placed d).pageSize = w.pageSize ∧ ∀ q ∈ (w.placed d).queue, q ∈ w.queue := by
  obtain ⟨t, rfl, lost⟩ | ⟨q, rest, rfl, whole, queue⟩ := Writer.due_cases due
  · rw [Writer.placed_gap]
    refine ⟨?_, rfl, rfl, rfl, fun q mem => mem⟩
    simp [Writer.owed, Writer.opened, lost]
  · rw [Writer.placed_head]
    refine ⟨?_, rfl, rfl, rfl, fun x mem => queue ▸ List.mem_cons_of_mem _ mem⟩
    simp [Writer.owed, Writer.opened, whole, queue]

theorem Writer.Ordinary.placed (h : w.Ordinary) (due : w.due now = some d) : (w.placed d).Ordinary := by
  obtain ⟨-, -, held, size, fewer⟩ := Writer.placed_gives due
  obtain ⟨none_, long, short⟩ := h
  exact ⟨held.trans none_, size ▸ long, fun q mem => short q (fewer q mem)⟩

/-- A page without a record takes any record that an ordinary writer has queued. -/
theorem Writer.Ordinary.fits_fresh (h : w.Ordinary) (fresh : w.Fresh) (due : w.due now = some d) : w.fits d = true := by
  obtain ⟨-, long, short⟩ := h
  obtain ⟨base, used⟩ := fresh
  have offset : w.offset d.time = 0 := by rw [Writer.offset, base]
  have small : d.length ≤ 5 := by
    obtain ⟨t, rfl, -⟩ | ⟨q, rest, rfl, -, queue⟩ := Writer.due_cases due
    · exact Nat.le_of_lt (by decide : 2 < 5)
    · exact short q (queue ▸ List.mem_cons_self)
  rw [Writer.fits_iff, offset, used]
  exact ⟨Nat.zero_le _, by omega⟩

theorem heldJoins_of_none (none_ : w.held = []) : heldJoins w = w := by rw [heldJoins, none_]

end

section
variable {s : State} {d : Due}

theorem State.place_writer (s : State) (d : Due) : (s.place d).writer = heldJoins (s.writer.placed d) := by rw [State.place_eq]

theorem State.handPage_writer (s : State) : s.handPage.writer = s.writer.closed := by
  rw [State.handPage_eq]
  rfl

/-! ### The flush step by step (R130) -/

section
variable {n j : Nat} {host : List HostWrite}

theorem State.flushFor_of_idle (idle : s.writer.state ≠ .filling) : State.flushFor n host s = (s, host) ∧
    State.flushFaultFor n host s j = none := by
  cases n with
  | zero => exact ⟨rfl, rfl⟩
  | succ n => exact ⟨if_neg idle, if_neg idle⟩

theorem State.flushFor_of_done (done : s.writer.owed = 0) : State.flushFor n host s = (s, host) ∧
    State.flushFaultFor n host s j = none := by
  cases n with
  | zero => exact ⟨rfl, rfl⟩
  | succ n =>
    by_cases filling : s.writer.state = .filling
    · have due : s.writer.due s.part.time = none := Writer.due_eq_none.mpr done
      refine ⟨(if_pos filling).trans ?_, (if_pos filling).trans ?_⟩ <;> rw [due]
    · exact State.flushFor_of_idle filling

section
variable (filling : s.writer.state = .filling) (due : s.writer.due s.part.time = some d)
include filling due

theorem State.flushFor_of_fits (fits : s.writer.fits d = true) : State.flushFor (n + 1) host s = State.flushFor n host (s.place d) ∧
    State.flushFaultFor (n + 1) host s j = State.flushFaultFor n host (s.place d) j := by
  refine ⟨(if_pos filling).trans ?_, (if_pos filling).trans ?_⟩ <;> rw [due] <;> exact if_pos fits

theorem State.flushFor_of_full (full : ¬ s.writer.fits d = true) :
    State.flushFor (n + 1) host s = State.flushFor n [] (s.handPage.ownerRead host) ∧
    State.flushFaultFor (n + 1) host s 0 = some ((s.handPage.beforeRead host).accessFault
      (BitVec.ofNat 32 (s.handPage.writer.pageOffset 0))) := by
  refine ⟨(if_pos filling).trans ?_, (if_pos filling).trans ?_⟩ <;> rw [due] <;> exact if_neg full

end

/-- What a cut flush leaves is a bus fault's entry to FAULTED. -/
theorem State.flushFaultFor_faults {t : State} (cut : State.flushFaultFor n host s j = some t) :
    ∃ (u : State) (o : Word), t = u.accessFault o := by
  induction n generalizing s host j with
  | zero => cases cut
  | succ n ih =>
    by_cases filling : s.writer.state = .filling
    · cases due : s.writer.due s.part.time with
      | none => rw [(State.flushFor_of_done (Writer.due_eq_none.mp due)).2] at cut; cases cut
      | some d =>
        by_cases fits : s.writer.fits d = true
        · rw [(State.flushFor_of_fits filling due fits).2] at cut
          exact ih cut
        · cases j with
          | zero =>
            rw [(State.flushFor_of_full filling due fits).2] at cut
            exact ⟨_, _, (Option.some.inj cut).symm⟩
          | succ j =>
            have later : State.flushFaultFor (n + 1) host s (j + 1) = State.flushFaultFor n [] (s.handPage.ownerRead host) j := by
              refine (if_pos filling).trans ?_
              rw [due]
              exact if_neg fits
            rw [later] at cut
            exact ih cut
    · rw [(State.flushFor_of_idle filling).2] at cut
      cases cut

end

end

/-! ### Where a flush stops -/

/-- A new page's owner read: the page obtained without a record, or the writer left SEEKING. -/
theorem State.ownerRead_gives (s : State) (host : List HostWrite) (seeking : s.writer.state = .seeking) :
    (s.ownerRead host).writer.state = .seeking ∨ ((s.ownerRead host).writer.state = .filling ∧ (s.ownerRead host).writer.Fresh ∧
      (s.ownerRead host).writer = s.writer.obtain) := by
  obtain ⟨writer, -⟩ := s.beforeRead_writer host
  unfold State.ownerRead
  split
  · unfold State.takeOwner
    split
    · rw [writer]
      exact .inr ⟨rfl, ⟨rfl, rfl⟩, rfl⟩
    · split
      · refine .inl ?_
        rw [writer, Writer.dropAll_eq]
        exact seeking
      · exact .inl ((congrArg Writer.state writer).trans seeking)
  · exact .inl seeking

/-- A flush with actions enough ends with the page given up, or with nothing owed. -/
theorem State.flushFor_ends (n : Nat) (host : List HostWrite) (s : State)
    (state : s.writer.state = .filling ∨ s.writer.state = .seeking) :
    let t := (State.flushFor n host s).1
    (t.writer.state = .filling ∨ t.writer.state = .seeking) ∧
    (s.writer.Ordinary → 2 * s.writer.owed ≤ n ∨ (s.writer.Fresh ∧ 2 * s.writer.owed ≤ n + 1) →
      t.writer.state = .seeking ∨ t.writer.owed = 0) := by
  induction n generalizing host s with
  | zero => exact ⟨state, fun _ enough => .inr (show s.writer.owed = 0 by omega)⟩
  | succ n ih =>
    by_cases filling : s.writer.state = .filling
    · cases due : s.writer.due s.part.time with
      | none =>
        have done := Writer.due_eq_none.mp due
        rw [(State.flushFor_of_done (j := 0) done).1]
        exact ⟨state, fun _ _ => .inr done⟩
      | some d =>
        obtain ⟨owed, kept, -⟩ := Writer.placed_gives due
        by_cases fits : s.writer.fits d = true
        · rw [(State.flushFor_of_fits (j := 0) filling due fits).1]
          have placed : (s.place d).writer.state = .filling := by
            rw [State.place_writer]
            unfold heldJoins
            split
            · split
              · exact kept.trans filling
              · exact kept.trans filling
            · exact kept.trans filling
          obtain ⟨states, ends⟩ := ih host (s.place d) (.inl placed)
          refine ⟨states, fun ordinary enough => ends ?_ (.inl ?_)⟩
          · rw [State.place_writer, heldJoins_of_none (ordinary.placed due).1]
            exact ordinary.placed due
          · rw [State.place_writer, heldJoins_of_none (ordinary.placed due).1]
            omega
        · rw [(State.flushFor_of_full filling due fits).1]
          have closed : s.handPage.writer.state = .seeking := by rw [State.handPage_writer]; rfl
          obtain seeking | ⟨fills, fresh, obtained⟩ := s.handPage.ownerRead_gives host closed
          · rw [(State.flushFor_of_idle (j := 0) (by rw [seeking]; nofun)).1]
            exact ⟨.inr seeking, fun _ _ => .inl seeking⟩
          · rw [State.handPage_writer] at obtained
            have owed' : (s.handPage.ownerRead host).writer.owed = s.writer.owed := by rw [obtained]; rfl
            obtain ⟨states, ends⟩ := ih [] _ (.inl fills)
            refine ⟨states, fun ordinary enough => ends ?_ (.inr ⟨fresh, ?_⟩)⟩
            · rw [obtained]
              exact ordinary
            · obtain many | ⟨unwritten, -⟩ := enough
              · rw [owed']
                omega
              · exact absurd (ordinary.fits_fresh unwritten due) fits
    · rw [(State.flushFor_of_idle (j := 0) filling).1]
      exact ⟨state, fun _ _ => .inl (state.resolve_left filling)⟩

/-! ### Placements taken one by one -/

theorem State.handed_placement {s : State} (serving : s.part.state ≠ .stopping) :
    afterCommand s (exec .recordPlacement s) = s.placeRecord := by
  have part : s.placeRecord.part.state ≠ .stopping := by rw [(s.onJournal_placeRecord).part]; exact serving
  exact if_neg part

theorem placements_succ (n : Nat) (s : State) :
    placements (n + 1) s = afterCommand (placements n s) (exec .recordPlacement (placements n s)) := by
  induction n generalizing s with
  | zero => rfl
  | succ n ih => exact ih _

/-- While every placement fits the page, a flush places what RECORD_PLACEMENT places. -/
theorem State.flushFor_placements (k : Nat) (s : State) (serving : s.part.state ≠ .stopping) (ordinary : s.writer.Ordinary)
    (owes : k ≤ s.writer.owed) (fills : ∀ n, n ≤ k → (placements n s).writer.state = .filling) :
    (∀ m host, State.flushFor (k + m) host s = State.flushFor m host (placements k s)) ∧
    (∀ m host j, State.flushFaultFor (k + m) host s j = State.flushFaultFor m host (placements k s) j) ∧
    (placements k s).writer.owed + k = s.writer.owed ∧ (placements k s).part = s.part ∧ (placements k s).writer.Ordinary := by
  induction k generalizing s with
  | zero =>
    simp only [Nat.zero_add]
    exact ⟨fun _ _ => rfl, fun _ _ _ => rfl, rfl, rfl, ordinary⟩
  | succ k ih =>
    have filling : s.writer.state = .filling := fills 0 (Nat.zero_le _)
    have first := State.handed_placement serving
    cases due : s.writer.due s.part.time with
    | none => exact absurd (Writer.due_eq_none.mp due) (by omega)
    | some d =>
      have placed := State.placeRecord_of_due filling due
      have fits : s.writer.fits d = true := by
        refine Decidable.byContradiction fun full => ?_
        have next := fills 1 (by omega)
        have gone : (placements 1 s).writer.state = .seeking := by
          refine (congrArg (fun t : State => t.writer.state) (first.trans (placed.trans (if_neg full)))).trans ?_
          exact congrArg Writer.state s.handPage_writer
        rw [next] at gone
        cases gone
      rw [if_pos fits] at placed
      have step : ∀ n, placements (n + 1) s = placements n (s.place d) := fun n => congrArg (placements n) (first.trans placed)
      have writer : (s.place d).writer = s.writer.placed d := by
        rw [State.place_writer, heldJoins_of_none (ordinary.placed due).1]
      have part : (s.place d).part = s.part := (s.onJournal_place d).part
      obtain ⟨owed, -⟩ := Writer.placed_gives due
      obtain ⟨flushes, faults, left, same, still⟩ := ih (s.place d) (by rw [part]; exact serving) (writer ▸ ordinary.placed due)
        (by rw [writer]; omega) fun n le => step n ▸ fills (n + 1) (by omega)
      rw [step]
      refine ⟨fun m host => ?_, fun m host j => ?_, by rw [writer] at left; omega, same.trans part, still⟩
      · rw [Nat.add_right_comm, (State.flushFor_of_fits (j := 0) filling due fits).1]
        exact flushes m host
      · rw [Nat.add_right_comm, (State.flushFor_of_fits filling due fits).2]
        exact faults m host j

/-! ### A read in a state with other events under way -/

/-- `s` with other events under way. -/
def State.withFlight (s : State) (l : List Instr) : State := { s with inFlight := l }

section
variable (s : State) (l : List Instr)

theorem State.issueOldest_withFlight : (s.withFlight l).issueOldest = s.issueOldest.withFlight l := by
  unfold State.issueOldest
  rw [show (s.withFlight l).posted = s.posted from rfl]
  cases s.posted with
  | nil => rfl
  | cons w rest => cases note : w.note <;> simp only [note, State.reached] <;> rfl

theorem State.reportAction_withFlight : (s.withFlight l).reportAction = s.reportAction.withFlight l := by
  unfold State.reportAction
  rw [show (s.withFlight l).reporter = s.reporter from rfl]
  cases s.reporter.run with
  | none => rfl
  | some run =>
    dsimp only
    cases run.words with
    | cons w rest => rfl
    | nil =>
      dsimp only
      split
      · rfl
      · split <;> rfl

theorem State.makePlace_withFlight : (s.withFlight l).makePlace = s.makePlace.withFlight l := by
  unfold State.makePlace
  rw [State.issueOldest_withFlight]
  exact (apply_ite (State.withFlight · l) _ _ _).symm

theorem State.finishFor_withFlight (n : Nat) : State.finishFor n (s.withFlight l) = (State.finishFor n s).withFlight l := by
  induction n generalizing s with
  | zero => rfl
  | succ n ih => rw [State.finishFor, State.makePlace_withFlight, State.reportAction_withFlight, ih, State.finishFor]

theorem State.pumpFor_withFlight (n : Nat) : State.pumpFor n (s.withFlight l) = (State.pumpFor n s).withFlight l := by
  induction n generalizing s with
  | zero => rfl
  | succ n ih =>
    rw [State.pumpFor, State.reportAction_withFlight, ih, State.pumpFor]
    exact (apply_ite (State.withFlight · l) _ _ _).symm

theorem State.issueAll_withFlight : (s.withFlight l).issueAll = s.issueAll.withFlight l := by
  have issues : ∀ (ws : List PostedWrite) (t : State), ws.foldl (fun t _ => t.issueOldest) (t.withFlight l) =
      (ws.foldl (fun t _ => t.issueOldest) t).withFlight l := by
    intro ws
    induction ws with
    | nil => exact fun _ => rfl
    | cons w ws ih =>
      intro t
      rw [List.foldl_cons, State.issueOldest_withFlight, ih, List.foldl_cons]
  exact issues s.posted s

theorem State.beforeRead_withFlight (host : List HostWrite) :
    (s.withFlight l).beforeRead host = (s.beforeRead host).withFlight l := by
  have finishes : (s.withFlight l).finishRequest = s.finishRequest.withFlight l := State.finishFor_withFlight s l _
  unfold State.beforeRead
  rw [finishes, State.issueAll_withFlight, State.pump, State.pumpFor_withFlight]
  rfl

/-- An owner read under way does not outlast entry to FAULTED. -/
theorem State.accessFault_deliver (o : Word) : (s.deliver (.pageOwnerRead [])).accessFault o = s.accessFault o := by
  have flight : (s.inFlight ++ [Instr.pageOwnerRead []]).filter isArrival = s.inFlight.filter isArrival := by
    rw [List.filter_append]
    exact List.append_nil _
  exact congrArg (fun l => (s.accessFault o).withFlight l) flight

end

/-! ### ACTIVITY_FLUSH whole -/

section
variable {s : State} {host : List HostWrite}

theorem exec_flush_of_uncut {fault : Option Nat} (uncut : ∀ j, s.flushFault host j = none) :
    exec (.activityFlush { host := host, fault := fault }) s = .next ((s.flushActivity host).answer .done 0) := by
  cases fault with
  | none => rfl
  | some j => exact congrArg (fun t : Option State => Host.Outcome.next (t.getD ((s.flushActivity host).answer .done 0))) (uncut j)

/-- A flush with nothing to place closes a page with a record, and does nothing else. -/
theorem State.flushActivity_of_still (still : State.flushFor s.flushActions host s = (s, host)) : s.flushActivity host =
    if s.writer.state = .filling ∧ s.writer.base ≠ none then (s.hostWrote host).closePage else s.hostWrote host := by
  unfold State.flushActivity
  rw [still]
  rfl

theorem State.writer_of_closed (t : State) :
    (if t.writer.state = .filling ∧ t.writer.base ≠ none then t.closePage else t).writer =
      if t.writer.state = .filling ∧ t.writer.base ≠ none then t.writer.closed else t.writer := by
  split
  · exact t.handPage_writer
  · rfl

/-- The writer a flush leaves: that of its last step, its page closed where it holds a record. -/
theorem State.flushActivity_writer (s : State) (host : List HostWrite) :
    let w := (State.flushFor s.flushActions host s).1.writer
    (s.flushActivity host).writer = if w.state = .filling ∧ w.base ≠ none then w.closed else w := by
  unfold State.flushActivity
  generalize State.flushFor s.flushActions host s = r
  exact State.writer_of_closed (r.1.hostWrote r.2)

end

/-- A page handed over with base time `b`, and the next owner read under way. -/
def pageClosedWith (s : State) (b : Word) : State :=
  let w := s.writer
  let page := 0x2800 + 4 * w.pageSize * w.page
  let word := fun (at_ : Nat) (d : Word) => ({ offset := at_, data := d, note := .plain } : PostedWrite)
  let close := s.postAll [word (page + 4) b, word (page + 8) (if w.gap then 1 else 0),
    word page (BitVec.ofNat 32 (w.used % 65536 * 65536))]
  { close with
    attention := close.attention.event .activity
    inFlight := close.inFlight ++ [.pageOwnerRead []]
    writer := { w with hold := none, state := .seeking, page := if w.page + 1 < w.pages then w.page + 1 else 0 } }

theorem State.owed_le_flushActions (s : State) : s.writer.owed + 1 ≤ s.flushActions := by
  unfold State.flushActions Writer.owed
  split <;> omega

theorem pageClosed_of_base {s : State} {b : Word} (base : s.writer.base = some b) : pageClosed s = pageClosedWith s b := by
  have value : s.writer.base.getD 0 = b := by rw [base]; rfl
  unfold pageClosed pageHanded pageClosedWith
  dsimp only
  rw [value]

/-- Settles O41: the flush without a page, with nothing to place, as placements, cut by a fault, and where it ends. -/
theorem flushClosesThePage : Obligations.FlushClosesThePage := by
  intro s host fault w u due ordinary page word
  have counted : due = w.owed := rfl
  refine ⟨⟨_, rfl⟩, fun other => ?_, fun empty whole base => ?_, fun b filling empty whole base => ?_,
    fun serving filling plain fills some_ => ?_, fun n running filling plain more fills gone => ?_, fun n => ?_, ?_⟩
  · have still := State.flushActivity_of_still (State.flushFor_of_idle (n := s.flushActions) (host := host) (j := 0) other).1
    rw [exec_flush_of_uncut fun j => (State.flushFor_of_idle other).2, still, if_neg fun k => other k.1]
  · have done : s.writer.owed = 0 := Writer.owed_eq_zero.mpr ⟨empty, whole⟩
    have still := State.flushActivity_of_still (State.flushFor_of_done (n := s.flushActions) (host := host) (j := 0) done).1
    rw [exec_flush_of_uncut fun j => (State.flushFor_of_done done).2, still, if_neg fun k => k.2 base]
  · have done : s.writer.owed = 0 := Writer.owed_eq_zero.mpr ⟨empty, whole⟩
    have still := State.flushActivity_of_still (State.flushFor_of_done (n := s.flushActions) (host := host) (j := 0) done).1
    have open_ : s.writer.base ≠ none := by rw [show s.writer.base = some b from base]; nofun
    have closes : s.flushActivity host = pageClosed u := still.trans ((if_pos ⟨filling, open_⟩).trans (State.closePage_eq _))
    have runs : exec (.activityFlush { host := host, fault := fault }) s = .next ((pageClosedWith u b).answer .done 0) := by
      rw [exec_flush_of_uncut fun j => (State.flushFor_of_done done).2, closes, pageClosed_of_base (s := u) base]
    intro close
    exact runs
  · obtain ⟨flushes, faults, left, part, -⟩ := State.flushFor_placements due s serving plain (Nat.le_of_eq counted) fills
    have done : (placements due s).writer.owed = 0 := by
      rw [counted] at left ⊢
      exact Nat.add_eq_right.mp left
    obtain ⟨empty, whole⟩ := Writer.owed_eq_zero.mp done
    have actions : s.flushActions = due + (s.flushActions - due) := by
      have := s.owed_le_flushActions
      omega
    have placed : State.flushFor s.flushActions host s = (placements due s, host) := by
      rw [actions, flushes, (State.flushFor_of_done (j := 0) done).1]
    have uncut : ∀ j, s.flushFault host j = none := fun j => by
      rw [State.flushFault, actions, faults, (State.flushFor_of_done done).2]
    refine ⟨empty, whole, ?_⟩
    have again : ∀ v : State, v.writer.owed = 0 → exec (.activityFlush { host := [], fault := none }) v =
        .next ((if v.writer.state = .filling ∧ v.writer.base ≠ none then v.closePage else v).answer .done 0) := fun v paid => by
      have still := State.flushActivity_of_still (State.flushFor_of_done (n := v.flushActions) (host := []) (j := 0) paid).1
      exact congrArg (fun t : State => Host.Outcome.next (t.answer .done 0)) still
    rw [exec_flush_of_uncut uncut, again ((placements due s).hostWrote host) done]
    unfold State.flushActivity
    rw [placed]
  · have serving : s.part.state ≠ .stopping := by rw [running]; nofun
    obtain ⟨-, faults, left, part, still⟩ := State.flushFor_placements n s serving plain (Nat.le_of_lt more) fills
    have filling' := fills n (Nat.le_refl n)
    have more' : n < s.writer.owed := Nat.lt_of_lt_of_eq more counted
    have actions : s.flushActions = n + (s.flushActions - n - 1 + 1) := by
      have := s.owed_le_flushActions
      omega
    cases next : (placements n s).writer.due (placements n s).part.time with
    | none => exact absurd (Writer.due_eq_none.mp next) (by omega)
    | some d =>
      have serving' : (placements n s).part.state ≠ .stopping := by rw [part]; exact serving
      have placed := State.placeRecord_of_due filling' next
      have step : placements (n + 1) s = _ := (placements_succ n s).trans ((State.handed_placement serving').trans placed)
      have full : ¬ (placements n s).writer.fits d = true := fun fits => by
        rw [if_pos fits] at step
        have stays : (placements (n + 1) s).writer.state = .filling := by
          rw [step, State.place_writer, heldJoins_of_none (still.placed next).1]
          exact (Writer.placed_gives next).2.1.trans filling'
        rw [stays] at gone
        cases gone
      rw [if_neg full] at step
      obtain ⟨t, handed⟩ : ∃ t, (placements n s).handPage = t := ⟨_, rfl⟩
      have closed : placements (n + 1) s = t.deliver (.pageOwnerRead []) := step.trans (congrArg (State.deliver · _) handed)
      have cut : s.flushFault host 0 = some ((t.beforeRead host).accessFault (BitVec.ofNat 32 (t.writer.pageOffset 0))) := by
        rw [State.flushFault, actions, faults, (State.flushFor_of_full filling' next full).2, handed]
      have state : ((t.deliver (.pageOwnerRead [])).beforeRead host).part.state = .running := by
        rw [(State.beforeRead_writer _ host).2, ← closed, (congrArg State.part step).trans (State.onJournal_closePage _).part, part]
        exact running
      have accessing : ((t.deliver (.pageOwnerRead [])).beforeRead host).accessing = true := by
        rw [State.accessing, state]
      have flight : (t.beforeRead host).inFlight = t.inFlight := (t.onImage_beforeRead host).inFlight
      have reads : (t.deliver (.pageOwnerRead [])).beforeRead host = (t.beforeRead host).deliver (.pageOwnerRead []) := by
        refine (t.beforeRead_withFlight (t.inFlight ++ [.pageOwnerRead []]) host).trans ?_
        rw [← flight]
        rfl
      intro v
      have at_v : v = t.deliver (.pageOwnerRead []) := closed
      have faulted : exec (.busFault (BitVec.ofNat 32 (t.writer.pageOffset 0))) ((t.deliver (.pageOwnerRead [])).beforeRead host) =
          .next ((t.beforeRead host).accessFault (BitVec.ofNat 32 (t.writer.pageOffset 0))) := by
        refine congrArg Host.Outcome.next ((State.busFault_accessing accessing _).trans ?_)
        rw [reads, State.accessFault_deliver]
      rw [at_v]
      refine Eq.trans (congrArg (fun t : Option State => Host.Outcome.next (t.getD ((s.flushActivity host).answer .done 0))) cut) ?_
      exact faulted.symm
  · cases cut : s.flushFault host n with
    | none => exact .inl (congrArg (fun t : Option State => Host.Outcome.next (t.getD ((s.flushActivity host).answer .done 0))) cut)
    | some t =>
      obtain ⟨v, o, rfl⟩ := State.flushFaultFor_faults cut
      have entered : (v.accessFault o) = _ := (v.faultEntered .bus (v.part.base + o)).1
      refine .inr ⟨v.accessFault o, congrArg (fun t : Option State => Host.Outcome.next
        (t.getD ((s.flushActivity host).answer .done 0))) cut, ?_⟩
      rw [entered]
      exact ⟨rfl, rfl, rfl, rfl, Attention.has_set _ _⟩
  · have journal := s.onJournal_flushActivity host
    have ends := s.flushActivity_writer host
    refine ⟨_, rfl, fun filling => ?_, fun filling plain => ?_, rfl, journal.strips, journal.part⟩
    · have filling' : (s.flushActivity host).writer.state = .filling := filling
      show (s.flushActivity host).writer.base = none
      rw [ends] at filling' ⊢
      split at filling'
      · cases filling'
      · next shut =>
        rw [if_neg shut]
        exact Classical.not_not.mp fun open_ => shut ⟨filling', open_⟩
    · have stops := (State.flushFor_ends s.flushActions host s (.inl filling)).2 plain (.inl (by unfold State.flushActions Writer.owed; split <;> omega))
      show (s.flushActivity host).writer.state = .seeking ∨
        ((s.flushActivity host).writer.queue = [] ∧ (s.flushActivity host).writer.lost = 0)
      rw [ends]
      split
      · exact .inl rfl
      · exact stops.imp_right Writer.owed_eq_zero.mp

end Sys2Proof.Machine
end

section
/-!
SUPPORT. The Report Writer and the Attention Unit (chapter 11): the records' words, a report's start, coalescing, and posted
writes reaching memory behind the words of a record in hand.
-/
namespace Sys2Proof.Machine

/-! ### The words of a report's records (R197 to R199, section 10.5) -/

theorem twoHalves_eq (a b : Nat) : twoHalves a b = BitVec.ofNat 32 (a % 65536 + 65536 * (b % 65536)) := by
  rw [twoHalves, bitsAt, bitsAt, Nat.pow_zero, Nat.mul_one, Nat.mul_comm (b % _)] <;> rfl

theorem boolBit_mod (b : Bool) : boolBit b % 2 = boolBit b := by cases b <;> rfl

theorem stateNumber_eq (st : StripState) : stateNumber st = (st.code, st.purposeCode) := by
  rcases st with _ | _ | _ | _ | (_ | _ | _ | _) | _ | _ | _ | _ | _ <;> rfl

theorem StripState.code_lt (st : StripState) : st.code < 16 := by
  rcases st with _ | _ | _ | _ | (_ | _ | _ | _) | _ | _ | _ | _ | _ <;> decide

theorem StripState.purposeCode_lt (st : StripState) : st.purposeCode < 8 := by
  rcases st with _ | _ | _ | _ | (_ | _ | _ | _) | _ | _ | _ | _ | _ <;> decide

theorem gangCode_lt (g : Option GangId) : gangCode g < 16 := by
  rcases g with _ | ⟨g, small⟩
  · decide
  · exact Nat.lt_trans small (by decide)

theorem Role.code_lt (r : Role) : r.code < 4 := by cases r <;> decide

theorem LinkState.code_lt (l : LinkState) : l.code < 4 := by cases l <;> decide

theorem State.partRecord_eq (s : State) :
    let budget := if s.arbiter.supply = .ok then s.arbiter.full else s.arbiter.low
    s.partRecord = [
      BitVec.ofNat 32 ((if s.arbiter.supply = .low then 1 else 0) + 256 * (budget % 64) +
        65536 * (s.arbiter.grantSet.length % 64)),
      BitVec.ofNat 32 (s.scanner.missed.toNat % 65536 + 65536 * (s.scanner.refFailures.toNat % 65536)),
      BitVec.ofNat 32 (s.sweep.late.toNat % 65536 + 65536 * (s.motors.expiries.toNat % 65536)),
      BitVec.ofNat 32 (s.writer.lostCount.toNat % 65536 + 65536 * (0 % 65536))] := by
  intro budget
  have supply : boolBit (s.arbiter.supply == .low) = if s.arbiter.supply = .low then 1 else 0 := by
    cases s.arbiter.supply <;> rfl
  unfold State.partRecord
  rw [twoHalves_eq, twoHalves_eq, twoHalves_eq, supply]
  congr 2
  unfold bitsAt
  show _ + budget % 2 ^ 6 * 2 ^ 8 + _ = _
  split <;> omega

/-- The head of a strip record, its origin and its last set command read from the entry in hand. -/
theorem Strip.record_eq (x : Strip) :
    let bit := fun b : Bool => if b then 1 else 0
    let e := x.current.getD { tag := 0, target := 0, duration := 0, priority := 0, origin := .cell, touchTime := false }
    x.record = [
      BitVec.ofNat 32 (x.state.code + 16 * x.state.purposeCode + 256 * (x.queue.length % 16) + 4096 * bit x.touch +
        8192 * bit x.grantHeld + 16384 * bit x.streamTarget.isSome + 32768 * bit x.relatch + 65536 * gangCode x.gang +
        1048576 * x.role.code + 4194304 * bit x.current.isSome + 8388608 * (if e.origin = .scene then 1 else 0) +
        16777216 * (if x.settings.source = .link then 1 else 0) + 33554432 * bit x.cal.valid),
      twoHalves x.pRep e.target, twoHalves e.tag.toNat x.touches.toNat, twoHalves x.arrived.toNat x.cut.toNat,
      twoHalves x.flushed.toNat x.stalls.toNat] := by
  intro bit e
  have bits : ∀ b, boolBit b = bit b := fun b => rfl
  have small : ∀ b, bit b % 2 = bit b := boolBit_mod
  have target : x.current.elim 0 (·.target) = e.target := by unfold e; cases x.current <;> rfl
  have tag : x.current.elim 0 (·.tag.toNat) = e.tag.toNat := by unfold e; cases x.current <;> rfl
  have origin : x.current.elim 0 (·.origin.code) = if e.origin = .scene then 1 else 0 := by
    unfold e
    cases x.current with
    | none => rfl
    | some c => rcases origin : c.origin <;> simp [origin, Origin.code]
  have source : boolBit (x.settings.source == .link) = if x.settings.source = .link then 1 else 0 := by
    cases x.settings.source <;> rfl
  have one : ∀ p : Prop, [Decidable p] → (if p then 1 else 0) % 2 = if p then 1 else 0 := fun p _ => by split <;> rfl
  unfold Strip.record
  dsimp only
  rw [target, tag, origin, source]
  congr 2
  unfold bitsAt
  simp only [bits, Nat.pow_one, small, one, Nat.mod_eq_of_lt (show _ < 2 ^ 4 from x.state.code_lt),
    Nat.mod_eq_of_lt (show _ < 2 ^ 3 from x.state.purposeCode_lt), Nat.mod_eq_of_lt (show _ < 2 ^ 4 from gangCode_lt x.gang),
    Nat.mod_eq_of_lt (show _ < 2 ^ 2 from x.role.code_lt)]
  omega

theorem Channel.record_eq (c : Channel) :
    let bit := fun b : Bool => if b then 1 else 0
    c.record = [BitVec.ofNat 32 (c.m / 64 % 512 + 65536 * (c.hv % 512)),
      BitVec.ofNat 32 (bit c.isOver + 2 * bit c.nofeed + 16 * c.profile.val)] := by
  intro bit
  have small : ∀ b, boolBit b % 2 = bit b := boolBit_mod
  unfold Channel.record bitsAt
  simp only [Nat.pow_one, small, Nat.mod_eq_of_lt (show _ < 2 ^ 2 from c.profile.isLt)]
  congr 2
  · omega
  · congr 1; omega

theorem LinkRx.record_eq (l : LinkRx) : l.record = [BitVec.ofNat 32 (l.state.code + 65536 * l.frames.toNat),
    twoHalves l.short.toNat l.excess.toNat, twoHalves l.overruns.toNat l.losses.toNat] := by
  have frames : l.frames.toNat < 2 ^ 16 := l.frames.isLt
  unfold LinkRx.record bitsAt
  rw [Nat.mod_eq_of_lt frames, Nat.mod_eq_of_lt (show _ < 2 ^ 2 from l.state.code_lt), Nat.pow_zero, Nat.mul_one,
    Nat.mul_comm (l.frames.toNat)] <;> rfl

theorem State.reportRecord_part (s : State) : s.reportRecord 0 = (0, s.partRecord) := rfl

theorem State.reportRecord_strip (s : State) (i : StripId) : s.reportRecord (1 + i.val) = (4 + 5 * i.val, (s.strip i).record) := by
  have back : 1 + i.val - 1 = i.val := Nat.add_sub_cancel_left 1 i.val
  have below : 1 + i.val - 1 < 32 := back.symm ▸ i.isLt
  unfold State.reportRecord
  rw [if_neg (by omega), dif_pos below]
  simp only [back]

theorem State.reportRecord_channel (s : State) (c : ChanId) :
    s.reportRecord (33 + c.val) = (164 + 2 * c.val, s.meters.chans[c].record) := by
  have back : 33 + c.val - 33 = c.val := Nat.add_sub_cancel_left 33 c.val
  have below : 33 + c.val - 33 < 64 := back.symm ▸ c.isLt
  unfold State.reportRecord
  rw [if_neg (by omega), dif_neg (by omega), dif_pos below]
  simp only [back]
  rfl

theorem State.reportRecord_link (s : State) (k : LinkId) :
    s.reportRecord (97 + k.val) = (292 + 3 * k.val, s.links[k].record) := by
  have back : 97 + k.val - 97 = k.val := Nat.add_sub_cancel_left 97 k.val
  have below : 97 + k.val - 97 < 2 := back.symm ▸ k.isLt
  unfold State.reportRecord
  rw [if_neg (by omega), dif_neg (by omega), dif_neg (by omega), dif_pos below]
  simp only [back]
  rfl

theorem reportLayout : ReportLayout := by
  intro s two bit budget
  have halves : ∀ a b, twoHalves a b = two a b := twoHalves_eq
  refine ⟨?_, fun i => ?_, fun c => ?_, fun k => ?_⟩
  · rw [s.reportRecord_part, State.partRecord_eq]
  · intro x n role gang e
    have numbers : n = (x.state.code, x.state.purposeCode) := stateNumber_eq x.state
    have roles : role = x.role.code := by unfold role; cases x.role <;> rfl
    have gangs : gang = gangCode x.gang := by unfold gang; cases x.gang <;> rfl
    rw [s.reportRecord_strip i, (s.strip i).record_eq, numbers, roles, gangs]
    simp only [halves]
    rfl
  · rw [s.reportRecord_channel c, Channel.record_eq]
  · intro l st
    have states : st = l.state.code := by unfold st; cases l.state <;> rfl
    rw [s.reportRecord_link k, LinkRx.record_eq, states, halves, halves]

/-! ### Coalescing (R204) -/

theorem Attention.coalescing_with (a : Attention) (w : Coalesced) (co : Coalescing) : (a.withCoalescing w co).coalescing w = co := by
  cases w <;> rfl

theorem eventCoalesces : EventCoalesces := by
  intro a which co withCo set n counted
  have coalescing : a.coalescing which = co := by unfold co; cases which <;> rfl
  have raised : a.raise which = set := by cases which <;> rfl
  have counts : a.withCoalescing which co.counted = counted := by unfold counted co withCo; cases which <;> rfl
  have after : (a.withCoalescing which co.counted).raise which = set := by unfold set co withCo; cases which <;> rfl
  have event : a.event which = if co.threshold = 0 ∧ co.hold = 0 then a.raise which else
      if co.threshold ≠ 0 ∧ co.threshold ≤ n then (a.withCoalescing which co.counted).raise which
      else a.withCoalescing which co.counted := by
    unfold Attention.event
    rw [coalescing]
    rfl
  rw [event, raised, after, counts]
  refine ⟨fun zero still => if_pos ⟨zero, still⟩, fun some_ reached => ?_, fun some_ under => ?_, fun zero held => ?_⟩
  · rw [if_neg fun h => some_ h.1, if_pos ⟨some_, reached⟩]
  · rw [if_neg fun h => some_ h.1, if_neg fun h => Nat.not_le.mpr under h.2]
  · rw [if_neg fun h => held h.2, if_neg fun h => h.1 zero]

/-! ### The report timer, the hold timers and part time (R188, R200, R204) -/

section
variable {s : State}

theorem exec_reportTimerExpiry_begins (timer : s.reporter.timer ≠ none) (idle : s.reporter.run = none) :
    exec .reportTimerExpiry s = .next ({ s with reporter := { s.reporter with
      period := s.reporter.periodStaged, timer := some s.reporter.periodStaged
      run := some { bank := s.reporter.bank.other, next := 0, words := [] } } } : State).pump :=
  congrArg Host.Outcome.next ((if_pos (Option.isSome_iff_ne_none.mpr timer)).trans (if_pos idle))

theorem exec_reportTimerExpiry_late {r : ReportRun} (timer : s.reporter.timer ≠ none) (writes : s.reporter.run = some r) :
    exec .reportTimerExpiry s = .next { s with reporter := { s.reporter with timer := some s.reporter.period } } :=
  congrArg Host.Outcome.next ((if_pos (Option.isSome_iff_ne_none.mpr timer)).trans (if_neg (by rw [writes]; nofun)))

theorem exec_reportTimerExpiry_stopped (stopped : s.reporter.timer = none) : exec .reportTimerExpiry s = .next s :=
  congrArg Host.Outcome.next (if_neg (by rw [stopped]; nofun))

theorem Bank.offset_eq (bank : Bank) : bank.offset = match bank with
    | .a => 0x1800
    | .b => 0x2000 := by cases bank <;> rfl

end

/-- A report begun: the first words of the part record and of strip 0's, as many as there are places. -/
theorem exec_reportTimerExpiry_begins_words {s : State} (timer : s.reporter.timer ≠ none) (idle : s.reporter.run = none) :
    ∃ t r, exec .reportTimerExpiry s = .next t ∧
      t = { s with reporter := t.reporter, posted := t.posted } ∧ t.reporter.period = s.reporter.periodStaged ∧
      t.reporter.timer = some s.reporter.periodStaged ∧ t.reporter.bank = s.reporter.bank ∧
      t.reporter.count = s.reporter.count ∧ t.reporter.run = some r ∧ r.bank ≠ s.reporter.bank ∧
      (∃ ws, t.posted = s.posted ++ ws) ∧
      (s.posted.length < 8 →
        let at_ := match r.bank with
          | .a => 0x1800
          | .b => 0x2000
        let part := layWords at_ (s.reportRecord 0).2
        let strip0 := layWords (at_ + 16) (s.reportRecord 1).2
        let n := 8 - s.posted.length
        t.posted = s.posted ++ (part ++ strip0).take n ∧ r.next = (if n ≤ 4 then 1 else 2) ∧
          r.words = if n ≤ 4 then part.drop n else (part ++ strip0).drop n) := by
  have runs := exec_reportTimerExpiry_begins timer idle
  have pumps := State.pump_begun (s := { s with reporter := { s.reporter with
      period := s.reporter.periodStaged, timer := some s.reporter.periodStaged
      run := some { bank := s.reporter.bank.other, next := 0, words := [] } } }) (bank := s.reporter.bank.other) rfl
  refine ⟨_, _, runs.trans (congrArg Host.Outcome.next pumps), rfl, rfl, rfl, rfl, rfl, rfl, s.reporter.bank.other_ne, ⟨_, rfl⟩,
    fun place => ?_⟩
  intro at_ part strip0 n
  have some_ : n ≠ 0 := Nat.sub_ne_zero_of_lt place
  have base : at_ = s.reporter.bank.other.offset := (Bank.offset_eq _).symm
  have same : part ++ strip0 = layWords s.reporter.bank.other.offset (s.reportRecord 0).2 ++
      layWords (s.reporter.bank.other.offset + 16) (s.reportRecord 1).2 := by unfold part strip0; rw [base]
  refine ⟨?_, ?_, ?_⟩
  · rw [same]
    rfl
  · exact if_neg some_
  · refine (if_neg some_).trans ?_
    rw [same]
    unfold part
    rw [base]
    rfl

/-! ### Hold timers and part time -/

/-- A running hold timer's expiry sets the cause, as a setting by count does. -/
theorem Attention.holdExpiry_of_running {a : Attention} {which : Coalesced} (timer : (a.coalescing which).timer ≠ none) :
    a.holdExpiry which = a.raise which := if_pos (Option.isSome_iff_ne_none.mpr timer)

theorem Attention.holdExpiry_of_stopped {a : Attention} {which : Coalesced} (stopped : (a.coalescing which).timer = none) :
    a.holdExpiry which = a := if_neg (by rw [stopped]; nofun)

/-- Settles O51: the records' words by their bit fields, and each timer by its cases. -/
theorem reportTimerHoldTimersAndTime : Obligations.ReportTimerHoldTimersAndTime := by
  refine ⟨reportLayout, eventCoalesces, fun s => ⟨exec_reportTimerExpiry_stopped, fun _ => exec_reportTimerExpiry_late,
    exec_reportTimerExpiry_begins_words, fun which => ?_, fun counts => ?_, fun held => ?_⟩⟩
  · intro co
    have coalescing : s.attention.coalescing which = co := by unfold co; cases which <;> rfl
    refine ⟨fun stopped => ?_, fun timer => ⟨_, rfl, rfl, ?_⟩⟩
    · have still := Attention.holdExpiry_of_stopped (coalescing ▸ stopped)
      exact congrArg (fun a => Host.Outcome.next { s with attention := a }) still
    · dsimp only
      rw [Attention.holdExpiry_of_running (coalescing ▸ timer)]
      cases which <;> exact ⟨rfl, rfl, rfl⟩
  · have metering : s.part.state.metering = true := by rcases counts with h | h | h <;> rw [h] <;> rfl
    exact congrArg Host.Outcome.next (if_pos metering)
  · have still : ¬ s.part.state.metering = true := by rcases held with h | h <;> rw [h] <;> nofun
    exact congrArg Host.Outcome.next (if_neg still)

end Sys2Proof.Machine
end

section
/-!
SUPPORT. Posted writes (R189, R193): one handed, one issued, and the Report Writer's words for the place made free (R201).
-/
namespace Sys2Proof.Machine

/-! ### A write handed -/

theorem State.issueOldest_eq {s : State} {w : PostedWrite} {rest : List PostedWrite} (oldest : s.posted = w :: rest) :
    s.issueOldest = { s with
      posted := rest
      memory := s.memory.writeWord (s.part.base.toNat + w.offset) w.data
      attention := (match w.note with
        | .plain => s.attention
        | .cellOwner => s.attention.event .cell
        | .reportEnd => s.attention.set .report)
      reporter := if w.note = .reportEnd then { s.reporter with run := none } else s.reporter } := by
  unfold State.issueOldest
  rw [oldest]
  obtain ⟨offset, data, note⟩ := w
  cases note <;> rfl

/-- A report's writer with no word in hand. -/
theorem State.wordsInHand_of_idle {s : State} (idle : s.reporter.run = none ∨ ∃ r, s.reporter.run = some r ∧ r.words = []) :
    s.wordsInHand = 0 := by
  rcases idle with off | ⟨r, runs, empty⟩
  · exact State.wordsInHand_of_none off
  · rw [State.wordsInHand, runs]
    exact congrArg List.length empty

theorem State.post_of_full {s : State} (w : PostedWrite) (idle : s.wordsInHand = 0) (full : 8 ≤ s.posted.length) :
    s.post w = { s.issueOldest with posted := s.posted.tail ++ [w] } := by
  have place : s.makePlace = s.issueOldest := if_pos full
  unfold State.post
  rw [State.finishRequest_idle idle, place]
  dsimp only
  rw [State.issueOldest_posted]

/-- A place made keeps the record in hand where no report's last word is queued. -/
theorem State.makePlace_run {s : State} (plain : ∀ q ∈ s.posted, q.note ≠ .reportEnd) :
    s.makePlace.reporter = s.reporter := by
  by_cases full : 8 ≤ s.posted.length
  · cases oldest : s.posted with
    | nil => simp [oldest] at full
    | cons w rest =>
      have note : w.note ≠ .reportEnd := plain w (oldest ▸ List.mem_cons_self)
      rw [show s.makePlace = s.issueOldest from if_pos full, State.issueOldest_eq oldest]
      exact if_neg note
  · rw [show s.makePlace = s from if_neg full]

/-- Behind the words of a record in hand: the first of them is handed, and the write waits for the others. -/
theorem State.post_of_words {s : State} {r : ReportRun} {x : PostedWrite} {xs : List PostedWrite} (w : PostedWrite)
    (runs : s.reporter.run = some r) (words : r.words = x :: xs) (plain : ∀ q ∈ s.posted, q.note ≠ .reportEnd) :
    s.post w = ({ s.makePlace with
      posted := s.makePlace.posted ++ [x]
      reporter := { s.makePlace.reporter with
        run := some { r with words := xs }
        bank := if x.note = .reportEnd then r.bank else s.makePlace.reporter.bank } } : State).post w := by
  have hand : s.wordsInHand = xs.length + 1 := by
    rw [State.wordsInHand, runs]
    exact congrArg List.length words
  have acts := State.reportAction_of_word (s := s.makePlace) ((congrArg (·.run) (State.makePlace_run plain)).trans runs) words
  have finishes : s.finishRequest = State.finishFor xs.length s.makePlace.reportAction := by rw [State.finishRequest, hand]; rfl
  unfold State.post
  rw [finishes, acts]
  rfl

/-! ### The Report Writer's words for a place made free -/

/-- One action of the Report Writer adds to the posted writes and changes its own block alone. -/
theorem State.reportAction_appends (s : State) :
    ∃ more r, s.reportAction = { s with posted := s.posted ++ more, reporter := r } := by
  unfold State.reportAction
  split
  · exact ⟨[], s.reporter, by rw [List.append_nil]⟩
  · split
    · exact ⟨_, _, rfl⟩
    · split
      · exact ⟨[], _, by rw [List.append_nil]⟩
      · split
        · exact ⟨[], _, by rw [List.append_nil]⟩
        · exact ⟨[], s.reporter, by rw [List.append_nil]⟩

theorem State.pumpFor_appends (n : Nat) (s : State) :
    ∃ more r, State.pumpFor n s = { s with posted := s.posted ++ more, reporter := r } := by
  induction n generalizing s with
  | zero => exact ⟨[], s.reporter, by rw [List.append_nil]; rfl⟩
  | succ n ih =>
    by_cases place : s.posted.length < 8
    · obtain ⟨first, r₁, acts⟩ := s.reportAction_appends
      obtain ⟨more, r₂, rest⟩ := ih s.reportAction
      refine ⟨first ++ more, r₂, (if_pos place).trans ?_⟩
      rw [rest, acts, List.append_assoc]
    · exact ⟨[], s.reporter, by rw [State.pumpFor_of_full (Nat.le_of_not_lt place), List.append_nil]⟩

/-- With nothing to hand the Report Writer leaves the state as it is. -/
theorem State.pump_of_idle {s : State}
    (idle : s.reporter.run = none ∨ ∃ r, s.reporter.run = some r ∧ r.next = 100 ∧ r.words = []) : s.pump = s := by
  rcases idle with off | ⟨r, runs, ended, empty⟩
  · exact State.pumpFor_of_none off
  · have still : s.reportAction = s := by
      unfold State.reportAction
      simp [runs, empty, ended]
    have go : ∀ n, State.pumpFor n s = s := by
      intro n
      induction n with
      | zero => rfl
      | succ n ih =>
        unfold State.pumpFor
        rw [still, ih]
        exact ite_self _
    exact go 24

theorem State.reportRecord_pos {s : State} {k : Nat} (record : k < 99) : 0 < (s.reportRecord k).2.length := by
  unfold State.reportRecord
  split
  · exact Nat.zero_lt_succ _
  · split
    · exact Nat.zero_lt_succ _
    · split
      · exact Nat.zero_lt_succ _
      · split
        · exact Nat.zero_lt_succ _
        · next first strips channels links => omega

section
variable {s : State} {r : ReportRun} (last : s.posted.length = 7) (runs : s.reporter.run = some r)
include last runs

/-- One place free, words of a record in hand: the next of them is handed. -/
theorem State.pump_word {x : PostedWrite} {xs : List PostedWrite} (words : r.words = x :: xs) :
    s.pump = { s with
      posted := s.posted ++ [x]
      reporter := { s.reporter with
        run := some { r with words := xs }, bank := if x.note = .reportEnd then r.bank else s.reporter.bank } } := by
  have place : s.posted.length < 8 := by omega
  have step : s.pump = State.pumpFor 23 s.reportAction := if_pos place
  rw [step, State.reportAction_of_word runs words]
  exact State.pumpFor_of_full (by simp [last])

/-- One place free between two records: the next record is begun, and its first word handed. -/
theorem State.pump_record (empty : r.words = []) (more : r.next < 99) :
    let ws := layWords (r.bank.offset + 4 * (s.reportRecord r.next).1) (s.reportRecord r.next).2
    s.pump = { s with
      posted := s.posted ++ ws.take 1
      reporter := { s.reporter with run := some { r with next := r.next + 1, words := ws.drop 1 } } } := by
  intro ws
  have some_ : 1 ≤ ws.length := by
    rw [layWords_length]
    exact State.reportRecord_pos more
  have begins := State.pumpFor_of_begins (m := 23) (by omega : s.posted.length < 8) runs empty more
  have hands := State.pumpFor_of_words (m := 22) (k := 1)
    (s := { s with reporter := { s.reporter with run := some { r with next := r.next + 1, words := ws } } })
    rfl some_ (by show s.posted.length + 1 ≤ 8; omega) (layWords_note _ _)
  refine begins.trans (hands.trans (State.pumpFor_of_full ?_))
  simp [last, some_]

/-- One place free after the last record: the report count counts up, and the first header word is handed. -/
theorem State.pump_tail (empty : r.words = []) (ended : r.next = 99) :
    s.pump = { s with
      posted := s.posted ++ [{ offset := 40, data := s.reporter.count + 1, note := .plain }]
      reporter := { s.reporter with
        count := s.reporter.count + 1
        run := some { r with next := 100, words :=
          [{ offset := 44, data := s.part.time, note := .plain },
           { offset := 36, data := if r.bank = .a then 0 else 1, note := .reportEnd }] } } } := by
  have place : s.posted.length < 8 := by omega
  have bank : BitVec.ofNat 32 r.bank.code = if r.bank = .a then 0 else 1 := by cases r.bank <;> rfl
  have begins : s.reportAction = { s with reporter := { s.reporter with
      count := s.reporter.count + 1
      run := some { r with next := 100, words := s.reportTail r.bank } } } := by
    unfold State.reportAction
    simp [runs, empty, ended]
  have step : s.pump = State.pumpFor 23 s.reportAction := if_pos place
  have hands := State.reportAction_of_word
    (s := { s with reporter := { s.reporter with
      count := s.reporter.count + 1, run := some { r with next := 100, words := s.reportTail r.bank } } }) rfl rfl
  rw [← bank, step, begins]
  refine (if_pos place).trans ((congrArg (State.pumpFor 22) hands).trans (State.pumpFor_of_full ?_))
  show 8 ≤ (s.posted ++ [_]).length
  simp [last]

end

/-! ### A write issued -/

theorem exec_postedWriteIssued (s : State) : exec .postedWriteIssued s = .next (stopWatched s.issueOldest.pump) :=
  congrArg Host.Outcome.next (State.advanceStop_eq _)

/-- What an issued write leaves: its word in memory, its event, and the Report Writer gone on. -/
theorem State.issueOldest_pump {s : State} {w : PostedWrite} {rest : List PostedWrite} (oldest : s.posted = w :: rest) :
    ∃ more, s.issueOldest.pump = { s with
      posted := rest ++ more
      memory := s.memory.writeWord (s.part.base.toNat + w.offset) w.data
      attention := (match w.note with
        | .plain => s.attention
        | .cellOwner => s.attention.event .cell
        | .reportEnd => s.attention.set .report)
      reporter := s.issueOldest.pump.reporter } := by
  obtain ⟨more, reporter, appends⟩ := State.pumpFor_appends 24 s.issueOldest
  refine ⟨more, ?_⟩
  rw [State.pump, appends, State.issueOldest_eq oldest]

/-- Settles O50: the handed write by the places free, the issued one by the record in hand. -/
theorem postedWritesReachMemory : Obligations.PostedWritesReachMemory := by
  refine ⟨fun s w => ⟨fun idle => ⟨State.post_of_place w (State.wordsInHand_of_idle idle),
    State.post_of_full w (State.wordsInHand_of_idle idle)⟩, fun r x xs runs words plain => ?_⟩, fun s => ⟨⟨_, rfl⟩, ?_⟩, ?_⟩
  · have place : s.makePlace = if s.posted.length < 8 then s else s.issueOldest := by
      by_cases room : s.posted.length < 8
      · exact (if_neg (Nat.not_le.mpr room)).trans (if_pos room).symm
      · exact (if_pos (Nat.le_of_not_lt room)).trans (if_neg room).symm
    rw [← place]
    exact State.post_of_words w runs words plain
  · intro w rest oldest
    obtain ⟨more, issued⟩ := State.issueOldest_pump oldest
    refine ⟨s.issueOldest.pump, more, exec_postedWriteIssued s, ?_, congrArg (·.attention) issued, fun r runs seven note => ?_⟩
    · rw [congrArg (·.attention) issued]
      exact issued
    have posted := congrArg (·.posted) issued
    have after := State.issueOldest_eq oldest
    rw [if_neg note] at after
    obtain ⟨t, def_⟩ : ∃ t, s.issueOldest = t := ⟨_, rfl⟩
    rw [def_] at after posted ⊢
    have full : t.posted.length = 7 := by rw [after]; exact seven
    have writes : t.reporter.run = some r := by rw [after]; exact runs
    have keeps : t.posted = rest ∧ t.reporter = s.reporter ∧ t.part = s.part ∧ t.reportRecord r.next = s.reportRecord r.next := by
      rw [after]
      exact ⟨rfl, rfl, rfl, rfl⟩
    obtain ⟨queued, reporter, part, record⟩ := keeps
    refine ⟨fun x xs words => ?_, fun empty records => ?_, fun empty ended => ?_⟩
    · have hands := State.pump_word full writes words
      rw [hands, queued] at posted
      rw [hands, reporter]
      exact ⟨(List.append_cancel_left posted).symm, rfl⟩
    · have hands := State.pump_record full writes empty records
      rw [record, Bank.offset_eq] at hands
      intro ws
      rw [hands, queued] at posted
      rw [hands, reporter]
      exact ⟨(List.append_cancel_left posted).symm, rfl⟩
    · have hands := State.pump_tail full writes empty ended
      rw [reporter, part] at hands
      intro count
      rw [hands, queued] at posted
      rw [hands]
      exact ⟨(List.append_cancel_left posted).symm, rfl⟩
  · intro s wf idle
    refine ⟨fun none_ => ?_, fun w rest oldest => ?_⟩
    · have still : s.issueOldest = s := by unfold State.issueOldest; rw [none_]
      rw [exec_postedWriteIssued, still, State.pump_of_idle idle]
    · have after := State.issueOldest_eq oldest
      have quiet : s.issueOldest.pump = s.issueOldest := by
        refine State.pump_of_idle ?_
        rw [after]
        dsimp only
        split
        · exact .inl rfl
        · exact idle
      refine ⟨s.issueOldest, by rw [exec_postedWriteIssued, quiet], ?_, congrArg (·.reporter) after, ?_, ?_,
        congrArg (·.attention) after⟩
      · rw [congrArg (·.attention) after, congrArg (·.reporter) after]
        exact after
      · rw [after]
        exact Memory.readWord_writeWord wf _ _
      · intro a outside
        rw [after]
        exact Memory.read_writeWord_outside wf _ _ outside

end Sys2Proof.Machine
end

section
/-!
SUPPORT. The Cell Sweep (section 10.3): the commands that cells spell, the reads of a visit in their order, and where one fails.
-/
namespace Sys2Proof.Machine

/-! ### The command a cell spells (R194, section 10.5) -/

theorem lowHalf_eq (w : Word) : lowHalf w = BitVec.ofNat 16 (w.toNat % 65536) := by
  apply BitVec.eq_of_toNat_eq
  simp [lowHalf]

theorem highHalf_eq (w : Word) : highHalf w = BitVec.ofNat 16 (w.toNat / 65536) := by
  apply BitVec.eq_of_toNat_eq
  simp [highHalf, Nat.shiftRight_eq_div_pow]

theorem truncate_eq_ofNat (n : Nat) (w : Word) : w.truncate n = BitVec.ofNat n w.toNat := by
  apply BitVec.eq_of_toNat_eq
  simp

theorem moveArgsOf_eq (head : List Word) : moveArgsOf head =
    { tag := BitVec.ofNat 16 ((wordAt head 3).toNat % 65536), target := BitVec.ofNat 16 ((wordAt head 4).toNat % 65536)
      duration := BitVec.ofNat 16 ((wordAt head 5).toNat % 65536), priority := BitVec.ofNat 3 (wordAt head 6).toNat } := by
  rw [moveArgsOf, lowHalf_eq, lowHalf_eq, lowHalf_eq, truncate_eq_ofNat]

theorem sceneArgsOf_eq (head : List Word) : sceneArgsOf head =
    { tag := BitVec.ofNat 16 ((wordAt head 4).toNat % 65536), duration := BitVec.ofNat 16 ((wordAt head 5).toNat % 65536)
      priority := BitVec.ofNat 3 (wordAt head 6).toNat
      jump := decide ((wordAt head 6).toNat / 256 % 2 = 1), count := wordAt head 7 } := by
  rw [sceneArgsOf, lowHalf_eq, lowHalf_eq, truncate_eq_ofNat, BitVec.getLsbD, Nat.testBit_eq_decide_div_mod_eq]

theorem cellCommand_eq (k : Nat) (head entries : List Word) : cellCommand k head entries = cellSpells k head entries := by
  unfold cellCommand cellSpells
  split
  · unfold groupCommand
    split <;> simp_all [wordAt, sceneArgsOf_eq, Bus.quiet]
  · unfold stripCommand
    split <;> simp_all [wordAt, moveArgsOf_eq, lowHalf_eq, highHalf_eq, cellStrip]

theorem entriesRead_eq (head : List Word) : entriesRead head =
    if 16 ≤ (head.getD 1 0).toNat ∧ (head.getD 1 0).toNat ≤ 19 then min 32 (head.getD 7 0).toNat else 0 := by
  have kinds : ∀ n : Nat, 16 ≤ n ∧ n ≤ 19 ↔ n = 16 ∨ n = 17 ∨ n = 18 ∨ n = 19 := by omega
  simp only [kinds]
  unfold entriesRead entryCount wordAt
  split <;> simp_all

/-- What a cell's command does at its block is what it does as a command. -/
theorem State.deliverCommand_cell {u t : State} {k : Nat} {head entries : List Word} {c : Instr}
    (spelt : cellCommand k head entries = some c) (runs : exec c u = .next t) : u.deliverCommand c = t := by
  have delivers : u.deliverCommand c = afterCommand u (exec c u) := by
    unfold cellCommand at spelt
    split at spelt
    · unfold groupCommand at spelt
      split at spelt <;> cases spelt <;> rfl
    · unfold stripCommand at spelt
      split at spelt <;> cases spelt <;> rfl
  rw [delivers, runs]
  rfl

/-! ### A visit (R193) -/

section
variable {s : State} {host : List HostWrite} {k : Nat}

theorem exec_cellVisit_whole (pass : s.sweep.pass = some k) : exec (.cellVisit { host := host, fault := none }) s =
    .next (s.visit k host) := by
  show Host.Outcome.next (s.cellVisit _) = _
  unfold State.cellVisit
  rw [pass]
  rfl

theorem exec_cellVisit_cut {j : Nat} {t : State} (pass : s.sweep.pass = some k) (fails : s.visitFault k host j = some t) :
    exec (.cellVisit { host := host, fault := some j }) s = .next t := by
  show Host.Outcome.next (s.cellVisit _) = _
  unfold State.cellVisit
  rw [pass]
  exact congrArg (fun o : Option State => Host.Outcome.next (o.getD (s.visit k host))) fails

theorem exec_cellVisit_uncut {j : Nat} (pass : s.sweep.pass = some k) (reads : s.visitFault k host j = none) :
    exec (.cellVisit { host := host, fault := some j }) s = exec (.cellVisit { host := host, fault := none }) s := by
  rw [exec_cellVisit_whole pass]
  show Host.Outcome.next (s.cellVisit _) = _
  unfold State.cellVisit
  rw [pass]
  exact congrArg (fun o : Option State => Host.Outcome.next (o.getD (s.visit k host))) reads

theorem State.visit_left (owned : ¬ isFZ (wordAt s.sweep.readAhead 0) = true) :
    s.visit k host = (s.lookAhead k host).visitEnd k := if_neg owned

theorem State.visit_taken (free : isFZ (wordAt s.sweep.readAhead 0) = true) : s.visit k host =
    (((s.lookAhead k host).takeCommand k s.sweep.readAhead).postAll
      (((s.lookAhead k host).takeCommand k s.sweep.readAhead).visitWrites k)).visitEnd k := if_pos free

theorem State.takeCommand_of_some {u t : State} {head : List Word} {c : Instr}
    (spelt : cellCommand k head (u.readEntries k head) = some c) (runs : exec c u = .next t) : u.takeCommand k head = t := by
  unfold State.takeCommand
  rw [spelt]
  exact State.deliverCommand_cell spelt runs

theorem State.takeCommand_of_none {u : State} {head : List Word} (none_ : cellCommand k head (u.readEntries k head) = none) :
    u.takeCommand k head = u.answer .badKind 0 := by
  unfold State.takeCommand
  rw [none_]

/-! ### Where a read of a visit fails -/

theorem State.visitFault_ahead {j : Nat} (ahead : j < aheadWords k) : s.visitFault k host j =
    some ((s.beforeRead host).accessFault (BitVec.ofNat 32 (cellOffset (k + 1) + 4 * j))) := if_pos ahead

theorem State.visitFault_owned {j : Nat} (past : aheadWords k ≤ j) (owned : ¬ isFZ (wordAt s.sweep.readAhead 0) = true) :
    s.visitFault k host j = none := (if_neg (Nat.not_lt.mpr past)).trans (if_neg owned)

theorem State.visitFault_entry {j : Nat} (past : aheadWords k ≤ j) (free : isFZ (wordAt s.sweep.readAhead 0) = true)
    (entry : j < aheadWords k + entryWords k s.sweep.readAhead) : s.visitFault k host j =
      some ((s.lookAhead k host).accessFault (BitVec.ofNat 32 (cellOffset k + 32 + 4 * (j - aheadWords k)))) :=
  ((if_neg (Nat.not_lt.mpr past)).trans (if_pos free)).trans (if_pos entry)

theorem State.visitFault_command {j : Nat} (free : isFZ (wordAt s.sweep.readAhead 0) = true)
    (past : aheadWords k + entryWords k s.sweep.readAhead ≤ j) : s.visitFault k host j =
      (s.lookAhead k host).commandFault (j - (aheadWords k + entryWords k s.sweep.readAhead))
        (cellCommand k s.sweep.readAhead ((s.lookAhead k host).readEntries k s.sweep.readAhead)) :=
  ((if_neg (Nat.not_lt.mpr (Nat.le_of_add_right_le past))).trans (if_pos free)).trans (if_neg (Nat.not_lt.mpr past))

theorem exec_busFault {o : Word} (running : s.part.state = .running) : exec (.busFault o) s = .next (s.accessFault o) := by
  have accesses : s.accessing = true := by unfold State.accessing; rw [running]
  exact congrArg Host.Outcome.next (if_pos accesses)

theorem State.accessFault_faulted (s : State) (o : Word) : (s.accessFault o).part.state = .faulted :=
  congrArg (·.part.state) (s.faultEntered .bus (s.part.base + o)).1

end

/-! ### A visit's command cut by a fault (R187) -/

/-- The command of a visit whose own reads can fail, its fault at the read after `j` good ones. -/
def cutCommand (c : Option Instr) (j : Nat) : Option Instr :=
  match c with
  | some (.setupLoad c m _) => some (.setupLoad c m { host := [], fault := some j })
  | some (.activityFlush _) => some (.activityFlush { host := [], fault := some j })
  | _ => none

theorem State.setupLoad_state (u : State) (count mask : Word) (host : List HostWrite) :
    (u.setupLoad count mask host).part = u.part := by
  unfold State.setupLoad
  split
  · rfl
  · split
    · rfl
    · exact (State.onSetup_loadSections _ _ _).part.trans (u.onImage_beforeRead host).part

theorem State.flushActivity_answer_part (u : State) (host : List HostWrite) (o : Outcome) (w : Word) :
    ((u.flushActivity host).answer o w).part = u.part := (u.onJournal_flushActivity host).part

/-- The commands a cell spells come with no host writes and no fault of their own. -/
theorem cellCommand_quiet {k : Nat} {head entries : List Word} {bus : Bus} :
    (∀ {count mask}, cellCommand k head entries = some (.setupLoad count mask bus) → bus = Bus.quiet) ∧
      (cellCommand k head entries = some (.activityFlush bus) → bus = Bus.quiet) := by
  unfold cellCommand
  split
  · unfold groupCommand
    constructor
    · intro count mask spelt
      split at spelt <;> cases spelt
      rfl
    · intro spelt
      split at spelt <;> cases spelt
      rfl
  · unfold stripCommand
    constructor
    · intro count mask spelt
      split at spelt <;> cases spelt
    · intro spelt
      split at spelt <;> cases spelt

theorem State.setupFault_faulted {v t : State} {start : Bool} {secs : List SetupSection} {j : Nat}
    (cut : v.setupFault start secs j = some t) : t.part.state = .faulted := by
  obtain ⟨r, -, rfl⟩ := Option.map_eq_some_iff.mp cut
  exact State.accessFault_faulted _ _

/-- A cut of a visit's command is that command cut: it leaves the part FAULTED, or the command had no such read. -/
theorem State.commandFault_own {u t : State} {k j : Nat} {head entries : List Word} {own : Instr}
    (running : u.part.state = .running) (cuts : cutCommand (cellCommand k head entries) j = some own)
    (runs : exec own u = .next t) : u.commandFault j (cellCommand k head entries) =
      if t.part.state = .faulted then some t else none := by
  have unfaulted : u.part.state ≠ .faulted := by rw [running]; nofun
  have decided : ∀ (cut : Option State) (whole : State), exec own u = .next (cut.getD whole) → whole.part = u.part →
      (∀ f, cut = some f → f.part.state = .faulted) → cut = if t.part.state = .faulted then some t else none := by
    intro cut whole does keeps faults
    obtain rfl : cut.getD whole = t := Host.Outcome.next.inj (does.symm.trans runs)
    cases cut with
    | none => exact (if_neg (keeps.symm ▸ unfaulted : whole.part.state ≠ .faulted)).symm
    | some f => exact (if_pos (faults f rfl)).symm
  cases spelt : cellCommand k head entries with
  | none => rw [spelt] at cuts; cases cuts
  | some c =>
    rw [spelt] at cuts
    unfold cutCommand at cuts
    split at cuts
    · next count mask bus same =>
      obtain rfl := Option.some.inj cuts
      obtain rfl := Option.some.inj same
      obtain rfl := cellCommand_quiet.1 spelt
      exact decided (u.setupLoadFault count mask [] j) _ rfl (u.setupLoad_state count mask []) fun f => State.setupFault_faulted
    · next bus same =>
      obtain rfl := Option.some.inj cuts
      obtain rfl := Option.some.inj same
      obtain rfl := cellCommand_quiet.2 spelt
      refine decided (u.flushFault [] j) _ rfl (u.flushActivity_answer_part [] .done 0) fun f cut => ?_
      obtain ⟨v, o, rfl⟩ := State.flushFaultFor_faults cut
      exact State.accessFault_faulted v o
    · cases cuts

theorem State.commandFault_of_uncut {u : State} {c : Option Instr} {j : Nat} (uncut : cutCommand c j = none) :
    u.commandFault j c = none := by
  unfold State.commandFault
  split
  · cases uncut
  · cases uncut
  · rfl

/-! ### The Cell Sweep -/

section
variable {s : State} {host : List HostWrite}

theorem State.sweepExpiry_of_stopped (stopped : s.sweep.timer = none) : s.sweepExpiry host = s.hostWrote host := by
  unfold State.sweepExpiry
  rw [stopped]

theorem State.sweepExpiry_of_late (timer : s.sweep.timer ≠ none) (pass : s.sweep.pass ≠ none) : s.sweepExpiry host =
    ({ s with sweep := { s.sweep with late := s.sweep.late + 1, timer := some s.sweep.period } } : State).hostWrote host := by
  obtain ⟨n, timer⟩ := Option.ne_none_iff_exists'.mp timer
  obtain ⟨k, pass⟩ := Option.ne_none_iff_exists'.mp pass
  unfold State.sweepExpiry
  rw [timer, pass]

theorem State.sweepExpiry_of_idle (timer : s.sweep.timer ≠ none) (pass : s.sweep.pass = none) :
    let v := ({ s with sweep := { s.sweep with
      period := s.sweep.periodStaged, timer := some s.sweep.periodStaged, pass := some 0 } } : State).beforeRead host
    s.sweepExpiry host = { v with sweep := { v.sweep with
      readAhead := (List.range 8).map fun k => v.readImage (0x40 + 4 * k) } } := by
  obtain ⟨n, timer⟩ := Option.ne_none_iff_exists'.mp timer
  unfold State.sweepExpiry
  rw [timer, pass]
  rfl

end

theorem cellOffset_eq (k : Nat) : cellOffset k = if k < 4 then 0x40 + 160 * k else 0x300 + 32 * (k - 4) := rfl

theorem State.lookAhead_eq (s : State) (k : Nat) (host : List HostWrite) : s.lookAhead k host =
    if k < 35 then { s.beforeRead host with sweep := { (s.beforeRead host).sweep with
      readAhead := (List.range 8).map fun j => (s.beforeRead host).readImage (cellOffset (k + 1) + 4 * j) } }
    else { s.hostWrote host with sweep := { s.sweep with readAhead := [] } } := by
  unfold State.lookAhead aheadWords lastCell
  split <;> rfl

theorem State.lookAhead_part (s : State) (k : Nat) (host : List HostWrite) : (s.lookAhead k host).part = s.part := by
  rw [State.lookAhead_eq]
  split
  · exact (s.onImage_beforeRead host).part
  · rfl

theorem State.readEntries_eq (u : State) (k : Nat) (head : List Word) : u.readEntries k head =
    if k < 4 then (List.range (entriesRead head)).map fun j => u.readImage (cellOffset k + 32 + 4 * j) else [] := by
  unfold State.readEntries entryWords
  split <;> rfl

theorem State.readEntries_length (u : State) (k : Nat) (head : List Word) : (u.readEntries k head).length = entryWords k head := by
  simp [State.readEntries, State.readWords]

/-- Settles O49: a visit by its head's owner and its command; a failed read by its place among the visit's reads. -/
theorem sweepVisitsCells : Obligations.SweepVisitsCells := by
  refine ⟨fun k head entries _ => ⟨cellCommand_eq k head entries, entriesRead_eq head⟩, by decide, fun s host => ?_⟩
  intro word
  refine ⟨fun stopped => ?_, fun timer pass => ?_, fun timer pass => ⟨_, rfl, ?_⟩, fun pass fault => ?_, fun k pass => ?_⟩
  · exact congrArg Host.Outcome.next (State.sweepExpiry_of_stopped stopped)
  · exact congrArg Host.Outcome.next (State.sweepExpiry_of_late timer pass)
  · exact congrArg Host.Outcome.next (State.sweepExpiry_of_idle timer pass)
  · show Host.Outcome.next (s.cellVisit _) = _
    unfold State.cellVisit
    rw [pass]
  · intro at_ next head v u on answered entries free visit cut ahead reads
    have look : s.lookAhead k host = u := s.lookAhead_eq k host
    have ends : ∀ t : State, t.visitEnd k = on t := fun t => by
      unfold on State.visitEnd lastCell
      split <;> rfl
    have writes : ∀ t : State, t.postAll (t.visitWrites k) = answered t := fun t => rfl
    have read : u.readEntries k head = entries := u.readEntries_eq k head
    have counts : entryWords k head = entries.length := by rw [← read, State.readEntries_length]
    have aheads : aheadWords k = ahead := rfl
    have owner : isFZ (wordAt head 0) = true ↔ free := isFZ_iff _
    have unowned : ¬ free → ¬ isFZ (wordAt head 0) = true := fun h => h ∘ owner.mp
    have running : s.part.state = .running → u.part.state = .running := fun h => by rw [← look, s.lookAhead_part, h]
    have taken : free → ∀ t, u.takeCommand k head = t → visit = .next (on (answered t)) := by
      intro h t takes
      refine (exec_cellVisit_whole pass).trans (congrArg Host.Outcome.next ?_)
      rw [State.visit_taken (owner.mpr h), look, takes, writes, ends]
    clear_value u
    refine ⟨fun h => ?_, fun h none_ => ?_, fun c h spelt => ?_, fun runs => ⟨fun j small => ?_, fun j h past small => ?_⟩,
      fun j past h => ?_, fun j h past => ?_⟩
    · exact (exec_cellVisit_whole pass).trans (congrArg Host.Outcome.next
        ((State.visit_left (unowned h)).trans (by rw [look, ends])))
    · exact taken h _ (State.takeCommand_of_none (read.symm ▸ none_))
    · obtain ⟨t, does, -⟩ := everyCommandCompletes c u
      exact ⟨t, does, taken h t (State.takeCommand_of_some (read.symm ▸ spelt) does)⟩
    · have part : v.part.state = .running := (congrArg (·.state) (s.onImage_beforeRead host).part).trans runs
      exact (exec_cellVisit_cut pass (State.visitFault_ahead small)).trans (exec_busFault part).symm
    · refine (exec_cellVisit_cut pass (State.visitFault_entry past (owner.mpr h) ?_)).trans ?_
      · exact counts.symm ▸ small
      · rw [look]
        exact (exec_busFault (running runs)).symm
    · exact exec_cellVisit_uncut pass (State.visitFault_owned past (unowned h))
    · have total : aheadWords k + entryWords k head = reads := congrArg (aheadWords k + ·) counts
      have fails : s.visitFault k host j = u.commandFault (j - reads) (cellCommand k head entries) := by
        rw [State.visitFault_command (owner.mpr h) (total.symm ▸ past : aheadWords k + entryWords k head ≤ j), look, total, read]
      intro own
      have owns : own = cutCommand (cellCommand k head entries) (j - reads) := by
        unfold own
        rcases cellCommand k head entries with _ | c
        · rfl
        · cases c <;> rfl
      refine ⟨fun uncut => ?_, fun c t runs cuts does => ?_⟩
      · exact exec_cellVisit_uncut pass (fails.trans (State.commandFault_of_uncut (owns.symm.trans uncut)))
      · have ends := fails.trans (State.commandFault_own runs (owns.symm.trans cuts) does)
        by_cases faulted : t.part.state = .faulted
        · rw [if_pos faulted] at ends ⊢
          exact exec_cellVisit_cut pass ends
        · rw [if_neg faulted] at ends ⊢
          exact exec_cellVisit_uncut pass ends

end Sys2Proof.Machine
end

section
/-!
SUPPORT. The setup sections (R195, section 10.5): what each owner takes from the words read is what the setup area gives, and a value
is taken into range where it does not stand in it.
-/
namespace Sys2Proof.Machine

/-! ### The words of a section -/

theorem State.sectionWords_at (v : State) {x : SetupSection} {k : Nat} (inside : k < x.words) :
    wordAt (v.sectionWords x) k = setupWord v x.offset k := by
  simp [wordAt, State.sectionWords, State.readWords, setupWord, List.getD_eq_getElem?_getD, inside]

theorem State.sectionWords_value (v : State) {x : SetupSection} {k : Nat} (inside : k < x.words) :
    valueAt (v.sectionWords x) k = setupValue v x.offset k := congrArg BitVec.toNat (v.sectionWords_at inside)

/-- The words a section reads depend on memory and the image base alone. -/
theorem State.sectionWords_congr {s t : State} (memory : t.memory = s.memory) (part : t.part = s.part) (x : SetupSection) :
    t.sectionWords x = s.sectionWords x := by
  unfold State.sectionWords State.readWords State.readImage State.address
  rw [memory, part]

/-! ### Values taken into range -/

theorem takeRange_fst (lo hi x : Nat) : (takeRange lo hi x).1 = within lo hi x := rfl

theorem within_of_mem {lo hi x : Nat} (least : lo ≤ x) (most : x ≤ hi) : within lo hi x = x := by
  unfold within
  omega

theorem within_eq_iff {lo hi x : Nat} (order : lo ≤ hi) : within lo hi x = x ↔ lo ≤ x ∧ x ≤ hi := by
  unfold within
  omega

/-- A value stands in its range, where the flag of its taking is clear. -/
theorem takeRange_snd {lo hi x : Nat} (order : lo ≤ hi) : (takeRange lo hi x).2 = false ↔ within lo hi x = x := by
  rw [within_eq_iff order]
  simp [takeRange]

theorem takeMultiple_snd {lo hi m x : Nat} : (takeMultiple lo hi m x).2 = false ↔ within lo hi x / m * m = x := by
  simp [takeMultiple, within, clampNat]

theorem takePower_snd {lo hi x : Nat} : (takePower lo hi x).2 = false ↔ 2 ^ (within lo hi x).log2 = x := by
  simp [takePower, within, clampNat]

theorem lowestBit_eq (w : Word) : w[0] = decide (w.toNat % 2 = 1) := by
  rw [← BitVec.getLsbD_eq_getElem, BitVec.getLsbD, Nat.testBit_eq_decide_div_mod_eq]
  simp

/-! ### Each section as its owner takes it -/

section
variable (v : State)

theorem takeServoClass_fst (c : Fin 4) : (takeServoClass (v.sectionWords .servo) c.val).1 = setupServo v c.val := by
  have at_ : ∀ k, k < 8 → valueAt (v.sectionWords .servo) (8 * c.val + k) = setupValue v 0x0800 (8 * c.val + k) :=
    fun k small => v.sectionWords_value (x := .servo) (by show _ < 32; omega)
  have zero := at_ 0 (by decide)
  rw [Nat.add_zero] at zero
  simp [takeServoClass, setupServo, takeRange_fst, at_, zero]

theorem takeServoClass_snd (c : Fin 4) : (takeServoClass (v.sectionWords .servo) c.val).2 = false ↔
    let k := setupServo v c
    [k.vmax, k.kp, k.umin, k.deadband, k.settled, k.stallErr, k.limit, k.calDuty] =
      (List.range 8).map fun j => setupValue v 0x0800 (8 * c.val + j) := by
  have at_ : ∀ k, k < 8 → valueAt (v.sectionWords .servo) (8 * c.val + k) = setupValue v 0x0800 (8 * c.val + k) :=
    fun k small => v.sectionWords_value (x := .servo) (by show _ < 32; omega)
  have zero := at_ 0 (by decide)
  rw [Nat.add_zero] at zero
  simp [takeServoClass, setupServo, List.range_succ, at_, zero, takeRange_snd, Bool.or_eq_false_iff, and_assoc]

theorem takeStripEntry_fst (i : StripId) : (takeStripEntry (v.sectionWords .strip) i.val).1 = setupStrip v i.val := by
  have at_ : ∀ k, k < 7 → wordAt (v.sectionWords .strip) (7 * i.val + k) = setupWord v 0x0880 (7 * i.val + k) :=
    fun k small => v.sectionWords_at (x := .strip) (by show _ < 224; omega)
  have zero := at_ 0 (by decide)
  rw [Nat.add_zero] at zero
  simp [takeStripEntry, setupStrip, setupValue, takeRange_fst, at_, zero, lowestBit_eq]
  exact ⟨rfl, rfl, rfl⟩

theorem takeStripEntry_snd (i : StripId) : (takeStripEntry (v.sectionWords .strip) i.val).2 = false ↔
    setupValue v 0x0880 (7 * i.val + 4) ≤ 255 ∧ setupValue v 0x0880 (7 * i.val + 6) ≤ 15 := by
  have at_ : ∀ k, k < 7 → wordAt (v.sectionWords .strip) (7 * i.val + k) = setupWord v 0x0880 (7 * i.val + k) :=
    fun k small => v.sectionWords_at (x := .strip) (by show _ < 224; omega)
  simp [takeStripEntry, setupValue, at_, takeRange_snd, within_eq_iff]

theorem takeScan_fst : (takeScan (v.sectionWords .scan)).1 = setupScan v := by
  have at_ : ∀ k, k < 2 → valueAt (v.sectionWords .scan) k = setupValue v 0x0C00 k := fun k small => v.sectionWords_value small
  simp [takeScan, setupScan, at_, takeMultiple, takePower, within, clampNat]

theorem takeScan_snd : (takeScan (v.sectionWords .scan)).2 = false ↔
    setupScan v = (setupValue v 0x0C00 0, setupValue v 0x0C00 1) := by
  have at_ : ∀ k, k < 2 → valueAt (v.sectionWords .scan) k = setupValue v 0x0C00 k := fun k small => v.sectionWords_value small
  simp [takeScan, setupScan, at_, takeMultiple_snd, takePower_snd]

theorem takeTouch_fst : (takeTouch (v.sectionWords .touch)).1 = setupTouch v := by
  have at_ : ∀ k, k < 3 → valueAt (v.sectionWords .touch) k = setupValue v 0x0C08 k := fun k small => v.sectionWords_value small
  simp [takeTouch, setupTouch, at_, takeRange_fst]

theorem takeTouch_snd : (takeTouch (v.sectionWords .touch)).2 = false ↔
    ∀ k : Fin 3, 1 ≤ setupValue v 0x0C08 k ∧ setupValue v 0x0C08 k ≤ 15 := by
  have at_ : ∀ k, k < 3 → valueAt (v.sectionWords .touch) k = setupValue v 0x0C08 k := fun k small => v.sectionWords_value small
  simp [takeTouch, at_, takeRange_snd, within_eq_iff, Fin.forall_fin_succ, and_assoc]

theorem takeGrant_fst : (takeGrant (v.sectionWords .grant)).1 =
    { full := (setupGrant v).1, low := (setupGrant v).2.1, floor := (setupGrant v).2.2 } := by
  have at_ : ∀ k, k < 3 → valueAt (v.sectionWords .grant) k = setupValue v 0x0C14 k := fun k small => v.sectionWords_value small
  simp [takeGrant, setupGrant, at_, takeRange_fst]

theorem takeGrant_snd : (takeGrant (v.sectionWords .grant)).2 = false ↔
    setupGrant v = (setupValue v 0x0C14 0, setupValue v 0x0C14 1, setupValue v 0x0C14 2) := by
  have at_ : ∀ k, k < 3 → valueAt (v.sectionWords .grant) k = setupValue v 0x0C14 k := fun k small => v.sectionWords_value small
  simp [takeGrant, setupGrant, at_, takeRange_fst, takeRange_snd, and_assoc]

/-- The PWM prescale, down to a power of two (R115). -/
theorem within_log2 (x : Nat) : 2 ^ (within 1 8 x).log2 = if x < 2 then 1 else if x < 4 then 2 else if x < 8 then 4 else 8 := by
  by_cases small : x ≤ 8
  · have few : ∀ y : Fin 9, 2 ^ (within 1 8 y.val).log2 = if y.val < 2 then 1 else if y.val < 4 then 2 else if y.val < 8 then 4 else 8 := by
      decide
    exact few ⟨x, by omega⟩
  · have full : within 1 8 x = 8 := by unfold within; omega
    rw [full, if_neg (by omega), if_neg (by omega), if_neg (by omega)]
    decide

theorem takeDrive_fst : (takeDrive (v.sectionWords .drive)).1 = setupDrive v := by
  have at_ : valueAt (v.sectionWords .drive) 0 = setupValue v 0x11D0 0 := v.sectionWords_value (x := .drive) (by decide)
  rw [takeDrive, at_]
  exact within_log2 _

theorem takeDrive_snd : (takeDrive (v.sectionWords .drive)).2 = false ↔ setupDrive v = setupValue v 0x11D0 0 := by
  have at_ : valueAt (v.sectionWords .drive) 0 = setupValue v 0x11D0 0 := v.sectionWords_value (x := .drive) (by decide)
  rw [takeDrive, at_, takePower_snd, within_log2]
  rfl

theorem takeBallistics_fst (k : Fin 4) : (takeBallistics (v.sectionWords .meter) k.val).1 = setupProfile v k.val := by
  have at_ : ∀ j, j < 6 → wordAt (v.sectionWords .meter) (6 * k.val + j) = setupWord v 0x0C20 (6 * k.val + j) :=
    fun j small => v.sectionWords_at (x := .meter) (by show _ < 152; omega)
  have zero := at_ 0 (by decide)
  rw [Nat.add_zero] at zero
  simp [takeBallistics, setupProfile, setupValue, valueAt, fieldOf, takeRange_fst, at_, zero]

theorem takeBallistics_snd (k : Fin 4) : (takeBallistics (v.sectionWords .meter) k.val).2 = false ↔
    let b := setupProfile v k
    let x := fun j => setupValue v 0x0C20 (6 * k.val + j)
    [b.rise, b.decay, b.overLevel, b.overCount, b.overHold] = [x 0, x 1, x 3, x 4, x 5] := by
  have at_ : ∀ j, j < 6 → wordAt (v.sectionWords .meter) (6 * k.val + j) = setupWord v 0x0C20 (6 * k.val + j) :=
    fun j small => v.sectionWords_at (x := .meter) (by show _ < 152; omega)
  have zero := at_ 0 (by decide)
  rw [Nat.add_zero] at zero
  simp [takeBallistics, setupProfile, setupValue, valueAt, takeRange_snd, at_, zero, and_assoc]

theorem channel_eq (c : ChanId) : (channelProfile (v.sectionWords .meter) c.val, channelEnable (v.sectionWords .meter) c.val) =
    setupChannel v c.val := by
  have profile : wordAt (v.sectionWords .meter) (24 + 2 * c.val) = setupWord v 0x0C20 (24 + 2 * c.val) :=
    v.sectionWords_at (x := .meter) (by show _ < 152; omega)
  have enable : wordAt (v.sectionWords .meter) (25 + 2 * c.val) = setupWord v 0x0C20 (25 + 2 * c.val) :=
    v.sectionWords_at (x := .meter) (by show _ < 152; omega)
  simp [channelProfile, channelEnable, setupChannel, setupValue, profile, enable, lowestBit_eq]
  rfl

/-- A scale table checked upward (R172), threshold by threshold. -/
theorem checkedScale_eq (before : Nat) (ts : List Nat) : checkedScale before ts = (List.range ts.length).map fun i =>
    (List.range (i + 1)).foldl (fun m j => max m (min 480 (ts.getD j 0))) before := by
  induction ts generalizing before with
  | nil => rfl
  | cons t ts ih =>
    rw [checkedScale, ih, List.length_cons, List.range_succ_eq_map, List.map_cons, List.map_map]
    refine List.cons_eq_cons.mpr ⟨by simp, List.map_congr_left fun i _ => ?_⟩
    show _ = (List.range (i + 1 + 1)).foldl _ before
    rw [List.range_succ_eq_map (n := i + 1), List.foldl_cons, List.foldl_map]
    rfl

theorem loadedScale_eq (n : Fin 2) : loadedScale (v.sectionWords .scale) n.val =
    (List.range 40).map fun i => setupValue v 0x0E80 (40 * n.val + i) := by
  refine List.map_congr_left fun i mem => v.sectionWords_value (x := .scale) ?_
  have := List.mem_range.mp mem
  show _ < 80
  omega

theorem checked_loadedScale (n : Fin 2) : checkedScale 0 (loadedScale (v.sectionWords .scale) n.val) = setupScale v n.val := by
  rw [loadedScale_eq, checkedScale_eq]
  unfold setupScale
  rw [List.length_map, List.length_range]
  refine List.map_congr_left fun i mem => List.foldl_rel (r := (· = ·)) rfl fun j inside m _ same => ?_
  have below : j < 40 := by
    have := List.mem_range.mp mem
    have := List.mem_range.mp inside
    omega
  rw [← same]
  simp [List.getD_eq_getElem?_getD, below]

theorem takeScale_fst (n : Fin 2) : (takeScale (v.sectionWords .scale) n.val).1.toList = setupScale v n.val := by
  have length : (setupScale v n.val).length = 40 := by simp [setupScale]
  refine List.ext_getElem (by simp [length]) fun i h₁ h₂ => ?_
  simp [takeScale, checked_loadedScale, List.getD_eq_getElem?_getD, h₂]

theorem takeScale_snd (n : Fin 2) : (takeScale (v.sectionWords .scale) n.val).2 = false ↔
    setupScale v n = (List.range 40).map fun i => setupValue v 0x0E80 (40 * n.val + i) := by
  rw [takeScale, checked_loadedScale, loadedScale_eq]
  simp

theorem takeBarChannel_fst (w : Word) : (takeBarChannel w).1 =
    if w.toNat % 256 < 64 then some (Fin.ofNat 64 (w.toNat % 256)) else none := by
  have field : fieldOf w 0 8 = w.toNat % 256 := by simp [fieldOf]
  unfold takeBarChannel
  simp only [field]
  split
  · next small => exact congrArg some (Fin.ext (Nat.mod_eq_of_lt small).symm)
  · rfl

theorem takeBarChannel_snd (w : Word) : (takeBarChannel w).2 = false ↔ w.toNat % 256 < 64 ∨ w.toNat % 256 = 255 := by
  have field : fieldOf w 0 8 = w.toNat % 256 := by simp [fieldOf]
  unfold takeBarChannel
  simp only [field]
  split
  · next small => simp [small]
  · next large => simp [large]

theorem takeBars_fst : (takeBars (v.sectionWords .bars)).1 = setupBars v := by
  have at_ : ∀ k, k < 130 → wordAt (v.sectionWords .bars) k = setupWord v 0x0FC0 k := fun k small => v.sectionWords_at small
  have pairs : ∀ b : Fin 64, 2 * b.val < 130 ∧ 2 * b.val + 1 < 130 := fun b => by omega
  simp [takeBars, setupBars, setupValue, valueAt, takeRange_fst, takeBarChannel_fst, at_, pairs, lowestBit_eq]
  exact ⟨rfl, rfl⟩

theorem takeBars_snd : (takeBars (v.sectionWords .bars)).2 = false ↔
    (setupBars v).brightness = setupValue v 0x0FC0 128 ∧ ∀ b : Fin 64,
      setupValue v 0x0FC0 (2 * b.val) % 256 < 64 ∨ setupValue v 0x0FC0 (2 * b.val) % 256 = 255 := by
  have at_ : ∀ k, k < 130 → wordAt (v.sectionWords .bars) k = setupWord v 0x0FC0 k := fun k small => v.sectionWords_at small
  have pairs : ∀ b, b < 64 → 2 * b < 130 := by omega
  have entries : (∀ b < 64, (takeBarChannel (wordAt (v.sectionWords .bars) (2 * b))).2 = false) ↔ ∀ b : Fin 64,
      setupValue v 0x0FC0 (2 * b.val) % 256 < 64 ∨ setupValue v 0x0FC0 (2 * b.val) % 256 = 255 := by
    rw [Fin.forall_iff]
    refine forall₂_congr fun b small => ?_
    rw [at_ _ (pairs b small), takeBarChannel_snd]
    rfl
  rw [← entries]
  simp [takeBars, setupBars, setupValue, valueAt, takeRange_snd, at_]

theorem takeLinkSettings_fst (l : LinkId) : (takeLinkSettings (v.sectionWords .link) l.val).1 = setupLink v l.val := by
  have at_ : ∀ k, k < 37 → wordAt (v.sectionWords .link) (37 * l.val + k) = setupWord v 0x1200 (37 * l.val + k) :=
    fun k small => v.sectionWords_at (x := .link) (by show _ < 74; omega)
  have zero := at_ 0 (by decide)
  rw [Nat.add_zero] at zero
  have len : ∀ w : Word, (if w.toNat = 16 then (WordLen.w16, false) else (WordLen.w24, w.toNat != 24)).1 =
      if w.toNat = 16 then WordLen.w16 else WordLen.w24 := fun w => by split <;> rfl
  simp [takeLinkSettings, setupLink, setupValue, takeRange_fst, at_, zero, lowestBit_eq, len]
  repeat' apply And.intro
  all_goals rfl

theorem takeLinkSettings_snd (l : LinkId) : (takeLinkSettings (v.sectionWords .link) l.val).2 = false ↔
    let x := fun k => setupValue v 0x1200 (37 * l.val + k)
    (x 1 = 16 ∨ x 1 = 24) ∧ (1 ≤ x 2 ∧ x 2 ≤ 32) ∧ (1 ≤ x 4 ∧ x 4 ≤ 100) := by
  have at_ : ∀ k, k < 37 → wordAt (v.sectionWords .link) (37 * l.val + k) = setupWord v 0x1200 (37 * l.val + k) :=
    fun k small => v.sectionWords_at (x := .link) (by show _ < 74; omega)
  have len : ∀ w : Word, (if w.toNat = 16 then (WordLen.w16, false) else (WordLen.w24, w.toNat != 24)).2 = false ↔
      w.toNat = 16 ∨ w.toNat = 24 := fun w => by split <;> simp_all
  simp [takeLinkSettings, setupValue, takeRange_snd, within_eq_iff, at_, len, and_assoc]

theorem takeSlot_eq (h : HeaderCounts) (w : Word) :
    let n := w.toNat % 256
    let slot : Slot := if w.toNat / 256 % 256 = 1 ∧ n < h.channels ∧ n < 64 then .meter (Fin.ofNat 64 n)
      else if w.toNat / 256 % 256 = 2 ∧ n < h.strips ∧ n < 32 then .strip (Fin.ofNat 32 n) else .null
    takeSlot h w = (slot, decide (w.toNat / 256 % 256 ≠ 0 ∧ slot = .null)) := by
  intro n slot
  have number : fieldOf w 0 8 = n := by simp [fieldOf, n]
  have kind : fieldOf w 8 8 = w.toNat / 256 % 256 := by simp [fieldOf]
  unfold takeSlot
  simp only [number, kind]
  split
  · next zero => simp [slot, zero]
  · next one =>
    split
    · next inside =>
      have small : Fin.ofNat 64 n = ⟨n, inside.2⟩ := Fin.ext (Nat.mod_eq_of_lt inside.2)
      simpa [slot, one, inside] using small.symm
    · next outside => simp [slot, one, outside]
  · next two =>
    split
    · next inside =>
      have small : Fin.ofNat 32 n = ⟨n, inside.2⟩ := Fin.ext (Nat.mod_eq_of_lt inside.2)
      simpa [slot, two, inside] using small.symm
    · next outside => simp [slot, two, outside]
  · next zero one two => simp_all [slot]

theorem takeSlotMap_fst (l : LinkId) : (takeSlotMap v.part.header (v.sectionWords .link) l.val).1 =
    Vector.ofFn fun i : Fin 32 => setupSlot v l.val i.val := by
  have at_ : ∀ i : Fin 32, wordAt (v.sectionWords .link) (37 * l.val + 5 + i.val) = setupWord v 0x1200 (37 * l.val + 5 + i.val) :=
    fun i => v.sectionWords_at (x := .link) (by show _ < 74; omega)
  refine congrArg Vector.ofFn (funext fun i => ?_)
  rw [at_, takeSlot_eq]
  rfl

theorem takeSlotMap_snd (l : LinkId) : (takeSlotMap v.part.header (v.sectionWords .link) l.val).2 = false ↔ ∀ i : Fin 32,
    setupValue v 0x1200 (37 * l.val + (5 + i.val)) / 256 % 256 = 0 ∨ setupSlot v l i ≠ .null := by
  have at_ : ∀ i, i < 32 → wordAt (v.sectionWords .link) (37 * l.val + 5 + i) = setupWord v 0x1200 (37 * l.val + 5 + i) :=
    fun i small => v.sectionWords_at (x := .link) (by show _ < 74; omega)
  have entries : (∀ i < 32, (takeSlot v.part.header (wordAt (v.sectionWords .link) (37 * l.val + 5 + i))).2 = false) ↔
      ∀ i : Fin 32, setupValue v 0x1200 (37 * l.val + (5 + i.val)) / 256 % 256 = 0 ∨ setupSlot v l i ≠ .null := by
    rw [Fin.forall_iff]
    refine forall₂_congr fun i small => ?_
    rw [at_ i small, takeSlot_eq, ← Nat.add_assoc]
    dsimp only
    rw [decide_eq_false_iff_not, Classical.not_and_iff_not_or_not, Classical.not_not]
    rfl
  rw [← entries]
  simp [takeSlotMap]

theorem takeAttn_fst : (takeAttn (v.sectionWords .attn)).1 =
    { cellThreshold := (setupAttn v .cell).1, cellHold := (setupAttn v .cell).2
      activityThreshold := (setupAttn v .activity).1, activityHold := (setupAttn v .activity).2 } := by
  have at_ : ∀ k, k < 4 → valueAt (v.sectionWords .attn) k = setupValue v 0x1340 k := fun k small => v.sectionWords_value small
  simp [takeAttn, setupAttn, at_, takeRange_fst]

theorem takeAttn_snd : (takeAttn (v.sectionWords .attn)).2 = false ↔ SectionClean v .attn := by
  have at_ : ∀ k, k < 4 → valueAt (v.sectionWords .attn) k = setupValue v 0x1340 k := fun k small => v.sectionWords_value small
  have both : SectionClean v .attn ↔ setupAttn v .cell = (setupValue v 0x1340 0, setupValue v 0x1340 1) ∧
      setupAttn v .activity = (setupValue v 0x1340 2, setupValue v 0x1340 3) :=
    ⟨fun h => ⟨h .cell, h .activity⟩, fun h w => match w with
      | .cell => h.1
      | .activity => h.2⟩
  rw [both]
  simp [takeAttn, setupAttn, at_, takeRange_snd, and_assoc]

theorem takeReport_fst : (takeReport (v.sectionWords .report)).1 =
    { period := (setupReport v).1, hold := (setupReport v).2.1, sweep := (setupReport v).2.2 } := by
  have at_ : ∀ k, k < 3 → valueAt (v.sectionWords .report) k = setupValue v 0x1350 k := fun k small => v.sectionWords_value small
  simp [takeReport, setupReport, at_, takeRange_fst, takeMultiple, within, clampNat]

theorem takeReport_snd : (takeReport (v.sectionWords .report)).2 = false ↔
    setupReport v = (setupValue v 0x1350 0, setupValue v 0x1350 1, setupValue v 0x1350 2) := by
  have at_ : ∀ k, k < 3 → valueAt (v.sectionWords .report) k = setupValue v 0x1350 k := fun k small => v.sectionWords_value small
  simp [takeReport, setupReport, at_, takeRange_snd, takeMultiple_snd, and_assoc]

/-- A value of a section is taken into its range where it does not stand in it (R195). -/
theorem sectionClamped_eq_false (x : SetupSection) :
    sectionClamped v.part.header (v.sectionWords x) x = false ↔ SectionClean v x := by
  have each : ∀ (n : Nat) (flag : Nat → Bool), (List.range n).any flag = false ↔ ∀ i : Fin n, flag i.val = false := by
    intro n flag
    rw [List.any_eq_false, Fin.forall_iff]
    simp
  cases x with
  | servo => exact (each _ _).trans (forall_congr' (takeServoClass_snd v))
  | strip => exact (each _ _).trans (forall_congr' (takeStripEntry_snd v))
  | scan => exact takeScan_snd v
  | touch => exact takeTouch_snd v
  | grant => exact takeGrant_snd v
  | drive => exact takeDrive_snd v
  | meter => exact (each _ _).trans (forall_congr' (takeBallistics_snd v))
  | scale =>
    exact Bool.or_eq_false_iff.trans ((and_congr (takeScale_snd v 0) (takeScale_snd v 1)).trans
      (Fin.forall_fin_two (p := fun n => setupScale v n =
        (List.range 40).map fun i => setupValue v 0x0E80 (40 * n.val + i))).symm)
  | bars => exact takeBars_snd v
  | link =>
    refine (each _ _).trans (forall_congr' fun l => Bool.or_eq_false_iff.trans
      ((and_congr (takeLinkSettings_snd v l) (takeSlotMap_snd v l)).trans ?_))
    simp only [and_assoc]
  | attn => exact takeAttn_snd v
  | report => exact takeReport_snd v

end

end Sys2Proof.Machine
end

section
/-!
SUPPORT. Setup loads (R195): sections handed one after another, and what each leaves at its owner.
-/
namespace Sys2Proof.Machine

/-! ### Sections handed in a row -/

/-- Section `x` handed to its owner in `t`, its words as the setup area of `v` gives them. -/
def State.handed (v : State) (start : Bool) (t : State) (x : SetupSection) : State := t.handSection start (v.sectionWords x) x

/-- Section `x` handed where it is named. -/
def State.handIf (v : State) (start : Bool) (has : SetupSection → Bool) (t : State) (x : SetupSection) : State :=
  if has x then v.handed start t x else t

/-- A clamped section's bit gathered. -/
def clampedBit (v : State) (w : Word) (x : SetupSection) : Word :=
  if sectionClamped v.part.header (v.sectionWords x) x then w ||| 1#32 <<< x.bit else w

/-- Loads read what the setup area gives as they begin: no section changes memory or the part's own block. -/
theorem State.loadSections_eq (v : State) (start : Bool) (secs : List SetupSection) :
    v.loadSections start secs = (secs.foldl (v.handed start) v, secs.foldl (clampedBit v) 0) := by
  have go : ∀ (secs : List SetupSection) (t : State) (w : Word), v.OnSetup t →
      secs.foldl (State.loadSection start) (t, w) = (secs.foldl (v.handed start) t, secs.foldl (clampedBit v) w) := by
    intro secs
    induction secs with
    | nil => exact fun t w _ => rfl
    | cons x secs ih =>
      intro t w same
      have words := State.sectionWords_congr same.memory same.part x
      have first : State.loadSection start (t, w) x = (v.handed start t x, clampedBit v w x) := by
        unfold State.loadSection State.handed clampedBit
        dsimp only
        rw [words, same.part]
      rw [List.foldl_cons, first]
      exact ih _ _ (same.trans (t.onSetup_handSection start _ x))
  exact go secs v 0 (State.OnSetup.refl v)

/-! ### What one section leaves (R7, R23, R28, R29, R102, R115, R155, R171, R172, R200, R205) -/

section
variable (v : State) (start : Bool) (has : SetupSection → Bool) (t : State)

theorem State.handed_servo : v.handed start t .servo =
    { t with servoLoaded := Vector.ofFn fun c => setupServo v c.val } :=
  congrArg (fun f => { t with servoLoaded := Vector.ofFn f }) (funext (takeServoClass_fst v))

theorem State.handed_strip : v.handed start t .strip =
    { t with strips := Vector.ofFn fun i => { t.strips[i] with staged := setupStrip v i.val } } :=
  congrArg (fun f : StripId → StripSettings => { t with strips := Vector.ofFn fun i => { t.strips[i] with staged := f i } })
    (funext (takeStripEntry_fst v))

theorem State.handed_scan : v.handed start t .scan =
    { t with scanner := { t.scanner with periodStaged := (setupScan v).1, prescaleStaged := (setupScan v).2 } } :=
  congrArg (fun p : Nat × Nat => { t with scanner := { t.scanner with periodStaged := p.1, prescaleStaged := p.2 } })
    (takeScan_fst v)

theorem State.handed_touch : v.handed start t .touch = { t with touchScan := { t.touchScan with staged := setupTouch v } } :=
  congrArg (fun p => { t with touchScan := { t.touchScan with staged := p } }) (takeTouch_fst v)

/-- The arbiter with a GRANT load adopted (R102). -/
theorem State.handed_grant (same : t.arbiter = v.arbiter) : v.handed start t .grant = t.grantDecision (grantTaken v) := by
  have loads : t.arbiter.load (takeGrant (v.sectionWords .grant)).1 = grantTaken v := by
    rw [takeGrant_fst, same]
    rfl
  exact congrArg t.grantDecision loads

theorem State.handed_drive : v.handed start t .drive = { t with motors := { t.motors with prescaleStaged := setupDrive v } } :=
  congrArg (fun p => { t with motors := { t.motors with prescaleStaged := p } }) (takeDrive_fst v)

theorem channelLoaded_eq (c : ChanId) : channelLoaded v c =
    v.meters.chans[c].load (setupChannel v c.val).1 (setupChannel v c.val).2 (setupProfile v (setupChannel v c.val).1.val) := by
  unfold channelLoaded Channel.load
  exact ite_congr (propext (by rw [Bool.and_eq_true, Bool.not_eq_true'])) (fun _ => rfl) fun _ => rfl

theorem State.handed_meter (same : t.meters = v.meters) : v.handed start t .meter = { t with meters := { v.meters with
    profiles := Vector.ofFn fun k => setupProfile v k.val
    chans := Vector.ofFn (channelLoaded v) } } := by
  have profiles : (fun k : Fin 4 => (takeBallistics (v.sectionWords .meter) k.val).1) = fun k => setupProfile v k.val :=
    funext (takeBallistics_fst v)
  have entries : (fun c : ChanId => (channelProfile (v.sectionWords .meter) c.val, channelEnable (v.sectionWords .meter) c.val)) =
    fun c => setupChannel v c.val := funext (channel_eq v)
  have loads : v.handed start t .meter = { t with
      meters := v.meters.load (Vector.ofFn fun k : Fin 4 => setupProfile v k.val) (fun c => setupChannel v c.val) } := by
    rw [← profiles, ← entries, ← same]
    rfl
  rw [loads]
  unfold Meters.load
  have chans : ∀ c : ChanId, v.meters.chans[c].load (setupChannel v c.val).1 (setupChannel v c.val).2
      (Vector.ofFn fun k : Fin 4 => setupProfile v k.val)[(setupChannel v c.val).1] = channelLoaded v c := fun c => by
    rw [channelLoaded_eq]
    simp
  rw [funext chans]

/-- The scale tables of the SCALE section (R172). -/
def setupScales : Vector Scale 2 := #v[(takeScale (v.sectionWords .scale) 0).1, (takeScale (v.sectionWords .scale) 1).1]

theorem setupScales_toList (n : Fin 2) : (setupScales v)[n].toList = setupScale v n.val := by
  have both : ∀ n : Fin 2, (setupScales v)[n] = (takeScale (v.sectionWords .scale) n.val).1 := Fin.forall_fin_two.mpr ⟨rfl, rfl⟩
  rw [both]
  exact takeScale_fst v n

theorem State.handed_scale : v.handed start t .scale = { t with bars := { t.bars with scalesStaged := some (setupScales v) } } :=
  rfl

theorem State.handed_bars : v.handed start t .bars = { t with bars := { t.bars with barsStaged := some (setupBars v) } } :=
  congrArg (fun p => { t with bars := { t.bars with barsStaged := some p } }) (takeBars_fst v)

theorem State.handed_report : v.handed start t .report = { t with
    reporter := { t.reporter with periodStaged := (setupReport v).1 }
    writer := { t.writer with holdStaged := (setupReport v).2.1 }
    sweep := { t.sweep with periodStaged := (setupReport v).2.2 } } :=
  congrArg t.stageReport (takeReport_fst v)

/-- An attention unit with the ATTN section taken (R205). -/
def Attention.taken (a : Attention) (v : State) (start : Bool) : Attention :=
  let cell := setupAttn v .cell
  let activity := setupAttn v .activity
  if start then (a.loadAtStart .cell cell.1 cell.2).loadAtStart .activity activity.1 activity.2
  else (a.load .cell cell.1 cell.2).load .activity activity.1 activity.2

theorem State.handed_attn : v.handed start t .attn = { t with attention := t.attention.taken v start } := by
  show t.loadAttn start _ = _
  rw [takeAttn_fst]
  cases start <;> rfl

theorem loadedField_eq (inForce loaded : Nat) : loadedField inForce loaded =
    (if inForce = 0 then loaded else inForce, if inForce = 0 then none else some loaded) := by
  unfold loadedField
  split <;> rfl

/-- One cause loaded outside START, as its fields decide (R205, log 23). -/
theorem Attention.load_eq (a : Attention) (w : Coalesced) (p : Nat × Nat) : a.load w p.1 p.2 =
    let y := attnLoaded (a.coalescing w) p
    { a.withCoalescing w y.1 with attn := a.attn ||| if y.2 then (causeOf w).mask else 0#8 } := by
  obtain ⟨threshold, hold⟩ := p
  have quiet : a.attn ||| 0#8 = a.attn := BitVec.or_zero
  unfold Attention.load attnLoaded
  dsimp only
  rw [loadedField_eq, loadedField_eq]
  dsimp only
  split
  · next met =>
    have held : ((if (a.coalescing w).hold = 0 then none else some hold).getD
        (if (a.coalescing w).hold = 0 then hold else (a.coalescing w).hold)) = hold := by split <;> rfl
    rw [if_pos met.1, if_pos met.1]
    unfold Attention.raise
    rw [Attention.coalescing_with]
    unfold Coalescing.settle
    dsimp only
    rw [held]
    cases w <;> rfl
  · split
    · dsimp only
      rw [if_neg Bool.false_ne_true, quiet]
      cases w <;> rfl
    · dsimp only
      rw [if_neg Bool.false_ne_true, quiet]
      cases w <;> rfl

theorem Attention.taken_eq : v.attention.taken v false = attnTaken v := by
  unfold Attention.taken
  rw [if_neg Bool.false_ne_true, Attention.load_eq, Attention.load_eq]
  rfl

end

/-! ### The links (R136, R145, R150, R152) -/

/-- The slot map of a link as the setup area gives it. -/
def setupMap (v : State) (k : LinkId) : Vector Slot 32 := Vector.ofFn fun i : Fin 32 => setupSlot v k.val i.val

/-- A receiver with its part of the LINK section taken. -/
def LinkRx.taken (l : LinkRx) (v : State) (start : Bool) (k : LinkId) : LinkRx := l.load start (setupLink v k.val) (setupMap v k)

theorem linkLoaded_eq (v : State) (k : LinkId) : linkLoaded v k = v.links[k].taken v false k := by
  unfold linkLoaded LinkRx.taken LinkRx.load setupMap
  dsimp only
  generalize v.links[k] = l
  generalize setupLink v k.val = y
  by_cases off : l.state = .off
  · cases y.enable <;> simp [off, LinkRx.enterAcquiring]
  · cases y.enable <;> simp [off, LinkRx.leave]

section
variable (l : LinkRx) (start : Bool) (settings : LinkSettings) (map : Vector Slot 32)

/-- A load neither locks a receiver nor loses one. -/
theorem LinkRx.load_quiet : linkNews l (l.load start settings map) = false := by
  unfold LinkRx.load
  cases settings.enable
  · by_cases off : l.state = .off
    · simp [linkNews, off]
    · simp [linkNews, off, LinkRx.leave]
  · by_cases off : l.state = .off
    · cases start <;> simp [linkNews, off, LinkRx.enterAcquiring]
    · cases state : l.state <;> simp_all [linkNews]

/-- A load has the feed conditions derived again where a LOCKED receiver leaves service. -/
theorem LinkRx.load_feedNews : feedNews l (l.load start settings map) = true ↔ l.state = .locked ∧ settings.enable = false := by
  unfold LinkRx.load
  cases settings.enable
  · by_cases off : l.state = .off
    · simp [feedNews, off]
    · simp [feedNews, off, LinkRx.leave, LinkState.off_beq]
  · by_cases off : l.state = .off
    · cases start <;> simp [feedNews, off, LinkRx.enterAcquiring, LinkState.off_beq, LinkState.acquiring_beq]
    · cases state : l.state <;> simp_all [feedNews]

/-- A receiver changed without news to the feed conditions feeds the channels it fed. -/
theorem LinkRx.feeds_of_keeps {l m : LinkRx} (keeps : feedNews l m = false) (c : ChanId) : m.feeds c = l.feeds c := by
  obtain ⟨locked, rest⟩ := Bool.or_eq_false_iff.mp keeps
  have same : (m.state == .locked) = (l.state == .locked) := (bne_eq_false_iff_eq.mp locked).symm
  unfold LinkRx.feeds
  rw [same]
  by_cases on : (l.state == .locked) = true
  · rw [same, on, Bool.true_and, Bool.or_eq_false_iff] at rest
    have map : l.map = m.map := by simpa using rest.1
    have slots : l.settings.slots = m.settings.slots := by simpa using rest.2
    unfold LinkRx.route
    rw [map, slots]
  · rw [Bool.not_eq_true] at on
    rw [on, Bool.false_and, Bool.false_and]

end

/-- Channels whose feed conditions are those of `t`'s links, and nothing else changed at the Meter Engine. -/
theorem feedDerived_of_fed {s t : State} (profiles : t.meters.profiles = s.meters.profiles) (decay : t.meters.decay = s.meters.decay)
    (chans : ∀ c : ChanId, t.meters.chans[c] = { s.meters.chans[c] with nofeed := !t.fed c }) : FeedDerived s t := by
  refine ⟨profiles, decay, fun c => ⟨by rw [chans c], ?_⟩⟩
  rw [chans c, ← State.fed_iff]
  exact (Bool.not_eq_false' _).to_iff

/-- The LINK section handed: both receivers load, the LINK cause is left alone, and the feed conditions are derived again where a
LOCKED receiver leaves service. -/
theorem State.handed_link (v : State) (start : Bool) (t : State) (part : t.part = v.part) : ∃ u, v.handed start t .link = u ∧
    u = { t with links := u.links, meters := u.meters } ∧ (∀ k : LinkId, u.links[k] = t.links[k].taken v start k) ∧
    ((∃ k : LinkId, t.links[k].state = .locked ∧ (setupLink v k.val).enable = false) → FeedDerived t u) ∧
    ((∀ k : LinkId, t.links[k].state = .locked → (setupLink v k.val).enable = true) → u.meters = t.meters) := by
  have one : ∀ (x : State) (k : LinkId), x.part = v.part →
      x.loadLink start (v.sectionWords .link) k = x.setLink k (x.links[k].taken v start k) := fun x k same => by
    unfold State.loadLink LinkRx.taken setupMap
    rw [takeLinkSettings_fst, same, takeSlotMap_fst]
  obtain ⟨a, sets₀, frame₀, derives₀, keeps₀⟩ := State.setLink_gives (s := t) (k := 0) (l := t.links[(0 : LinkId)].taken v start 0)
  obtain ⟨b, sets₁, frame₁, derives₁, keeps₁⟩ := State.setLink_gives (s := a) (k := 1) (l := a.links[(1 : LinkId)].taken v start 1)
  have links : b.links = (t.links.set (0 : LinkId) (t.links[(0 : LinkId)].taken v start 0)).set (1 : LinkId)
      (a.links[(1 : LinkId)].taken v start 1) := by
    rw [frame₁, frame₀]
  have old : a.links[(1 : LinkId)] = t.links[(1 : LinkId)] := by
    rw [frame₀]
    exact Vector.getElem_set_ne (by decide) (by decide) (by decide)
  have first : b.links[(0 : LinkId)] = t.links[(0 : LinkId)].taken v start 0 := by
    rw [links]
    exact (Vector.getElem_set_ne (by decide) (by decide) (by decide)).trans (Vector.getElem_set_self (by decide))
  have second : b.links[(1 : LinkId)] = t.links[(1 : LinkId)].taken v start 1 := by
    rw [links, old]
    exact Vector.getElem_set_self (by decide)
  have header : a.part = t.part := by rw [frame₀]
  refine ⟨b, ?_, ?_, Fin.forall_fin_two.mpr ⟨first, second⟩, fun leaves => ?_, fun stay => ?_⟩
  · show (t.loadLink start _ 0).loadLink start _ 1 = b
    rw [one t 0 part, sets₀, one a 1 (header.trans part), sets₁]
  · rw [LinkRx.taken, LinkRx.load_quiet, if_neg Bool.false_ne_true] at frame₀ frame₁
    obtain ⟨l₀, m₀, frame₀⟩ : ∃ l m, a = { t with links := l, meters := m } := ⟨_, _, frame₀⟩
    obtain ⟨l₁, m₁, frame₁⟩ : ∃ l m, b = { a with links := l, meters := m } := ⟨_, _, frame₁⟩
    rw [frame₁, frame₀]
  · have kept : a.meters.profiles = t.meters.profiles ∧ a.meters.decay = t.meters.decay ∧
        ∀ c : ChanId, ∃ fed, a.meters.chans[c] = { t.meters.chans[c] with nofeed := fed } := by
      by_cases news : feedNews t.links[(0 : LinkId)] (t.links[(0 : LinkId)].taken v start 0) = true
      · obtain ⟨⟨profiles, decay, -⟩, chans⟩ := derives₀ news
        exact ⟨profiles, decay, fun c => ⟨_, chans c⟩⟩
      · rw [keeps₀ (Bool.eq_false_iff.mpr news)]
        exact ⟨rfl, rfl, fun c => ⟨_, rfl⟩⟩
    obtain ⟨profiles, decay, chans⟩ := kept
    by_cases news : feedNews a.links[(1 : LinkId)] (a.links[(1 : LinkId)].taken v start 1) = true
    · obtain ⟨⟨profiles', decay', -⟩, derived⟩ := derives₁ news
      refine feedDerived_of_fed (profiles'.trans profiles) (decay'.trans decay) fun c => ?_
      obtain ⟨fed, chan⟩ := chans c
      rw [derived c, chan]
    · have quiet := Bool.eq_false_iff.mpr news
      have leaves₀ : t.links[(0 : LinkId)].state = .locked ∧ (setupLink v (0 : LinkId).val).enable = false := by
        rcases Fin.exists_fin_two.mp leaves with zero | one_
        · exact zero
        · exact absurd ((LinkRx.load_feedNews _ _ _ _).mpr (old ▸ one_)) news
      obtain ⟨-, derived⟩ := derives₀ ((LinkRx.load_feedNews _ _ _ _).mpr leaves₀)
      have fed : ∀ c, a.fed c = b.fed c := fun c => by
        have zero : b.links[(0 : LinkId)] = a.links[(0 : LinkId)] := by
          rw [first, frame₀]
          exact (Vector.getElem_set_self (by decide)).symm
        have one_ : b.links[(1 : LinkId)].feeds c = a.links[(1 : LinkId)].feeds c := by
          rw [second, ← old]
          exact LinkRx.feeds_of_keeps quiet c
        have same : b.part = a.part := by rw [frame₁]
        unfold State.fed
        rw [same]
        show (decide (c.val < a.part.header.channels) && (a.links[(0 : LinkId)].feeds c || a.links[(1 : LinkId)].feeds c)) =
          (decide (c.val < a.part.header.channels) && (b.links[(0 : LinkId)].feeds c || b.links[(1 : LinkId)].feeds c))
        rw [zero, one_]
      refine feedDerived_of_fed (by rw [keeps₁ quiet, profiles]) (by rw [keeps₁ quiet, decay]) fun c => ?_
      rw [← fed, ← derived c, keeps₁ quiet]
  · have quiet : ∀ (l : LinkRx) (k : LinkId), l.state = t.links[k].state → feedNews l (l.taken v start k) = false := by
      intro l k same
      refine Bool.eq_false_iff.mpr fun news => ?_
      obtain ⟨locked, leaves⟩ := (LinkRx.load_feedNews _ _ _ _).mp news
      rw [stay k (same ▸ locked)] at leaves
      cases leaves
    rw [keeps₁ (quiet _ 1 (congrArg (·.state) old)), keeps₀ (quiet _ 0 rfl)]

end Sys2Proof.Machine
end

section
/-!
SUPPORT. Setup loads of several sections (R195): what any choice of sections leaves at each owner.
-/
namespace Sys2Proof.Machine

/-! ### Sections handed where they are named -/

section
variable (v : State) (start : Bool) (has : SetupSection → Bool) (t : State)

theorem State.handIf_servo : v.handIf start has t .servo =
    { t with servoLoaded := if has .servo then Vector.ofFn fun c => setupServo v c.val else t.servoLoaded } := by
  rw [State.handIf, State.handed_servo]
  split <;> rfl

theorem State.handIf_strip : v.handIf start has t .strip = { t with
    strips := if has .strip then Vector.ofFn fun i => { t.strips[i] with staged := setupStrip v i.val } else t.strips } := by
  rw [State.handIf, State.handed_strip]
  split <;> rfl

theorem State.handIf_scan : v.handIf start has t .scan = { t with scanner := if has .scan then
    { t.scanner with periodStaged := (setupScan v).1, prescaleStaged := (setupScan v).2 } else t.scanner } := by
  rw [State.handIf, State.handed_scan]
  split <;> rfl

theorem State.handIf_touch : v.handIf start has t .touch =
    { t with touchScan := if has .touch then { t.touchScan with staged := setupTouch v } else t.touchScan } := by
  rw [State.handIf, State.handed_touch]
  split <;> rfl

theorem State.handIf_grant (same : t.arbiter = v.arbiter) : ∃ b l, v.handIf start has t .grant =
    { t with arbiter := b, inFlight := t.inFlight ++ l.map .grant } ∧
      if has .grant then Decided (grantTaken v) b l else b = v.arbiter ∧ l = [] := by
  rw [State.handIf, State.handed_grant v start t same]
  split
  · obtain ⟨b, l, decided, decision⟩ := t.grantDecision_decided (grantTaken v)
    exact ⟨b, l, decision, decided⟩
  · refine ⟨v.arbiter, [], ?_, rfl, rfl⟩
    rw [← same, List.map_nil, List.append_nil]

theorem State.handIf_drive : v.handIf start has t .drive =
    { t with motors := if has .drive then { t.motors with prescaleStaged := setupDrive v } else t.motors } := by
  rw [State.handIf, State.handed_drive]
  split <;> rfl

/-- The Meter Engine with the METER section taken where it is named. -/
def metersTaken : Meters := if has .meter then { v.meters with
    profiles := Vector.ofFn fun k => setupProfile v k.val
    chans := Vector.ofFn (channelLoaded v) } else v.meters

theorem State.handIf_meter (same : t.meters = v.meters) : v.handIf start has t .meter = { t with meters := metersTaken v has } := by
  rw [State.handIf, State.handed_meter v start t same, metersTaken]
  split
  · rfl
  · rw [← same]

theorem State.handIf_scale : v.handIf start has t .scale =
    { t with bars := if has .scale then { t.bars with scalesStaged := some (setupScales v) } else t.bars } := by
  rw [State.handIf, State.handed_scale]
  split <;> rfl

theorem State.handIf_bars : v.handIf start has t .bars =
    { t with bars := if has .bars then { t.bars with barsStaged := some (setupBars v) } else t.bars } := by
  rw [State.handIf, State.handed_bars]
  split <;> rfl

/-- Whether a LOCKED link leaves service at a load. -/
def leavesFed : Prop := has .link = true ∧ ∃ k : LinkId, v.links[k].state = .locked ∧ (setupLink v k.val).enable = false

theorem State.handIf_link (part : t.part = v.part) (same : t.links = v.links) : ∃ u, v.handIf start has t .link = u ∧
    u = { t with links := u.links, meters := u.meters } ∧
    (∀ k : LinkId, u.links[k] = if has .link then v.links[k].taken v start k else v.links[k]) ∧
    (leavesFed v has → FeedDerived t u) ∧ (¬ leavesFed v has → u.meters = t.meters) := by
  rw [State.handIf]
  cases named : has .link with
  | true =>
    obtain ⟨u, hands, frame, links, derives, keeps⟩ := v.handed_link start t part
    rw [same] at derives keeps
    refine ⟨u, hands, frame, fun k => ?_, fun leaves => derives leaves.2, fun stays => keeps fun k locked => ?_⟩
    · rw [links k, same]
      rfl
    · refine Bool.of_not_eq_false fun leaves => stays ⟨named, k, locked, leaves⟩
  | false =>
    refine ⟨t, rfl, rfl, fun k => ?_, fun leaves => ?_, fun _ => rfl⟩
    · rw [same]
      rfl
    · rw [leavesFed, named] at leaves
      exact absurd leaves.1 Bool.false_ne_true

theorem State.handIf_attn : v.handIf start has t .attn =
    { t with attention := if has .attn then t.attention.taken v start else t.attention } := by
  rw [State.handIf, State.handed_attn]
  split <;> rfl

theorem State.handIf_report : v.handIf start has t .report = { t with
    reporter := if has .report then { t.reporter with periodStaged := (setupReport v).1 } else t.reporter
    writer := if has .report then { t.writer with holdStaged := (setupReport v).2.1 } else t.writer
    sweep := if has .report then { t.sweep with periodStaged := (setupReport v).2.2 } else t.sweep } := by
  rw [State.handIf, State.handed_report]
  split <;> rfl

theorem FeedDerived.of_same {a b c d : State} (derived : FeedDerived a b) (before : c.meters = a.meters) (after : d.meters = b.meters)
    (links : d.links = b.links) (part : d.part = b.part) : FeedDerived c d := by
  unfold FeedDerived fedNow at derived ⊢
  rw [before, after, links, part]
  exact derived

/-- `t` is what the sections named leave of `v`, owner by owner. -/
structure Loaded : Prop where
  frame : v.OnSetup t
  servo : t.servoLoaded = if has .servo then Vector.ofFn fun c => setupServo v c.val else v.servoLoaded
  strips : t.strips =
    if has .strip then Vector.ofFn fun i => { v.strips[i] with staged := setupStrip v i.val } else v.strips
  scanner : t.scanner =
    if has .scan then { v.scanner with periodStaged := (setupScan v).1, prescaleStaged := (setupScan v).2 } else v.scanner
  touchScan : t.touchScan = if has .touch then { v.touchScan with staged := setupTouch v } else v.touchScan
  grant : ∃ l, t.inFlight = v.inFlight ++ l.map .grant ∧
    if has .grant then Decided (grantTaken v) t.arbiter l else t.arbiter = v.arbiter ∧ l = []
  motors : t.motors = if has .drive then { v.motors with prescaleStaged := setupDrive v } else v.motors
  bars : t.bars = { v.bars with
    scalesStaged := if has .scale then some (setupScales v) else v.bars.scalesStaged
    barsStaged := if has .bars then some (setupBars v) else v.bars.barsStaged }
  links : ∀ k : LinkId, t.links[k] = if has .link then v.links[k].taken v start k else v.links[k]
  fed : leavesFed v has → FeedDerived { v with meters := metersTaken v has } t
  meters : ¬ leavesFed v has → t.meters = metersTaken v has
  attention : t.attention = if has .attn then v.attention.taken v start else v.attention
  reporter : t.reporter = if has .report then { v.reporter with periodStaged := (setupReport v).1 } else v.reporter
  writer : t.writer = if has .report then { v.writer with holdStaged := (setupReport v).2.1 } else v.writer
  sweep : t.sweep = if has .report then { v.sweep with periodStaged := (setupReport v).2.2 } else v.sweep

end

theorem State.loaded (v : State) (start : Bool) (has : SetupSection → Bool) :
    Loaded v start has (v.loadSections start (SetupSection.all.filter has)).1 := by
  have frame := v.onSetup_loadSections start (SetupSection.all.filter has)
  have whole : (v.loadSections start (SetupSection.all.filter has)).1 = SetupSection.all.foldl (v.handIf start has) v := by
    rw [v.loadSections_eq]
    exact List.foldl_filter
  rw [whole] at frame ⊢
  obtain ⟨t₁, e₁⟩ : ∃ t, v.handIf start has v .servo = t := ⟨_, rfl⟩
  obtain ⟨t₂, e₂⟩ : ∃ t, v.handIf start has t₁ .strip = t := ⟨_, rfl⟩
  obtain ⟨t₃, e₃⟩ : ∃ t, v.handIf start has t₂ .scan = t := ⟨_, rfl⟩
  obtain ⟨t₄, e₄⟩ : ∃ t, v.handIf start has t₃ .touch = t := ⟨_, rfl⟩
  obtain ⟨t₅, e₅⟩ : ∃ t, v.handIf start has t₄ .grant = t := ⟨_, rfl⟩
  obtain ⟨t₆, e₆⟩ : ∃ t, v.handIf start has t₅ .drive = t := ⟨_, rfl⟩
  obtain ⟨t₇, e₇⟩ : ∃ t, v.handIf start has t₆ .meter = t := ⟨_, rfl⟩
  obtain ⟨t₈, e₈⟩ : ∃ t, v.handIf start has t₇ .scale = t := ⟨_, rfl⟩
  obtain ⟨t₉, e₉⟩ : ∃ t, v.handIf start has t₈ .bars = t := ⟨_, rfl⟩
  obtain ⟨u, e₁₀⟩ : ∃ t, v.handIf start has t₉ .link = t := ⟨_, rfl⟩
  obtain ⟨t₁₁, e₁₁⟩ : ∃ t, v.handIf start has u .attn = t := ⟨_, rfl⟩
  obtain ⟨t, e₁₂⟩ : ∃ t, v.handIf start has t₁₁ .report = t := ⟨_, rfl⟩
  have ends : SetupSection.all.foldl (v.handIf start has) v = t := by
    simp only [SetupSection.all, List.foldl_cons, List.foldl_nil, e₁, e₂, e₃, e₄, e₅, e₆, e₇, e₈, e₉, e₁₀, e₁₁, e₁₂]
  rw [ends] at frame ⊢
  rw [State.handIf_servo] at e₁
  rw [State.handIf_strip] at e₂
  rw [State.handIf_scan] at e₃
  rw [State.handIf_touch] at e₄
  have arbiter₄ : t₄.arbiter = v.arbiter := by simp only [← e₄, ← e₃, ← e₂, ← e₁]
  obtain ⟨b, l, granted, decided⟩ := State.handIf_grant v start has t₄ arbiter₄
  replace e₅ := granted.symm.trans e₅
  rw [State.handIf_drive] at e₆
  have meters₆ : t₆.meters = v.meters := by simp only [← e₆, ← e₅, ← e₄, ← e₃, ← e₂, ← e₁]
  rw [State.handIf_meter v start has t₆ meters₆] at e₇
  rw [State.handIf_scale] at e₈
  rw [State.handIf_bars] at e₉
  have link₉ : t₉.part = v.part ∧ t₉.links = v.links ∧ t₉.meters = metersTaken v has := by
    simp only [← e₉, ← e₈, ← e₇, ← e₆, ← e₅, ← e₄, ← e₃, ← e₂, ← e₁, and_self]
  obtain ⟨part₉, links₉, meters₉⟩ := link₉
  obtain ⟨u', hands, linked, links, derives, keeps⟩ := State.handIf_link v start has t₉ part₉ links₉
  obtain rfl : u' = u := hands.symm.trans e₁₀
  rw [State.handIf_attn] at e₁₁
  rw [State.handIf_report] at e₁₂
  obtain ⟨ls, ms, e₁₀⟩ : ∃ ls ms, { t₉ with links := ls, meters := ms } = u' := ⟨_, _, linked.symm⟩
  have last : t.links = u'.links ∧ t.meters = u'.meters ∧ t.part = u'.part := by
    simp only [← e₁₂, ← e₁₁, and_self]
  obtain ⟨links', meters', part'⟩ := last
  have owners : t.servoLoaded = (if has .servo then Vector.ofFn fun c => setupServo v c.val else v.servoLoaded) ∧
      t.strips = (if has .strip then Vector.ofFn fun i => { v.strips[i] with staged := setupStrip v i.val } else v.strips) ∧
      t.scanner = (if has .scan then { v.scanner with periodStaged := (setupScan v).1, prescaleStaged := (setupScan v).2 }
        else v.scanner) ∧
      t.touchScan = (if has .touch then { v.touchScan with staged := setupTouch v } else v.touchScan) ∧
      t.motors = (if has .drive then { v.motors with prescaleStaged := setupDrive v } else v.motors) ∧
      t.bars = (if has .bars then { (if has .scale then { v.bars with scalesStaged := some (setupScales v) } else v.bars) with
          barsStaged := some (setupBars v) }
        else if has .scale then { v.bars with scalesStaged := some (setupScales v) } else v.bars) ∧
      t.attention = (if has .attn then v.attention.taken v start else v.attention) ∧
      t.arbiter = b ∧ t.inFlight = v.inFlight ++ l.map .grant := by
    simp only [← e₁₂, ← e₁₁, ← e₁₀, ← e₉, ← e₈, ← e₇, ← e₆, ← e₅, ← e₄, ← e₃, ← e₂, ← e₁, and_self]
  have reports : t.reporter = (if has .report then { v.reporter with periodStaged := (setupReport v).1 } else v.reporter) ∧
      t.writer = (if has .report then { v.writer with holdStaged := (setupReport v).2.1 } else v.writer) ∧
      t.sweep = (if has .report then { v.sweep with periodStaged := (setupReport v).2.2 } else v.sweep) := by
    simp only [← e₁₂, ← e₁₁, ← e₁₀, ← e₉, ← e₈, ← e₇, ← e₆, ← e₅, ← e₄, ← e₃, ← e₂, ← e₁, and_self]
  obtain ⟨servo, strips, scanner, touchScan, motors, bars, attention, arbiter, inFlight⟩ := owners
  obtain ⟨reporter, writer, sweep⟩ := reports
  refine { frame, servo, strips, scanner, touchScan, grant := ⟨l, inFlight, ?_⟩, motors, bars := ?_, links := fun k => ?_
           fed := fun leaves => ?_, meters := fun stays => ?_, attention, reporter, writer, sweep }
  · rw [arbiter]
    exact decided
  · rw [bars]
    cases has .scale <;> cases has .bars <;> rfl
  · rw [← links k]
    exact congrArg (·[k]) links'
  · exact (derives leaves).of_same meters₉.symm meters' links' part'
  · rw [meters', keeps stays, meters₉]

end Sys2Proof.Machine
end

section
/-!
SUPPORT. What setup loads leave, section by section: the values as the setup area gives them where a section was handed, and the old
ones where it was not; and what later steps of the part keep of them.
-/
namespace Sys2Proof.Machine

/-! ### What keeps the setup values -/

/-- The threshold and the hold time of a cause once its staged values are adopted (R205). -/
def Coalescing.due (co : Coalescing) : Nat × Nat := (co.thresholdStaged.getD co.threshold, co.holdStaged.getD co.hold)

/-- Whether a cause has nothing staged. -/
def Coalescing.Plain (co : Coalescing) : Prop := co.thresholdStaged = none ∧ co.holdStaged = none

/-- Every owner holds in `u` the setup values it holds in `t`, a staged one perhaps adopted. -/
structure SameSetup (t u : State) : Prop where
  servo : u.servoLoaded = t.servoLoaded
  strip : ∀ i : StripId, (u.strip i).staged = (t.strip i).staged
  scan : (u.scanner.periodStaged, u.scanner.prescaleStaged) = (t.scanner.periodStaged, t.scanner.prescaleStaged)
  touch : u.touchScan.staged = t.touchScan.staged
  grant : (u.arbiter.full, u.arbiter.pendingFull, u.arbiter.low, u.arbiter.floor) =
    (t.arbiter.full, t.arbiter.pendingFull, t.arbiter.low, t.arbiter.floor)
  drive : u.motors.prescaleStaged = t.motors.prescaleStaged
  profiles : u.meters.profiles = t.meters.profiles
  chans : ∀ c : ChanId, (u.meters.chans[c].profile, u.meters.chans[c].enable) =
    (t.meters.chans[c].profile, t.meters.chans[c].enable)
  scale : u.bars.scalesStaged.getD u.bars.scales = t.bars.scalesStaged.getD t.bars.scales
  bars : u.bars.barsStaged.getD u.bars.force = t.bars.barsStaged.getD t.bars.force
  link : ∀ k : LinkId, u.links[k].settings = t.links[k].settings ∧ u.links[k].map = t.links[k].map
  attn : ∀ w : Coalesced, (u.attention.coalescing w).due = (t.attention.coalescing w).due
  plain : ∀ w : Coalesced, (t.attention.coalescing w).Plain → (u.attention.coalescing w).Plain
  report : (u.reporter.periodStaged, u.writer.holdStaged, u.sweep.periodStaged) =
    (t.reporter.periodStaged, t.writer.holdStaged, t.sweep.periodStaged)

theorem SameSetup.trans {s t u : State} (h : SameSetup s t) (k : SameSetup t u) : SameSetup s u where
  servo := k.servo.trans h.servo
  strip i := (k.strip i).trans (h.strip i)
  scan := k.scan.trans h.scan
  touch := k.touch.trans h.touch
  grant := k.grant.trans h.grant
  drive := k.drive.trans h.drive
  profiles := k.profiles.trans h.profiles
  chans c := (k.chans c).trans (h.chans c)
  scale := k.scale.trans h.scale
  bars := k.bars.trans h.bars
  link i := ⟨(k.link i).1.trans (h.link i).1, (k.link i).2.trans (h.link i).2⟩
  attn w := (k.attn w).trans (h.attn w)
  plain w p := k.plain w (h.plain w p)
  report := k.report.trans h.report

/-- A section not handed in `t` is not handed in a state that keeps its setup values. -/
theorem SameSetup.kept {v t u : State} {x : SetupSection} (h : SameSetup t u) (kept : SectionKept v t x) : SectionKept v u x := by
  cases x with
  | servo => exact h.servo.trans kept
  | strip => exact fun i => (h.strip i).trans (kept i)
  | scan => exact h.scan.trans kept
  | touch => exact h.touch.trans kept
  | grant => exact h.grant.trans kept
  | drive => exact h.drive.trans kept
  | meter => exact ⟨h.profiles.trans kept.1, fun c => (h.chans c).trans (kept.2 c)⟩
  | scale => exact h.scale.trans kept
  | bars => exact h.bars.trans kept
  | link => exact fun k => ⟨(h.link k).1.trans (kept k).1, (h.link k).2.trans (kept k).2⟩
  | attn => exact fun w => (h.attn w).trans (kept w)
  | report => exact h.report.trans kept

/-- A cause whose values are those of the setup area, with nothing staged. -/
theorem attn_stands_iff {v t : State} : SectionStands v t .attn ↔
    ∀ w : Coalesced, (t.attention.coalescing w).due = setupAttn v w ∧ (t.attention.coalescing w).Plain := by
  refine forall_congr' fun w => ?_
  constructor
  · rintro ⟨values, threshold, hold⟩
    refine ⟨?_, threshold, hold⟩
    rw [Coalescing.due, threshold, hold]
    exact values
  · rintro ⟨values, threshold, hold⟩
    rw [Coalescing.due, threshold, hold] at values
    exact ⟨values, threshold, hold⟩

/-- A section handed in `t` stands in a state that keeps its setup values. -/
theorem SameSetup.stands {v t u : State} {x : SetupSection} (h : SameSetup t u) (stands : SectionStands v t x) :
    SectionStands v u x := by
  cases x with
  | servo => exact fun c => (congrArg (·[c]) h.servo).trans (stands c)
  | strip => exact fun i => (h.strip i).trans (stands i)
  | scan => exact h.scan.trans stands
  | touch => exact h.touch.trans stands
  | grant =>
    obtain ⟨full, pending, low, floor⟩ : u.arbiter.full = t.arbiter.full ∧ u.arbiter.pendingFull = t.arbiter.pendingFull ∧
      u.arbiter.low = t.arbiter.low ∧ u.arbiter.floor = t.arbiter.floor := by simpa using h.grant
    refine ⟨?_, fun none_ => ?_⟩
    · rw [low, floor]
      exact stands.1
    · rw [full, pending]
      exact stands.2 none_
  | drive => exact h.drive.trans stands
  | meter => exact ⟨fun k => (congrArg (·[k]) h.profiles).trans (stands.1 k), fun c => (h.chans c).trans (stands.2 c)⟩
  | scale =>
    intro n
    rw [h.scale]
    exact stands n
  | bars => exact h.bars.trans stands
  | link =>
    intro k off
    obtain ⟨settings, map⟩ := stands k off
    refine ⟨(h.link k).1.trans settings, fun i => ?_⟩
    rw [(h.link k).2]
    exact map i
  | attn =>
    exact attn_stands_iff.mpr fun w => ⟨(h.attn w).trans (attn_stands_iff.mp stands w).1, h.plain w (attn_stands_iff.mp stands w).2⟩
  | report => exact h.report.trans stands

/-! ### Entry to FAULTED keeps them (R187, R205) -/

theorem Coalescing.due_settle (co : Coalescing) : co.settle.due = co.due ∧ co.settle.Plain := ⟨rfl, rfl, rfl⟩

theorem Attention.flush_coalescing (a : Attention) (w : Coalesced) :
    (a.flush w).coalescing w = (a.coalescing w).settle ∧ ∀ x, x ≠ w → (a.flush w).coalescing x = a.coalescing x := by
  unfold Attention.flush
  split
  · cases w <;> refine ⟨rfl, fun x other => ?_⟩ <;> cases x <;> first | rfl | exact absurd rfl other
  · cases w <;> refine ⟨rfl, fun x other => ?_⟩ <;> cases x <;> first | rfl | exact absurd rfl other

theorem Attention.flushBoth_coalescing (a : Attention) (w : Coalesced) : a.flushBoth.coalescing w = (a.coalescing w).settle := by
  have first := a.flush_coalescing .cell
  have second := (a.flush .cell).flush_coalescing .activity
  unfold Attention.flushBoth
  cases w with
  | cell => rw [second.2 .cell nofun, first.1]
  | activity => rw [second.1, first.2 .activity nofun]

theorem Strip.discard_staged (x : Strip) : x.discard.staged = x.staged := by
  unfold Strip.discard Strip.rest
  split <;> rfl

theorem State.sameSetup_accessFault (t : State) (o : Word) :
    SameSetup t (t.accessFault o) ∧ ∀ w, ((t.accessFault o).attention.coalescing w).Plain := by
  have coalescing : ∀ w, (t.accessFault o).attention.coalescing w = (t.attention.coalescing w).settle := fun w => by
    rw [← Attention.flushBoth_coalescing]
    cases w <;> rfl
  obtain ⟨frame, motors, -, links, meters, chans, -, -, -⟩ := t.faultEntered .bus (t.part.base + o)
  have settled : ∀ w, ((t.accessFault o).attention.coalescing w).Plain := fun w => coalescing w ▸ (Coalescing.due_settle _).2
  refine ⟨?_, settled⟩
  exact {
    servo := rfl
    strip := fun i => by
      have discards : (t.accessFault o).strip i = (t.strip i).discard := Vector.getElem_map ..
      rw [discards, Strip.discard_staged]
    scan := rfl, touch := rfl, grant := rfl, drive := rfl
    profiles := congrArg (·.profiles) meters
    chans := fun c => by
      have unfed : (t.accessFault o).meters.chans[c] = { t.meters.chans[c] with nofeed := true } := chans c
      rw [unfed]
    scale := rfl, bars := rfl
    link := fun k => ⟨congrArg (·.settings) (links k), congrArg (·.map) (links k)⟩
    attn := fun w => coalescing w ▸ (Coalescing.due_settle _).1
    plain := fun w _ => settled w
    report := rfl }

/-! ### What loads leave, section by section -/

section
variable {v t : State} {start : Bool} {has : SetupSection → Bool}

theorem attnLoaded_due (co : Coalescing) (p : Nat × Nat) : (attnLoaded co p).1.due = p := by
  have field : ∀ inForce loaded : Nat, ((if inForce = 0 then none else some loaded).getD (if inForce = 0 then loaded else inForce)) =
      loaded := fun inForce loaded => by split <;> rfl
  unfold attnLoaded
  dsimp only
  split
  · rfl
  · split
    · exact Prod.ext (field _ _) (field _ _)
    · exact Prod.ext (field _ _) (field _ _)

/-- The ATTN section taken leaves each cause with the values of the setup area, in force or staged. -/
theorem Attention.taken_due (a : Attention) (v : State) (start : Bool) (w : Coalesced) :
    ((a.taken v start).coalescing w).due = setupAttn v w ∧ (start = true → ((a.taken v start).coalescing w).Plain) := by
  unfold Attention.taken
  cases start with
  | true => cases w <;> exact ⟨rfl, fun _ => ⟨rfl, rfl⟩⟩
  | false =>
    refine ⟨?_, nofun⟩
    rw [if_neg Bool.false_ne_true, Attention.load_eq, Attention.load_eq]
    cases w
    · exact attnLoaded_due _ (setupAttn v .cell)
    · exact attnLoaded_due _ (setupAttn v .activity)

theorem Loaded.attn_due (loaded : Loaded v start has t) (named : has .attn = true) (w : Coalesced) :
    (t.attention.coalescing w).due = setupAttn v w := by
  rw [loaded.attention, if_pos named]
  exact (v.attention.taken_due v start w).1

theorem metersTaken_chan (c : ChanId) :
    (metersTaken v has).chans[c] = if has .meter then channelLoaded v c else v.meters.chans[c] := by
  unfold metersTaken
  split
  · exact Vector.getElem_ofFn c.isLt
  · rfl

theorem channelLoaded_setup (c : ChanId) : ((channelLoaded v c).profile, (channelLoaded v c).enable) = setupChannel v c.val := by
  unfold channelLoaded
  dsimp only
  split
  · next loses => exact Prod.ext rfl loses.2.symm
  · rfl

/-- The Meter Engine after loads: the values taken, up to the feed conditions. -/
theorem Loaded.meters_frame (loaded : Loaded v start has t) : t.meters.profiles = (metersTaken v has).profiles ∧
    t.meters.decay = (metersTaken v has).decay ∧
    ∀ c : ChanId, t.meters.chans[c] = { (metersTaken v has).chans[c] with nofeed := t.meters.chans[c].nofeed } := by
  by_cases leaves : leavesFed v has
  · obtain ⟨profiles, decay, chans⟩ := loaded.fed leaves
    exact ⟨profiles, decay, fun c => (chans c).1⟩
  · rw [loaded.meters leaves]
    exact ⟨rfl, rfl, fun c => rfl⟩

theorem Loaded.chan_setup (loaded : Loaded v start has t) (c : ChanId) : (t.meters.chans[c].profile, t.meters.chans[c].enable) =
    if has .meter then setupChannel v c.val else (v.meters.chans[c].profile, v.meters.chans[c].enable) := by
  have chan := loaded.meters_frame.2.2 c
  have same : (t.meters.chans[c].profile, t.meters.chans[c].enable) =
      ((metersTaken v has).chans[c].profile, (metersTaken v has).chans[c].enable) := by
    rw [chan]
  rw [same, metersTaken_chan]
  split
  · exact channelLoaded_setup c
  · rfl

theorem grantTaken_values : ((grantTaken v).low, (grantTaken v).floor) = (setupGrant v).2 ∧
    (v.arbiter.grantSet = [] → (grantTaken v).full = (setupGrant v).1 ∧ (grantTaken v).pendingFull = none) := by
  unfold grantTaken
  dsimp only
  split
  · exact ⟨rfl, fun _ => ⟨rfl, rfl⟩⟩
  · next many => exact ⟨rfl, fun empty => absurd (by rw [empty]; exact Nat.zero_le _) many⟩

/-- An OFF receiver takes its settings and its map at once. -/
theorem LinkRx.load_of_off {l : LinkRx} (start : Bool) (settings : LinkSettings) (map : Vector Slot 32) (off : l.state = .off) :
    (l.load start settings map).settings = settings ∧ (l.load start settings map).map = map := by
  unfold LinkRx.load
  dsimp only
  rw [if_pos off, if_pos off]
  cases settings.enable <;> cases start <;> exact ⟨rfl, rfl⟩

/-- A section named stands, the ATTN section where nothing is left staged. -/
theorem Loaded.stands (loaded : Loaded v start has t) {x : SetupSection} (named : has x = true) (attn : x = .attn → start = true) :
    SectionStands v t x := by
  cases x with
  | servo =>
    intro c
    rw [loaded.servo, if_pos named]
    simp
  | strip =>
    intro i
    show (t.strips[i]).staged = _
    rw [loaded.strips, if_pos named]
    simp
  | scan =>
    show (t.scanner.periodStaged, _) = _
    rw [loaded.scanner, if_pos named]
  | touch =>
    show t.touchScan.staged = _
    rw [loaded.touchScan, if_pos named]
  | grant =>
    obtain ⟨l, -, decided⟩ := loaded.grant
    rw [if_pos named] at decided
    obtain ⟨frame, -⟩ := decided
    refine ⟨?_, fun empty => ?_⟩
    · rw [frame]
      exact (grantTaken_values (v := v)).1
    · rw [frame]
      exact (grantTaken_values (v := v)).2 empty
  | drive =>
    show t.motors.prescaleStaged = _
    rw [loaded.motors, if_pos named]
  | meter =>
    refine ⟨fun k => ?_, fun c => ?_⟩
    · rw [loaded.meters_frame.1, metersTaken, if_pos named]
      simp
    · rw [loaded.chan_setup, if_pos named]
  | scale =>
    intro n
    rw [loaded.bars, if_pos named]
    exact setupScales_toList v n
  | bars =>
    show t.bars.barsStaged.getD _ = _
    rw [loaded.bars, if_pos named]
    rfl
  | link =>
    intro k off
    have taken : t.links[k].settings = setupLink v k.val ∧ t.links[k].map = setupMap v k := by
      rw [loaded.links, if_pos named]
      exact LinkRx.load_of_off start _ _ off
    refine ⟨taken.1, fun i => ?_⟩
    rw [taken.2]
    simp [setupMap]
  | attn =>
    refine attn_stands_iff.mpr fun w => ⟨loaded.attn_due named w, ?_⟩
    rw [loaded.attention, if_pos named]
    exact (v.attention.taken_due v start w).2 (attn rfl)
  | report =>
    show (t.reporter.periodStaged, t.writer.holdStaged, t.sweep.periodStaged) = _
    rw [loaded.reporter, loaded.writer, loaded.sweep, if_pos named, if_pos named, if_pos named]

/-- A section not named is as it was. -/
theorem Loaded.kept (loaded : Loaded v start has t) {x : SetupSection} (unnamed : has x = false) : SectionKept v t x := by
  have no : ¬ has x = true := ne_true_of_eq_false unnamed
  cases x with
  | servo => exact loaded.servo.trans (if_neg no)
  | strip =>
    intro i
    show (t.strips[i]).staged = _
    rw [loaded.strips, if_neg no]
    rfl
  | scan =>
    show (t.scanner.periodStaged, _) = _
    rw [loaded.scanner, if_neg no]
  | touch =>
    show t.touchScan.staged = _
    rw [loaded.touchScan, if_neg no]
  | grant =>
    obtain ⟨l, -, same⟩ := loaded.grant
    rw [if_neg no] at same
    show (t.arbiter.full, _) = _
    rw [same.1]
  | drive =>
    show t.motors.prescaleStaged = _
    rw [loaded.motors, if_neg no]
  | meter =>
    refine ⟨?_, fun c => ?_⟩
    · rw [loaded.meters_frame.1, metersTaken, if_neg no]
    · rw [loaded.chan_setup, if_neg no]
  | scale =>
    show t.bars.scalesStaged.getD _ = _
    rw [loaded.bars, if_neg no]
  | bars =>
    show t.bars.barsStaged.getD _ = _
    rw [loaded.bars, if_neg no]
  | link =>
    intro k
    rw [loaded.links, if_neg no]
    exact ⟨rfl, rfl⟩
  | attn =>
    intro w
    rw [loaded.attention, if_neg no]
  | report =>
    show (t.reporter.periodStaged, t.writer.holdStaged, t.sweep.periodStaged) = _
    rw [loaded.reporter, loaded.writer, loaded.sweep, if_neg no, if_neg no, if_neg no]

end

end Sys2Proof.Machine
end

section
/-!
SUPPORT. SETUP_LOAD (R195): the sections a mask names, each alone and in any choice, and a load cut by a fault.
-/
namespace Sys2Proof.Machine

/-! ### The sections a mask names -/

theorem SetupSection.bit_lt (x : SetupSection) : x.bit < 12 := by cases x <;> decide

theorem SetupSection.mem_all (x : SetupSection) : x ∈ SetupSection.all := by cases x <;> decide

theorem SetupSection.bit_inj {x y : SetupSection} (same : x.bit = y.bit) : x = y := by
  cases x <;> cases y <;> first | rfl | exact absurd same (by decide)

theorem mask_bit (mask : Word) (x : SetupSection) : (mask &&& 0xFFF#32).getLsbD x.bit = mask.getLsbD x.bit := by
  have low : (0xFFF#32).getLsbD x.bit = true := by cases x <;> decide
  rw [BitVec.getLsbD_and, low, Bool.and_true]

theorem maskedSections_of_one {mask : Word} {x : SetupSection} (one : mask &&& 0xFFF#32 = 1#32 <<< x.bit) :
    maskedSections mask = [x] := by
  have bits : ∀ y : SetupSection, mask.getLsbD y.bit = (1#32 <<< x.bit).getLsbD y.bit := fun y => by rw [← mask_bit, one]
  unfold maskedSections
  simp only [bits]
  cases x <;> decide

theorem maskedSections_eq_nil {mask : Word} : maskedSections mask = [] ↔ mask &&& 0xFFF#32 = 0 := by
  unfold maskedSections
  rw [List.filter_eq_nil_iff]
  constructor
  · intro none_
    refine BitVec.eq_of_getLsbD_eq fun i small => ?_
    show _ = (0#32).getLsbD i
    rw [BitVec.getLsbD_zero]
    by_cases low : i < 12
    · have named : ∀ i : Fin 12, (SetupSection.all[i.val]'i.isLt).bit = i.val := by decide
      obtain ⟨x, rfl⟩ : ∃ x : SetupSection, x.bit = i := ⟨_, named ⟨i, low⟩⟩
      rw [mask_bit]
      exact Bool.eq_false_iff.mpr (none_ x x.mem_all)
    · have high : (0xFFF#32).getLsbD i = false :=
        Nat.testBit_lt_two_pow (Nat.lt_of_lt_of_le (by decide) (Nat.pow_le_pow_right (by decide) (Nat.not_lt.mp low)))
      rw [BitVec.getLsbD_and, high, Bool.and_false]
  · intro zero x _
    rw [← mask_bit, zero]
    simp

theorem sectionBit_getLsbD (x y : SetupSection) : (1#32 <<< y.bit).getLsbD x.bit = decide (x = y) := by
  have bound : y.bit < 32 := Nat.lt_trans y.bit_lt (by decide)
  rw [show 1#32 <<< y.bit = BitVec.twoPow 32 y.bit from rfl, BitVec.getLsbD_twoPow]
  by_cases same : x = y
  · simp [same, bound]
  · simpa [same] using fun _ bits => same (SetupSection.bit_inj bits.symm)

/-- The bits gathered are those of the sections with a value taken into its range. -/
theorem clampedBit_fold (v : State) (secs : List SetupSection) (w : Word) (x : SetupSection) :
    (secs.foldl (clampedBit v) w).getLsbD x.bit = true ↔ w.getLsbD x.bit = true ∨ (x ∈ secs ∧ ¬ SectionClean v x) := by
  induction secs generalizing w with
  | nil => simp
  | cons y secs ih =>
    have one : (clampedBit v w y).getLsbD x.bit = true ↔ w.getLsbD x.bit = true ∨ (x = y ∧ ¬ SectionClean v x) := by
      have clean := sectionClamped_eq_false v y
      unfold clampedBit
      split
      · next clamped =>
        rw [BitVec.getLsbD_or, sectionBit_getLsbD, Bool.or_eq_true, decide_eq_true_iff]
        refine or_congr_right (iff_self_and.mpr ?_)
        rintro rfl
        exact fun stands => ne_true_of_eq_false (clean.mpr stands) clamped
      · next unclamped =>
        refine (or_iff_left ?_).symm
        rintro ⟨rfl, unclean⟩
        exact unclean (clean.mp (Bool.eq_false_iff.mpr unclamped))
    rw [List.foldl_cons, ih, one, List.mem_cons, or_assoc, ← or_and_right]

theorem clampedBit_fold_zero (v : State) (secs : List SetupSection) :
    secs.foldl (clampedBit v) 0 = 0 ↔ ∀ x ∈ secs, SectionClean v x := by
  constructor
  · intro zero x mem
    refine Classical.byContradiction fun unclean => ?_
    have bit := (clampedBit_fold v secs 0 x).mpr (.inr ⟨mem, unclean⟩)
    rw [zero] at bit
    simp at bit
  · intro clean
    induction secs with
    | nil => rfl
    | cons y secs ih =>
      have stays : clampedBit v 0 y = 0 :=
        if_neg (ne_true_of_eq_false ((sectionClamped_eq_false v y).mpr (clean y List.mem_cons_self)))
      rw [List.foldl_cons, stays]
      exact ih fun x mem => clean x (List.mem_cons_of_mem _ mem)

/-! ### One section alone -/

section
variable {s : State} {count mask : Word} {host : List HostWrite}

theorem exec_setupLoad_whole : exec (.setupLoad count mask { host := host, fault := none }) s =
    .next (s.setupLoad count mask host) := rfl

theorem State.setupLoad_of_named (some_ : count ≠ 0) (named : mask &&& 0xFFF#32 ≠ 0) : s.setupLoad count mask host =
    let r := (s.beforeRead host).loadSections false (maskedSections mask)
    r.1.answer (if r.2 = 0 then .done else .clamped) r.2 := by
  have secs : setupSections count mask = maskedSections mask := if_neg some_
  unfold State.setupLoad
  rw [secs]
  exact (if_neg some_).trans (if_neg (mt maskedSections_eq_nil.mp named))

/-- A section named alone: its owner takes it, and the answer says whether a value was taken into its range. -/
theorem loadGives_handed {x : SetupSection} (some_ : count ≠ 0) (one : mask &&& 0xFFF#32 = 1#32 <<< x.bit) :
    LoadGives s count mask host x ((s.beforeRead host).handed false (s.beforeRead host) x) := by
  have nonzero : (1#32 <<< x.bit : Word) ≠ 0 := by cases x <;> decide
  have loads := State.setupLoad_of_named (s := s) (host := host) some_ (one.symm ▸ nonzero : mask &&& 0xFFF#32 ≠ 0)
  rw [maskedSections_of_one one, State.loadSections_eq] at loads
  have clean := sectionClamped_eq_false (s.beforeRead host) x
  refine ⟨fun stands => ?_, fun unclean => ?_⟩
  · have bit : clampedBit (s.beforeRead host) 0 x = 0 := if_neg (ne_true_of_eq_false (clean.mpr stands))
    refine congrArg Host.Outcome.next (loads.trans ?_)
    simp only [List.foldl_cons, List.foldl_nil, bit, if_true]
  · have bit : clampedBit (s.beforeRead host) 0 x = 1#32 <<< x.bit :=
      (if_pos (Bool.of_not_eq_false (mt clean.mp unclean))).trans (BitVec.zero_or ..)
    refine congrArg Host.Outcome.next (loads.trans ?_)
    simp only [List.foldl_cons, List.foldl_nil, bit, if_neg nonzero]

theorem sectionLoads (some_ : count ≠ 0) : SectionLoads s count host := by
  unfold SectionLoads
  intro v only
  have hands : ∀ {x : SetupSection} {t : State}, v.handed false v x = t → only x t := by
    rintro x _ rfl mask one
    exact loadGives_handed some_ one
  refine ⟨hands (v.handed_servo false v), hands (v.handed_strip false v), hands (v.handed_scan false v), ?_,
    hands (v.handed_meter false v rfl), ⟨setupScales v, setupScales_toList v, hands (v.handed_scale false v)⟩,
    hands (v.handed_bars false v), ?_, hands ?_⟩
  · obtain ⟨b, l, decided, decision⟩ := v.grantDecision_decided (grantTaken v)
    exact ⟨b, l, decided, hands ((v.handed_grant false v rfl).trans decision)⟩
  · obtain ⟨u, loads, frame, links, derives, keeps⟩ := v.handed_link false v rfl
    exact ⟨u, hands loads, frame, fun k => (links k).trans (linkLoaded_eq v k).symm, derives, keeps⟩
  · rw [v.handed_attn, Attention.taken_eq]

end

end Sys2Proof.Machine
end

section
/-!
SUPPORT. SETUP_LOAD of any mask, whole or cut by a fault (R195, R187), and COUNTER_CLEAR (R196).
-/
namespace Sys2Proof.Machine

/-! ### Where a setup word's read fails -/

theorem failingRead_append (before after : List SetupSection) {sec : SetupSection} {k : Nat} (inside : k < sec.words) :
    failingRead (before ++ sec :: after) ((before.map (·.words)).sum + k) = some (before, sec.offset + 4 * k) := by
  induction before with
  | nil =>
    rw [List.nil_append, List.map_nil, List.sum_nil, Nat.zero_add]
    exact if_pos inside
  | cons x before ih =>
    have past : ¬ ((x :: before).map (·.words)).sum + k < x.words := by
      rw [List.map_cons, List.sum_cons]
      omega
    have rest : ((x :: before).map (·.words)).sum + k - x.words = (before.map (·.words)).sum + k := by
      rw [List.map_cons, List.sum_cons]
      omega
    refine (if_neg past).trans ?_
    rw [rest]
    exact congrArg (Option.map fun r => (x :: r.1, r.2)) ih

theorem failingRead_past (secs : List SetupSection) {j : Nat} (past : (secs.map (·.words)).sum ≤ j) : failingRead secs j = none := by
  induction secs generalizing j with
  | nil => rfl
  | cons x secs ih =>
    rw [List.map_cons, List.sum_cons] at past
    refine (if_neg (by omega : ¬ j < x.words)).trans ?_
    rw [ih (by omega)]
    rfl

/-- The sections named, cut at one of them. -/
theorem filter_all_split (has : SetupSection → Bool) {sec : SetupSection} (named : has sec = true) :
    SetupSection.all.filter has = (SetupSection.all.filter fun x => decide (x.bit < sec.bit ∧ has x = true)) ++
      sec :: ((SetupSection.all.filter fun x => decide (sec.bit < x.bit)).filter has) := by
  have all : SetupSection.all = (SetupSection.all.filter fun x => decide (x.bit < sec.bit)) ++
      sec :: (SetupSection.all.filter fun x => decide (sec.bit < x.bit)) := by cases sec <;> rfl
  have before : (SetupSection.all.filter fun x => decide (x.bit < sec.bit)).filter has =
      SetupSection.all.filter fun x => decide (x.bit < sec.bit ∧ has x = true) := by
    rw [List.filter_filter]
    exact List.filter_congr fun x _ => by simp [Bool.and_comm]
  refine (congrArg (List.filter has) all).trans ?_
  rw [List.filter_append, List.filter_cons_of_pos named, before]

/-! ### Any choice of sections -/

theorem State.sameSetup_answer (t : State) (o : Outcome) (r : Word) : SameSetup t (t.answer o r) where
  servo := rfl
  strip _ := rfl
  scan := rfl
  touch := rfl
  grant := rfl
  drive := rfl
  profiles := rfl
  chans _ := rfl
  scale := rfl
  bars := rfl
  link _ := ⟨rfl, rfl⟩
  attn _ := rfl
  plain _ h := h
  report := rfl

theorem channelLoaded_nofeed (v : State) (c : ChanId) : (channelLoaded v c).nofeed = v.meters.chans[c].nofeed := by
  unfold channelLoaded
  dsimp only
  split <;> rfl

section
variable {v t : State} {start : Bool} {has : SetupSection → Bool}

/-- A channel after loads: its values taken where the METER section is named, its feed condition derived again where a LOCKED link
left service (R150, R155). -/
theorem Loaded.chan (loaded : Loaded v start has t) (c : ChanId) : ∃ fed : Bool, t.meters.chans[c] =
      { (if has .meter then channelLoaded v c else v.meters.chans[c]) with nofeed := !fed } ∧
    (leavesFed v has → (fed = true ↔ fedNow t c)) ∧ (¬ leavesFed v has → fed = !v.meters.chans[c].nofeed) := by
  have chan := loaded.meters_frame.2.2 c
  rw [metersTaken_chan] at chan
  refine ⟨!t.meters.chans[c].nofeed, ?_, fun leaves => ?_, fun stays => ?_⟩
  · rw [Bool.not_not]
    exact chan
  · rw [Bool.not_eq_true']
    exact ((loaded.fed leaves).2.2 c).2
  · have same : t.meters.chans[c].nofeed = v.meters.chans[c].nofeed := by
      rw [loaded.meters stays, metersTaken_chan]
      split
      · exact channelLoaded_nofeed v c
      · rfl
    rw [same]

theorem Loaded.decay (loaded : Loaded v start has t) : t.meters.decay = v.meters.decay := by
  rw [loaded.meters_frame.2.1, metersTaken]
  split <;> rfl

theorem Loaded.strip_staged (loaded : Loaded v start has t) (i : StripId) : t.strip i =
    { v.strip i with staged := if has .strip then setupStrip v i.val else (v.strip i).staged } := by
  show t.strips[i] = _
  rw [loaded.strips]
  cases has .strip
  · rfl
  · exact Vector.getElem_ofFn i.isLt

/-- Loads cut by a fault: the sections handed stand, the others are as they were. -/
theorem Loaded.stands_fault (loaded : Loaded v start has t) (o : Word) {x : SetupSection} (named : has x = true) :
    SectionStands v (t.accessFault o) x := by
  obtain ⟨same, plain⟩ := t.sameSetup_accessFault o
  by_cases attn : x = .attn
  · obtain rfl := attn
    exact attn_stands_iff.mpr fun w => ⟨(same.attn w).trans (loaded.attn_due named w), plain w⟩
  · exact same.stands (loaded.stands named fun is => absurd is attn)

theorem Loaded.kept_fault (loaded : Loaded v start has t) (o : Word) {x : SetupSection} (unnamed : has x = false) :
    SectionKept v (t.accessFault o) x := (t.sameSetup_accessFault o).1.kept (loaded.kept unnamed)

end

section
variable {s : State} {count mask : Word} {host : List HostWrite}

theorem exec_setupLoad_cut {j : Nat} {t : State} (fails : s.setupLoadFault count mask host j = some t) :
    exec (.setupLoad count mask { host := host, fault := some j }) s = .next t :=
  congrArg (fun o : Option State => Host.Outcome.next (o.getD (s.setupLoad count mask host))) fails

theorem exec_setupLoad_uncut {j : Nat} (reads : s.setupLoadFault count mask host j = none) :
    exec (.setupLoad count mask { host := host, fault := some j }) s =
      exec (.setupLoad count mask { host := host, fault := none }) s :=
  congrArg (fun o : Option State => Host.Outcome.next (o.getD (s.setupLoad count mask host))) reads

theorem State.setupFault_at (v : State) (start : Bool) (has : SetupSection → Bool) {sec : SetupSection} {k : Nat}
    (named : has sec = true) (inside : k < sec.words) :
    let before := SetupSection.all.filter fun x => decide (x.bit < sec.bit ∧ has x = true)
    v.setupFault start (SetupSection.all.filter has) ((before.map (·.words)).sum + k) =
      some ((v.loadSections start before).1.accessFault (BitVec.ofNat 32 (sec.offset + 4 * k))) := by
  intro before
  unfold State.setupFault
  rw [filter_all_split has named, failingRead_append _ _ inside]
  rfl

theorem maskLoads (some_ : count ≠ 0) (named : mask &&& 0xFFF#32 ≠ 0) : MaskLoads s count mask host := by
  unfold MaskLoads
  intro v has unfed
  have secs : setupSections count mask = SetupSection.all.filter has := if_neg some_
  have part : v.part = s.part := (s.onImage_beforeRead host).part
  refine ⟨?_, fun sec k names inside => ?_, fun j past => ?_⟩
  · obtain ⟨a, loads⟩ : ∃ a, (v.loadSections false (SetupSection.all.filter has)).1 = a := ⟨_, rfl⟩
    obtain ⟨w, bits⟩ : ∃ w, (SetupSection.all.filter has).foldl (clampedBit v) 0 = w := ⟨_, rfl⟩
    have loaded : Loaded v false has a := loads ▸ v.loaded false has
    have both : v.loadSections false (SetupSection.all.filter has) = (a, w) := by
      rw [v.loadSections_eq] at loads ⊢
      rw [bits]
      exact congrArg (·, w) loads
    have runs : s.setupLoad count mask host = a.answer (if w = 0 then .done else .clamped) w := by
      refine (State.setupLoad_of_named some_ named).trans ?_
      show (let r := v.loadSections false (SetupSection.all.filter has)
        r.1.answer (if r.2 = 0 then .done else .clamped) r.2) = _
      rw [both]
    have bit : ∀ x : SetupSection, w.getLsbD x.bit = true ↔ has x = true ∧ ¬ SectionClean v x := fun x => by
      rw [← bits, clampedBit_fold, List.mem_filter]
      simp [x.mem_all]
    have answered := a.sameSetup_answer (if w = 0 then .done else .clamped) w
    obtain ⟨l, inFlight, decided⟩ := loaded.grant
    refine ⟨_, congrArg Host.Outcome.next runs, ?_, fun x names attn => ?_, fun x unnamed => ?_, ?_, fun k => ?_,
      loaded.strip_staged, ?_, ?_, ?_, ?_, ?_, fun names => ?_, fun unnamed => ?_, ?_, ?_, ?_, loaded.decay, loaded.chan,
      fun names => ?_, fun unnamed => ?_, ?_, ?_, bit⟩
    · obtain ⟨_, _, _, _, _, _, _, _, _, _, _, _, _, _, frame⟩ := loaded.frame
      rw [frame]
      rfl
    · exact answered.stands (loaded.stands names fun is => absurd is attn)
    · exact answered.kept (loaded.kept unnamed)
    · exact loaded.attention.trans (by rw [Attention.taken_eq])
    · refine (loaded.links k).trans ?_
      rw [linkLoaded_eq]
    · show a.scanner = { v.scanner with periodStaged := a.scanner.periodStaged, prescaleStaged := a.scanner.prescaleStaged }
      rw [loaded.scanner]
      split <;> rfl
    · show a.touchScan = { v.touchScan with staged := a.touchScan.staged }
      rw [loaded.touchScan]
      split <;> rfl
    · show a.motors = { v.motors with prescaleStaged := a.motors.prescaleStaged }
      rw [loaded.motors]
      split <;> rfl
    · show a.bars = { v.bars with scalesStaged := a.bars.scalesStaged, barsStaged := a.bars.barsStaged }
      rw [loaded.bars]
    · exact congrArg (·.barsStaged) loaded.bars
    · show a.bars.scalesStaged ≠ none
      rw [loaded.bars, if_pos names]
      nofun
    · refine (congrArg (·.scalesStaged) loaded.bars).trans (if_neg (ne_true_of_eq_false unnamed))
    · show a.reporter = { v.reporter with periodStaged := a.reporter.periodStaged }
      rw [loaded.reporter]
      split <;> rfl
    · show a.writer = { v.writer with holdStaged := a.writer.holdStaged }
      rw [loaded.writer]
      split <;> rfl
    · have swept : a.sweep = { v.sweep with periodStaged := a.sweep.periodStaged } := by
        rw [loaded.sweep]
        split <;> rfl
      exact congrArg (fun x : Sweep =>
        { x with outcome := some (if w = 0 then Outcome.done else Outcome.clamped), refused := w }) swept
    · rw [if_pos names] at decided
      exact ⟨a.arbiter, l, decided, rfl, inFlight⟩
    · rw [if_neg (ne_true_of_eq_false unnamed)] at decided
      refine ⟨decided.1, inFlight.trans ?_⟩
      rw [decided.2, List.map_nil, List.append_nil]
    · by_cases zero : w = 0
      · exact .inl (congrArg some (if_pos zero))
      · exact .inr (congrArg some (if_neg zero))
    · by_cases zero : w = 0
      · exact iff_of_true (congrArg some (if_pos zero)) zero
      · refine iff_of_false (fun done => ?_) zero
        have clamped : (a.answer (if w = 0 then .done else .clamped) w).sweep.outcome = some .clamped :=
          congrArg some (if_neg zero)
        rw [clamped] at done
        cases done
  · intro j
    obtain ⟨a, loads⟩ : ∃ a, (v.loadSections false
      (SetupSection.all.filter fun x => decide (x.bit < sec.bit ∧ has x = true))).1 = a := ⟨_, rfl⟩
    have loaded : Loaded v false (fun x => decide (x.bit < sec.bit ∧ has x = true)) a := loads ▸ v.loaded false _
    have fails : s.setupLoadFault count mask host j = some (a.accessFault (BitVec.ofNat 32 (sec.offset + 4 * k))) := by
      unfold State.setupLoadFault
      rw [secs, ← loads]
      exact v.setupFault_at false has names inside
    have base : a.part = s.part := loaded.frame.part.trans part
    refine ⟨_, exec_setupLoad_cut fails, rfl, rfl, ?_, rfl, loaded.frame.memory, Attention.has_set _ _,
      fun x low names => loaded.stands_fault _ (decide_eq_true ⟨low, names⟩), fun low names k => ?_,
      fun x out => loaded.kept_fault _ (decide_eq_false ?_)⟩
    · rw [State.accessFault_pfadr, base]
    · have taken : a.links[k] = linkLoaded v k :=
        ((loaded.links k).trans (if_pos (decide_eq_true ⟨low, names⟩))).trans (linkLoaded_eq v k).symm
      rw [← taken]
      exact (a.sameSetup_accessFault _).1.link k
    · rintro ⟨low, names⟩
      rcases out with high | unnamed
      · exact Nat.not_lt.mpr high low
      · rw [unnamed] at names
        cases names
  · refine exec_setupLoad_uncut ?_
    unfold State.setupLoadFault State.setupFault
    rw [secs, failingRead_past _ past]
    rfl

end

/-! ### SETUP_LOAD and COUNTER_CLEAR -/

section
variable {s : State} {count mask : Word} {host : List HostWrite}

/-- A load that names no section reads nothing, and no read of it fails. -/
theorem exec_setupLoad_of_nothing (none_ : setupSections count mask = []) (fault : Option Nat) :
    exec (.setupLoad count mask { host := host, fault := fault }) s = .next (s.setupLoad count mask host) := by
  cases fault with
  | none => rfl
  | some j =>
    refine exec_setupLoad_uncut ?_
    unfold State.setupLoadFault State.setupFault
    rw [none_]
    rfl

theorem exec_setupLoad_bad (fault : Option Nat) : exec (.setupLoad 0 mask { host := host, fault := fault }) s =
    .next ((s.hostWrote host).answer .badList 0) :=
  (exec_setupLoad_of_nothing (if_pos rfl) fault).trans (congrArg Host.Outcome.next (if_pos rfl))

theorem exec_setupLoad_empty (some_ : count ≠ 0) (none_ : mask &&& 0xFFF#32 = 0) (fault : Option Nat) :
    exec (.setupLoad count mask { host := host, fault := fault }) s = .next ((s.hostWrote host).answer .done 0) := by
  have nothing : setupSections count mask = [] := (if_neg some_).trans (maskedSections_eq_nil.mpr none_)
  exact (exec_setupLoad_of_nothing nothing fault).trans (congrArg Host.Outcome.next ((if_neg some_).trans (if_pos nothing)))

/-- One section's load by whether a value of it was taken into its range. -/
theorem exec_setupLoad_one {x : SetupSection} {t : State} {changed : Prop} [Decidable changed] (some_ : count ≠ 0)
    (one : mask &&& 0xFFF#32 = 1#32 <<< x.bit) (hands : (s.beforeRead host).handed false (s.beforeRead host) x = t)
    (clean : SectionClean (s.beforeRead host) x ↔ ¬ changed) :
    exec (.setupLoad count mask { host := host, fault := none }) s =
      .next (t.answer (if decide changed then .clamped else .done) (if decide changed then 1#32 <<< x.bit else 0)) := by
  obtain ⟨done, clamped⟩ := loadGives_handed (s := s) (host := host) some_ one
  rw [hands] at done clamped
  by_cases h : changed
  · rw [clamped fun c => clean.mp c h, decide_eq_true h]
    rfl
  · rw [done (clean.mpr h), decide_eq_false h]
    rfl

end

/-- Settles O48: each section by its owner, any mask by the fold over its sections, and the counters. -/
theorem setupLoadsAndCounterClear : Obligations.SetupLoadsAndCounterClear := by
  refine ⟨fun s count mask host some_ => ⟨sectionLoads some_, maskLoads some_, fun fault =>
    ⟨exec_setupLoad_bad fault, fun none_ => exec_setupLoad_empty some_ none_ fault⟩⟩, fun s count mask host => ?_⟩
  intro v value within done
  refine ⟨?_, fun some_ none_ => exec_setupLoad_empty some_ none_ none, fun some_ one => ?_, fun some_ one => ?_,
    fun some_ one => ?_, rfl⟩
  · rintro rfl
    exact exec_setupLoad_bad none
  · intro p h w
    refine exec_setupLoad_one (x := .report) some_ one (v.handed_report false v) ?_
    have fields : SectionClean v .report ↔ p = value 0x1350 0 ∧ h = value 0x1350 1 ∧ w = value 0x1350 2 :=
      Prod.mk.injEq .. ▸ Prod.mk.injEq .. ▸ Iff.rfl
    rw [fields, not_or, not_or, Classical.not_not, Classical.not_not, Classical.not_not]
  · intro k
    refine exec_setupLoad_one (x := .touch) some_ one (v.handed_touch false v) ?_
    have fields : SectionClean v .touch ↔ k 0 = value 0x0C08 0 ∧ k 1 = value 0x0C08 1 ∧ k 2 = value 0x0C08 2 := by
      have stands : ∀ j, 1 ≤ setupValue v 0x0C08 j ∧ setupValue v 0x0C08 j ≤ 15 ↔ k j = value 0x0C08 j :=
        fun j => (within_eq_iff (by decide)).symm
      refine (forall_congr' fun j : Fin 3 => stands j).trans ?_
      simp [Fin.forall_fin_succ]
    rw [fields, not_or, not_or, Classical.not_not, Classical.not_not, Classical.not_not]
  · intro x k
    refine exec_setupLoad_one (x := .drive) some_ one (v.handed_drive false v) ?_
    exact Classical.not_not.symm

end Sys2Proof.Machine
end

section
/-!
SUPPORT. The start sequence (R181): its stages keep the setup values that its loads handed, and leave each block as R181 says; whole,
abandoned by a STOP (R184), or cut by a fault (R187).
-/
namespace Sys2Proof.Machine

/-! ### What keeps the setup values at the Image Port -/

theorem SameSetup.refl (t : State) : SameSetup t t where
  servo := rfl
  strip _ := rfl
  scan := rfl
  touch := rfl
  grant := rfl
  drive := rfl
  profiles := rfl
  chans _ := rfl
  scale := rfl
  bars := rfl
  link _ := ⟨rfl, rfl⟩
  attn _ := rfl
  plain _ h := h
  report := rfl

theorem SameSetup.of_image {t u : State} (image : t.OnImage u) (period : u.reporter.periodStaged = t.reporter.periodStaged)
    (attn : ∀ w : Coalesced, (u.attention.coalescing w).due = (t.attention.coalescing w).due ∧
      ((t.attention.coalescing w).Plain → (u.attention.coalescing w).Plain)) : SameSetup t u := by
  obtain ⟨_, _, _, _, rfl⟩ := image
  exact { SameSetup.refl t with attn := fun w => (attn w).1, plain := fun w => (attn w).2, report := by rw [period] }

theorem Coalescing.counted_due (co : Coalescing) : co.counted.due = co.due ∧ (co.Plain → co.counted.Plain) := ⟨rfl, fun h => h⟩

/-- An event at the Attention Unit leaves the values a cause holds or has staged, staged ones perhaps adopted (R204). -/
theorem Attention.event_due (a : Attention) (e w : Coalesced) : ((a.event e).coalescing w).due = (a.coalescing w).due ∧
    ((a.coalescing w).Plain → ((a.event e).coalescing w).Plain) := by
  have raise : ∀ b : Attention, ((b.raise e).coalescing w).due = (b.coalescing w).due ∧
      ((b.coalescing w).Plain → ((b.raise e).coalescing w).Plain) := fun b => by
    cases e <;> cases w <;> first | exact ⟨rfl, fun h => h⟩ | exact ⟨rfl, fun _ => ⟨rfl, rfl⟩⟩
  have counts : ((a.withCoalescing e (a.coalescing e).counted).coalescing w).due = (a.coalescing w).due ∧
      ((a.coalescing w).Plain → ((a.withCoalescing e (a.coalescing e).counted).coalescing w).Plain) := by
    cases e <;> cases w <;> exact ⟨rfl, fun h => h⟩
  unfold Attention.event
  dsimp only
  split
  · exact raise a
  · split
    · exact ⟨(raise _).1.trans counts.1, fun h => (raise _).2 (counts.2 h)⟩
    · exact counts

theorem imageKeeps_setup : ImageKeeps SameSetup where
  refl := SameSetup.refl
  trans := SameSetup.trans
  issue s := by
    have image := s.onImage_issueOldest
    have period := (imageKeeps_periods.issue s).2.2
    refine SameSetup.of_image image period fun w => ?_
    cases oldest : s.posted with
    | nil =>
      have same : s.issueOldest = s := by unfold State.issueOldest; rw [oldest]
      rw [same]
      exact ⟨rfl, fun h => h⟩
    | cons q rest =>
      rw [State.issueOldest_eq oldest]
      obtain ⟨offset, data, note⟩ := q
      cases note with
      | plain => exact ⟨rfl, fun h => h⟩
      | cellOwner => exact s.attention.event_due .cell w
      | reportEnd => cases w <;> exact ⟨rfl, fun h => h⟩
  action s := by
    obtain ⟨more, r, acts⟩ := s.reportAction_appends
    refine SameSetup.of_image s.onImage_reportAction (imageKeeps_periods.action s).2.2 fun w => ?_
    rw [acts]
    exact ⟨rfl, fun h => h⟩
  append s w := { SameSetup.refl s with }
  host s ws := { SameSetup.refl s with }

/-! ### The stages keep the setup values -/

theorem State.sameSetup_startResult (t : State) (w : Word) : SameSetup t (t.startResult w) :=
  SameSetup.trans (t := { t with part := { t.part with startResult := if w = 0 then .ok else .clamped } })
    { SameSetup.refl t with } (imageKeeps_setup.post _ _)

theorem State.readSupply_eq (s : State) : s.readSupply = { s with
    arbiter := { s.arbiter with supply := if s.msupOk then .ok else .low, recovery := none }
    attention := if s.msupOk then s.attention else s.attention.set .supply } := by
  unfold State.readSupply
  split <;> rfl

theorem State.startBlocks_eq (t : State) : t.startBlocks = { t with
    writer := t.writer.begin t.part.header
    meters := t.meters.clearAll
    arbiter := { t.arbiter with supply := if t.msupOk then .ok else .low, recovery := none }
    attention := if t.msupOk then t.attention else t.attention.set .supply } := by
  unfold State.startBlocks
  rw [State.readSupply_eq]

theorem State.sameSetup_startBlocks (t : State) : SameSetup t t.startBlocks := by
  have cause : ∀ w, ((if t.msupOk then t.attention else t.attention.set .supply).coalescing w) = t.attention.coalescing w :=
    fun w => by cases t.msupOk <;> cases w <;> rfl
  rw [State.startBlocks_eq]
  exact { SameSetup.refl t with
    chans := fun c => by
      have cleared : t.meters.clearAll.chans[c] = { t.meters.chans[c].clear with nofeed := true } := Vector.getElem_map ..
      dsimp only
      rw [cleared]
      rfl
    attn := fun w => by rw [cause w]
    plain := fun w h => by rwa [cause w] }

theorem State.sameSetup_startDisplay (t : State) : SameSetup t t.startDisplay := { SameSetup.refl t with
  link := fun k => by
    have entered : t.startDisplay.links[k] = if t.links[k].settings.enable then t.links[k].enterAcquiring else t.links[k] :=
      Vector.getElem_map ..
    rw [entered]
    split <;> exact ⟨rfl, rfl⟩ }

theorem State.startStrips_strip (t : State) (i : StripId) : t.startStrips.strip i =
    (t.strip i).begin (decide (i.val < t.part.header.strips)) := Vector.getElem_ofFn i.isLt

theorem State.sameSetup_startStrips (t : State) : SameSetup t t.startStrips := by
  obtain ⟨strips, begun⟩ : ∃ strips, t.startStrips = { t with strips := strips } := ⟨_, rfl⟩
  have staged : ∀ i, (t.startStrips.strip i).staged = (t.strip i).staged := fun i => by
    rw [t.startStrips_strip]
    rfl
  rw [begun] at staged ⊢
  exact { SameSetup.refl t with strip := staged }

theorem State.sameSetup_startConverter (t : State) : SameSetup t t.startConverter := { SameSetup.refl t with }

theorem State.sameSetup_abandonStart (t : State) : SameSetup t t.abandonStart := by
  rw [State.abandonStart_eq]
  exact { SameSetup.refl t with
    chans := fun c => by
      have cleared : (t.meters.chans.map fun c => { c with nofeed := true })[c] = { t.meters.chans[c] with nofeed := true } :=
        Vector.getElem_map ..
      dsimp only
      rw [cleared]
    link := fun k => by
      have left : (t.links.map LinkRx.leave)[k] = t.links[k].leave := Vector.getElem_map ..
      dsimp only
      rw [left]
      exact ⟨rfl, rfl⟩
    attn := fun w => by cases w <;> rfl
    plain := fun w h => by cases w <;> exact h }

/-! ### The start sequence whole -/

/-- Steps 2 to 5 of the start sequence, block by block (R181). -/
theorem State.startBrought_eq (b : State) : b.startBlocks.startDisplay.startStrips.startConverter = { b with
    writer := b.writer.begin b.part.header
    meters := { b.meters.clearAll with decay := true }
    arbiter := { b.arbiter with supply := if b.msupOk then .ok else .low, recovery := none }
    attention := if b.msupOk then b.attention else b.attention.set .supply
    links := b.links.map fun l => if l.settings.enable then l.enterAcquiring else l
    bars := b.bars.refresh b.meters.clearAll.chans
    strips := Vector.ofFn fun i => b.strips[i].begin (decide (i.val < b.part.header.strips))
    scanner := { b.scanner.startRound (allStrips.filter fun i => decide (i.val < b.part.header.strips)) true with
      enabled := true, longNext := true, runCount := 0 } } := by
  unfold State.startConverter State.startStrips State.startDisplay State.stripCount
  rw [State.startBlocks_eq]

theorem State.sameSetup_startBrought (b : State) : SameSetup b b.startBlocks.startDisplay.startStrips.startConverter :=
  ((b.sameSetup_startBlocks.trans (State.sameSetup_startDisplay _)).trans (State.sameSetup_startStrips _)).trans
    (State.sameSetup_startConverter _)

/-- The start result and its word in the header (R181); the blocks of the strips, the links and the meters are left alone. -/
theorem State.startResult_gives (a : State) (w : Word) :
    (a.startResult w).part = { a.part with startResult := if w = 0 then .ok else .clamped } ∧
    (a.startResult w).posted.getLast? =
      some { offset := 48, data := startResultWord (a.startResult w).part, note := .plain } ∧
    (a.startResult w).strips = a.strips ∧ (a.startResult w).sweep = a.sweep ∧ (a.startResult w).msupOk = a.msupOk := by
  have image : State.OnImage { a with part := { a.part with startResult := if w = 0 then .ok else .clamped } } (a.startResult w) :=
    State.onImage_post _ _
  have part := image.part
  refine ⟨part, ?_, image.strips, image.sweep, image.msupOk⟩
  rw [part, ← Part.resultWord_eq]
  exact State.post_getLast _ _

theorem exec_startSequence {s : State} (due : s.part.sequenceDue = true) (host : List HostWrite) (cut : Option StartCut) :
    exec (.startSequence { host := host, cut := cut }) s = .next ((s.startBegun host).startCut cut) :=
  congrArg Host.Outcome.next (if_pos due)

theorem State.loaded_all (v : State) : Loaded v true (fun _ => true) (v.loadSections true SetupSection.all).1 := by
  have loaded := v.loaded true fun _ => true
  rwa [List.filter_eq_self.mpr fun _ _ => rfl] at loaded

theorem Strip.begin_state (x : Strip) (below : Bool) : (x.begin below).pRepSet = false ∧ (x.begin below).cal = x.cal ∧
    (x.begin below).state = if below = true then (if x.cal.valid then .idle else .uncal) else .off := ⟨rfl, rfl, rfl⟩

theorem Loaded.strip_kept {v t : State} {start : Bool} {has : SetupSection → Bool} (loaded : Loaded v start has t) (i : StripId) :
    (t.strip i).cal = (v.strip i).cal ∧ (t.strip i).state = (v.strip i).state := by
  rw [loaded.strip_staged]
  exact ⟨rfl, rfl⟩

theorem State.startBegun_strip (s : State) (host : List HostWrite) : (s.startBegun host).strips = s.strips :=
  (State.onImage_beforeRead _ host).strips

theorem State.startBegun_part (s : State) (host : List HostWrite) :
    (s.startBegun host).part = { s.part with sequenceDue := false, time := 0 } := (State.onImage_beforeRead _ host).part

/-- The start sequence with no cut brings every block up. -/
theorem startSequence_whole (s : State) (host : List HostWrite) (due : s.part.sequenceDue = true) :
    let v := s.startBegun host
    ∃ t, exec (.startSequence { host := host, cut := none }) s = .next t ∧
      (∀ x : SetupSection, Sys2Proof.Machine.SectionStands v t x) ∧
      (t.part.startResult = .ok ↔ ∀ x : SetupSection, Sys2Proof.Machine.SectionClean v x) ∧
      t.part.state = s.part.state ∧ t.part.sequenceDue = false ∧ t.part.time = 0 ∧ t.sweep.count = 0 ∧
      (t.part.startResult = .ok ∨ t.part.startResult = .clamped) ∧
      t.posted.getLast? = some { offset := 48, data := Sys2Proof.Machine.startResultWord t.part, note := .plain } ∧
      t.writer.state = .seeking ∧ t.writer.page = 0 ∧ t.writer.pages = s.part.header.pages ∧
      t.writer.pageSize = s.part.header.pageSize ∧ t.writer.holdTime = t.writer.holdStaged ∧
      t.arbiter.supply = (if s.msupOk then .ok else .low) ∧
      (∀ c : ChanId, t.meters.chans[c].m = 0 ∧ t.meters.chans[c].hv = 0 ∧ t.meters.chans[c].isOver = false ∧
        t.meters.chans[c].nofeed = true) ∧
      (∀ k : LinkId, t.links[k].settings.enable = true → t.links[k].state = .acquiring) ∧
      t.meters.decay = true ∧ t.bars.phase = some 0 ∧ t.bars.barsStaged = none ∧ t.bars.scalesStaged = none ∧
      (∀ i : StripId, (t.strip i).pRepSet = false ∧ (t.strip i).cal = (s.strip i).cal ∧
        (t.strip i).state = if i.val < s.part.header.strips then
          (if (s.strip i).cal.valid then .idle else .uncal) else .off) ∧
      t.scanner.enabled = true ∧ t.scanner.warm = true ∧ t.scanner.round = .running ∧ t.scanner.longNext = true ∧
      t.scanner.runCount = 0 ∧ t.scanner.period = t.scanner.periodStaged ∧ t.scanner.prescale = t.scanner.prescaleStaged ∧
      t.scanner.list = allStrips.filter fun i => decide (i.val < s.part.header.strips) := by
  intro v
  obtain ⟨a, loads⟩ : ∃ a, (v.loadSections true SetupSection.all).1 = a := ⟨_, rfl⟩
  obtain ⟨w, bits⟩ : ∃ w, (v.loadSections true SetupSection.all).2 = w := ⟨_, rfl⟩
  have loaded : Loaded v true (fun _ => true) a := loads ▸ v.loaded_all
  obtain ⟨b, results⟩ : ∃ b, a.startResult w = b := ⟨_, rfl⟩
  obtain ⟨part, posted, strips, sweep, msupOk⟩ := results ▸ a.startResult_gives w
  have whole : v.startCut none = b.startBlocks.startDisplay.startStrips.startConverter := by
    refine v.startThrough_startStages.trans ?_
    rw [← results, ← loads, ← bits]
  have keeps : SameSetup a (b.startBlocks.startDisplay.startStrips.startConverter) :=
    (results ▸ a.sameSetup_startResult w).trans b.sameSetup_startBrought
  rw [State.startBrought_eq] at keeps whole
  have clean : w = 0 ↔ ∀ x : SetupSection, SectionClean v x := by
    rw [← bits, v.loadSections_eq]
    exact (clampedBit_fold_zero v SetupSection.all).trans ⟨fun h x => h x x.mem_all, fun h x _ => h x⟩
  have vpart : v.part = { s.part with sequenceDue := false, time := 0 } := s.startBegun_part host
  have apart : a.part = v.part := loaded.frame.part
  have result : b.part.startResult = if w = 0 then .ok else .clamped := by rw [part]
  have header : b.part.header = s.part.header := by rw [part, apart, vpart]
  have count : b.sweep.count = 0 := by
    have begun : v.sweep.count = 0 := congrArg (·.count) (State.onImage_beforeRead _ host).sweep
    rw [sweep, loaded.sweep, if_pos rfl]
    exact begun
  have supply : b.msupOk = s.msupOk := by
    rw [msupOk, loaded.frame.msupOk]
    exact (State.onImage_beforeRead _ host).msupOk
  refine ⟨_, (exec_startSequence due host none).trans (congrArg Host.Outcome.next whole),
    fun x => keeps.stands (loaded.stands rfl fun _ => rfl), ?_, ?_, ?_, ?_, count, ?_, posted, rfl, rfl, ?_, ?_, rfl, ?_,
    fun c => ?_, fun k => ?_, rfl, rfl, rfl, rfl, fun i => ?_, rfl, rfl, rfl, rfl, rfl, rfl, rfl, ?_⟩
  · show b.part.startResult = .ok ↔ _
    rw [result, ← clean]
    split
    · next zero => exact iff_of_true rfl zero
    · next some_ => exact iff_of_false nofun some_
  · show b.part.state = _
    rw [part, apart, vpart]
  · show b.part.sequenceDue = _
    rw [part, apart, vpart]
  · show b.part.time = _
    rw [part, apart, vpart]
  · show b.part.startResult = .ok ∨ b.part.startResult = .clamped
    rw [result]
    split
    · exact .inl rfl
    · exact .inr rfl
  · exact congrArg (·.pages) header
  · exact congrArg (·.pageSize) header
  · show (if b.msupOk then Supply.ok else .low) = _
    rw [supply]
  · have cleared : b.meters.clearAll.chans[c] = { b.meters.chans[c].clear with nofeed := true } := Vector.getElem_map ..
    dsimp only
    rw [cleared]
    exact ⟨rfl, rfl, rfl, rfl⟩
  · have entered : (b.links.map fun l => if l.settings.enable then l.enterAcquiring else l)[k] =
        if b.links[k].settings.enable then b.links[k].enterAcquiring else b.links[k] := Vector.getElem_map ..
    dsimp only
    rw [entered]
    split
    · exact fun _ => rfl
    · next clear => exact fun enable => absurd enable clear
  · have begun : (Vector.ofFn fun i : StripId => b.strips[i].begin (decide (i.val < b.part.header.strips)))[i] =
        (b.strips[i]).begin (decide (i.val < b.part.header.strips)) := Vector.getElem_ofFn i.isLt
    have old : (b.strips[i]).cal = (s.strip i).cal := by
      have kept := (loaded.strip_kept i).1
      have same := congrArg (·[i]) (s.startBegun_strip host)
      rw [strips]
      exact kept.trans (congrArg (·.cal) same)
    refine (congrArg (fun y : Strip => y.pRepSet = false ∧ y.cal = (s.strip i).cal ∧ y.state =
      if i.val < s.part.header.strips then (if (s.strip i).cal.valid then .idle else .uncal) else .off) begun).mpr ⟨rfl, old, ?_⟩
    rw [header, ← old]
    exact ite_congr (propext decide_eq_true_iff) (fun _ => rfl) fun _ => rfl
  · show (allStrips.filter fun i => decide (i.val < b.part.header.strips)) = _
    rw [header]

/-! ### The start sequence cut short (R184, R187) -/

theorem SetupSection.take_all : ∀ n : Fin 13,
    SetupSection.all.take n.val = SetupSection.all.filter fun x => decide (x.bit < n.val) := by decide

/-- Stages up to the twelfth are the loads of the sections below. -/
theorem State.startThrough_early (v : State) {n : Nat} (early : n ≤ 12) :
    v.startThrough (startStages.take n) = (v.loadSections true (SetupSection.all.filter fun x => decide (x.bit < n))).1 := by
  have stages : startStages.take n = (SetupSection.all.take n).map .load := by
    rw [startStages, List.take_append_of_le_length (by simpa [SetupSection.all] using early), List.map_take]
  rw [stages, State.startThrough_loads, SetupSection.take_all ⟨n, by omega⟩]

/-- The stages after the loads. -/
theorem State.startThrough_late (v : State) (m : Nat) : v.startThrough (startStages.take (12 + m)) =
    ((([.result, .blocks, .display, .strips, .converter] : List StartStage).take m).foldl State.startStage
      (v.loadSections true SetupSection.all)).1 := by
  have stages : startStages.take (12 + m) = SetupSection.all.map .load ++
      ([.result, .blocks, .display, .strips, .converter] : List StartStage).take m :=
    List.take_length_add_append (l₁ := SetupSection.all.map StartStage.load) m
  have loads : ∀ (secs : List SetupSection) (acc : State × Word),
      (secs.map StartStage.load).foldl State.startStage acc = secs.foldl (State.loadSection true) acc := fun secs acc =>
    List.foldl_map
  rw [stages, State.startThrough, List.foldl_append, loads]
  rfl

/-- What a STOP after `n` stages finds: the sections loaded, the strips as step 4 sets them if it was taken. -/
structure StoppedAfter (v : State) (n : Nat) (u : State) : Prop where
  stands : ∀ x : SetupSection, x.bit < n → SectionStands v u x
  kept : ∀ x : SetupSection, n ≤ x.bit → SectionKept v u x
  result : u.part.startResult = v.part.startResult ∨ 13 ≤ n
  strips : ∀ i : StripId, (u.strip i).cal = (v.strip i).cal ∧ (u.strip i).state = if n < 16 then (v.strip i).state
    else if i.val < v.part.header.strips then (if (v.strip i).cal.valid then .idle else .uncal) else .off

theorem stoppedAfter_early (v : State) {n : Nat} (early : n ≤ 12) : StoppedAfter v n (v.startThrough (startStages.take n)) := by
  rw [v.startThrough_early early]
  obtain ⟨a, loads⟩ : ∃ a, (v.loadSections true (SetupSection.all.filter fun x => decide (x.bit < n))).1 = a := ⟨_, rfl⟩
  have loaded : Loaded v true (fun x => decide (x.bit < n)) a := loads ▸ v.loaded true _
  rw [loads]
  refine ⟨fun x low => loaded.stands (decide_eq_true low) fun _ => rfl,
    fun x high => loaded.kept (decide_eq_false (Nat.not_lt.mpr high)), .inl (by rw [loaded.frame.part]), fun i => ?_⟩
  obtain ⟨cal, state⟩ := loaded.strip_kept i
  exact ⟨cal, state.trans (if_pos (by omega)).symm⟩

theorem State.startBlocks_strips (b : State) : b.startBlocks.strips = b.strips ∧ b.startBlocks.part = b.part := by
  rw [State.startBlocks_eq]
  exact ⟨rfl, rfl⟩

theorem stoppedAfter_late (v : State) {n : Nat} (late : 12 < n) (most : n ≤ 16) :
    StoppedAfter v n (v.startThrough (startStages.take n)) := by
  obtain ⟨⟨a, w⟩, loads⟩ : ∃ r, v.loadSections true SetupSection.all = r := ⟨_, rfl⟩
  have loaded : Loaded v true (fun _ => true) a := by
    have all := v.loaded_all
    rwa [loads] at all
  obtain ⟨b, results⟩ : ∃ b, a.startResult w = b := ⟨_, rfl⟩
  obtain ⟨part, -, strips, -, -⟩ := results ▸ a.startResult_gives w
  have same : SameSetup a b := results ▸ a.sameSetup_startResult w
  have strip : ∀ i, (b.strip i).cal = (v.strip i).cal ∧ (b.strip i).state = (v.strip i).state := fun i => by
    have kept : b.strip i = a.strip i := congrArg (·[i]) strips
    rw [kept]
    exact loaded.strip_kept i
  have brought : ∀ u : State, SameSetup b u → (∀ i : StripId, (u.strip i).cal = (v.strip i).cal ∧ (u.strip i).state =
      if n < 16 then (v.strip i).state else if i.val < v.part.header.strips then (if (v.strip i).cal.valid then .idle else .uncal)
        else .off) → StoppedAfter v n u := fun u keeps strips => by
    have stands : ∀ x : SetupSection, SectionStands v u x := fun x => (same.trans keeps).stands (loaded.stands rfl fun _ => rfl)
    exact ⟨fun x _ => stands x, fun x high => absurd (Nat.lt_of_lt_of_le x.bit_lt (Nat.le_of_lt late)) (Nat.not_lt.mpr high),
      .inr late, strips⟩
  have waits : n < 16 → ∀ u : State, SameSetup b u → u.strips = b.strips → StoppedAfter v n u := fun early u keeps strips => by
    refine brought u keeps fun i => ?_
    have kept : u.strip i = b.strip i := congrArg (·[i]) strips
    rw [kept, if_pos early]
    exact strip i
  have stages : ∀ m, v.startThrough (startStages.take (12 + m)) =
      ((([.result, .blocks, .display, .strips, .converter] : List StartStage).take m).foldl State.startStage (a, w)).1 := fun m => by
    rw [v.startThrough_late, loads]
  have blocks : SameSetup b b.startBlocks := b.sameSetup_startBlocks
  have display : SameSetup b b.startBlocks.startDisplay := blocks.trans (State.sameSetup_startDisplay _)
  obtain ⟨blocks', part'⟩ := b.startBlocks_strips
  obtain rfl | rfl | rfl | rfl : n = 13 ∨ n = 14 ∨ n = 15 ∨ n = 16 := by omega
  · have ends : v.startThrough (startStages.take 13) = b := (stages 1).trans results
    exact ends ▸ waits (by decide) b (SameSetup.refl b) rfl
  · have ends : v.startThrough (startStages.take 14) = b.startBlocks := (stages 2).trans (congrArg State.startBlocks results)
    exact ends ▸ waits (by decide) _ blocks blocks'
  · have ends : v.startThrough (startStages.take 15) = b.startBlocks.startDisplay :=
      (stages 3).trans (congrArg (fun x : State => x.startBlocks.startDisplay) results)
    exact ends ▸ waits (by decide) _ display blocks'
  · have ends : v.startThrough (startStages.take 16) = b.startBlocks.startDisplay.startStrips :=
      (stages 4).trans (congrArg (fun x : State => x.startBlocks.startDisplay.startStrips) results)
    rw [ends]
    refine brought _ (display.trans (State.sameSetup_startStrips _)) fun i => ?_
    have old : b.startBlocks.startDisplay.strip i = b.strip i := congrArg (·[i]) blocks'
    have header : b.startBlocks.startDisplay.part.header = v.part.header := by
      show b.startBlocks.part.header = _
      rw [part', part, loaded.frame.part]
    rw [State.startStrips_strip, old, header, if_neg (by decide), ← (strip i).1]
    exact ⟨rfl, ite_congr (propext decide_eq_true_iff) (fun _ => rfl) fun _ => rfl⟩

theorem startCutShort (s : State) (host : List HostWrite) (due : s.part.sequenceDue = true) :
    StartCutShort s (s.startBegun host) host := by
  obtain ⟨v, begun⟩ : ∃ v, s.startBegun host = v := ⟨_, rfl⟩
  have vpart : v.part = { s.part with sequenceDue := false, time := 0 } := begun ▸ s.startBegun_part host
  have vstrips : v.strips = s.strips := begun ▸ s.startBegun_strip host
  have exec_cut := fun cut => begun ▸ exec_startSequence due host cut
  rw [begun]
  refine ⟨fun sec k inside => ?_, fun n most => ?_⟩
  · intro j
    let before := SetupSection.all.filter fun x => decide (x.bit < sec.bit ∧ (fun _ => true) x = true)
    obtain ⟨a, loads⟩ : ∃ a, (v.loadSections true before).1 = a := ⟨_, rfl⟩
    have loaded : Loaded v true (fun x => decide (x.bit < sec.bit ∧ (fun _ => true) x = true)) a := loads ▸ v.loaded true _
    have sums : j = (before.map (·.words)).sum + k := by
      unfold j before
      simp only [and_true]
    have fails : v.setupFault true SetupSection.all j = some (a.accessFault (BitVec.ofNat 32 (sec.offset + 4 * k))) := by
      have cut := v.setupFault_at true (fun _ => true) (sec := sec) rfl inside
      rw [List.filter_eq_self.mpr fun _ _ => rfl] at cut
      rw [sums, ← loads]
      exact cut
    have runs : exec (.startSequence { host := host, cut := some (.fault j) }) s =
        .next (a.accessFault (BitVec.ofNat 32 (sec.offset + 4 * k))) := by
      rw [exec_cut]
      exact congrArg (fun o : Option State => Host.Outcome.next (o.getD (v.startThrough startStages))) fails
    have apart : a.part = { s.part with sequenceDue := false, time := 0 } := loaded.frame.part.trans vpart
    refine ⟨_, runs, rfl, rfl, ?_, ?_, rfl, loaded.frame.memory, Attention.has_set _ _,
      fun x low => loaded.stands_fault _ (decide_eq_true ⟨low, rfl⟩),
      fun x high => loaded.kept_fault _ (decide_eq_false fun low => Nat.not_lt.mpr high low.1)⟩
    · rw [State.accessFault_pfadr, apart]
    · rw [State.accessFault_startResult, apart]
  · have stopped : StoppedAfter v n (v.startThrough (startStages.take n)) := by
      by_cases early : n ≤ 12
      · exact stoppedAfter_early v early
      · exact stoppedAfter_late v (Nat.not_le.mp early) most
    obtain ⟨u, stages⟩ : ∃ u, v.startThrough (startStages.take n) = u := ⟨_, rfl⟩
    rw [stages] at stopped
    have keeps := u.sameSetup_abandonStart
    have runs : exec (.startSequence { host := host, cut := some (.stop n) }) s = .next u.abandonStart := by
      rw [exec_cut, ← stages]
      rfl
    have left : ∀ k : LinkId, (u.links.map LinkRx.leave)[k] = u.links[k].leave := fun k => Vector.getElem_map ..
    rw [State.abandonStart_eq] at runs keeps
    refine ⟨_, runs, rfl, rfl, Attention.has_set _ _, rfl, fun k => congrArg (·.state) (left k), rfl, rfl, rfl, rfl, ?_,
      fun x low => keeps.stands (stopped.stands x low), fun x high => keeps.kept (stopped.kept x high), fun i => ?_⟩
    · have result := stopped.result
      rwa [vpart] at result
    · have same : v.strip i = s.strip i := congrArg (·[i]) vstrips
      have strips := stopped.strips i
      rwa [same, vpart] at strips

/-- Settles O7: the sections loaded and the blocks brought up, whole or cut by a failed read or a STOP. -/
theorem startSequenceBringsUp : Obligations.StartSequenceBringsUp := by
  intro s host due v
  exact ⟨startCutShort s host due, startSequence_whole s host due⟩

end Sys2Proof.Machine
end

section
/-!
SUPPORT. STOP in RUNNING, first part (R183, steps 1 and 2): what each gang and each strip gives up, and the records it hands.
-/
namespace Sys2Proof.Machine

/-! ### A strip's end of work (R27) -/

/-- The FINISH records of a strip's end of work: its calibration run, its queued entries, its current entry. -/
def endRecords (i : StripId) (x : Strip) : List Rec :=
  if x.state = .off then [] else
    (x.calRun.toList.map fun r => Rec.finish i .flushed r.tag .cell x.p) ++
      (x.queue ++ x.current.toList).map fun e => Rec.finish i .flushed e.tag e.origin x.p

/-- What a strip sends the arbiter as its work ends: its grant back, or its request withdrawn. -/
def endEvents (i : StripId) (x : Strip) : List Instr :=
  if x.state.driving then [.grantReturn i] else if x.state.isWaiting then [.grantWithdrawal i] else []

/-- A strip at the end of its work. -/
def endedStrip (x : Strip) : Strip :=
  if x.state = .off then { x with streamTarget := none, role := .outside, followTarget := none, freeze := false }
  else { x with
    state := if x.cal.valid then .idle else .uncal, current := none, queue := [], calRun := none, grantHeld := false
    touch := false, relatch := false, streamTarget := none, trail := [], trailStep := 0, role := .outside
    followTarget := none, freeze := false, restart := false, chainStart := none
    profile := { x.profile with set := false }
    flushed := x.flushed + BitVec.ofNat 16 (x.queue.length + (if x.current = none then 0 else 1) +
      (if x.calRun = none then 0 else 1)) }

theorem endedStrip_rests (x : Strip) : (endedStrip x).state.isWaiting = false := by
  unfold endedStrip
  split
  · next off => exact (congrArg StripState.isWaiting off).trans rfl
  · dsimp only
    split <;> rfl

/-- A strip's end of work: its records, and what its leaving the state sends. -/
theorem Ctx.endWork_eq (i : StripId) (x : Strip) : Ctx.endWork { id := i, strip := x, out := [] } = {
    id := i, strip := endedStrip x
    out := (endRecords i x).map .record ++ (if x.state.driving then [.drive 0, .giveBack]
      else if x.state.isWaiting then [.withdraw] else []) } := by
  by_cases off : x.state = .off
  · have still : x.state.driving = false ∧ x.state.isWaiting = false := by rw [off]; exact ⟨rfl, rfl⟩
    rw [endedStrip, endRecords, if_pos off, if_pos off, still.1, still.2]
    refine (if_pos off).trans ?_
    rw [Ctx.update, Strip.rest, if_pos off]
    rfl
  · have count : x.flushed + (if x.calRun = none then 0 else 1) +
        BitVec.ofNat 16 (x.queue.length + (if x.current = none then 0 else 1)) =
        x.flushed + BitVec.ofNat 16 (x.queue.length + (if x.current = none then 0 else 1) + (if x.calRun = none then 0 else 1)) := by
      rw [BitVec.add_assoc, BitVec.add_comm (if x.calRun = none then 0 else 1), BitVec.ofNat_add _ (if x.calRun = none then 0 else 1)]
      cases x.calRun <;> rfl
    rw [endedStrip, endRecords, if_neg off, if_neg off]
    refine (if_neg off).trans ?_
    have rest : ∀ y : Strip, y.state = x.state → y.rest = { y.detach with
        state := y.restState, touch := false, relatch := false, grantHeld := false, trail := [], trailStep := 0 } :=
      fun y same => if_neg fun gone => off (same.symm.trans gone)
    rw [Ctx.endRun_flushed, Ctx.flush_eq, Ctx.letGo_eq, Ctx.update, rest]
    · simp only [flushedStrip, flushEffects, finishOf, count, Strip.detach, Strip.restState, List.nil_append, List.map_append,
        List.map_map, List.append_assoc]
      rfl
    · rfl

/-! ### Records handed while the part is stopping (R121, R131) -/

/-- The writer as a record handed in `b` leaves it, were it `w` before. -/
def Writer.takes (b : State) (w : Writer) (r : Rec) : Writer := (({ b with writer := w } : State).handRecord r).writer

section
variable {b t : State}

/-- In STOPPING a record handed changes the writer alone, and the writer sees no more than the part and the memory. -/
theorem State.handRecord_takes (stopping : b.part.state = .stopping) (part : t.part = b.part) (memory : t.memory = b.memory) (r : Rec) :
    t.handRecord r = { t with writer := Writer.takes b t.writer r } := by
  have here := State.handRecord_stopping (s := t) (part ▸ stopping) r
  have there := State.handRecord_stopping (s := { b with writer := t.writer }) stopping r
  have owner : ∀ w : Writer, ({ t with writer := w } : State).pageOwner = ({ b with writer := w } : State).pageOwner := by
    intro w
    unfold State.pageOwner State.readImage State.address
    dsimp only
    rw [part, memory]
  dsimp only at here there
  rw [here, Writer.takes, there, owner, part]

theorem State.handAll_takes (stopping : b.part.state = .stopping) (rs : List Rec) (part : t.part = b.part) (memory : t.memory = b.memory) :
    rs.foldl State.handRecord t = { t with writer := rs.foldl (Writer.takes b) t.writer } := by
  induction rs generalizing t with
  | nil => rfl
  | cons r rs ih =>
    rw [List.foldl_cons, State.handRecord_takes stopping part memory r]
    exact ih (t := { t with writer := Writer.takes b t.writer r }) part memory

/-! ### The gangs and the strips in their order (R183, R100) -/

/-- The GANG records of event end of the gangs of a list with activity. -/
def gangRecords (s : State) (gs : List GangId) : List Rec :=
  gs.filterMap fun g => (s.gang g).activity.map fun a => Rec.gang g a.leader .ended

theorem State.endGangs_eq (stopping : b.part.state = .stopping) (gs : List GangId) (part : t.part = b.part) (memory : t.memory = b.memory) :
    gs.foldl State.endGang t = { t with writer := (gangRecords t gs).foldl (Writer.takes b) t.writer } := by
  induction gs generalizing t with
  | nil => rfl
  | cons g gs ih =>
    rw [List.foldl_cons, gangRecords, List.filterMap_cons, State.endGang]
    cases (t.gang g).activity with
    | none => exact ih part memory
    | some a =>
      dsimp only
      rw [State.handRecord_takes stopping part memory]
      exact ih (t := { t with writer := Writer.takes b t.writer (.gang g a.leader .ended) }) part memory

/-- With every channel at drive 0 a write of drive 0 changes nothing. -/
theorem State.writeDrive_silent (silent : ∀ i : StripId, t.motors.chans[i].zero = t.motors.chans[i]) (i : StripId) :
    t.writeDrive i 0 = t := by
  have same : t.motors.chans.set i (t.motors.chans[i].write t.scanner.period 0) = t.motors.chans := by
    rw [show t.motors.chans[i].write t.scanner.period 0 = t.motors.chans[i] from (if_pos rfl).trans (silent i)]
    exact Vector.set_getElem_self i.isLt
  rw [State.writeDrive, same]

/-- One strip's end of work (R183, step 2), every channel being at drive 0 already. -/
theorem State.runStrip_endWork (stopping : b.part.state = .stopping) (silent : ∀ i : StripId, b.motors.chans[i].zero = b.motors.chans[i])
    (part : t.part = b.part) (memory : t.memory = b.memory) (motors : t.motors = b.motors) (i : StripId) :
    t.runStrip i Ctx.endWork = { t with
      strips := t.strips.set i (endedStrip (t.strip i))
      writer := (endRecords i (t.strip i)).foldl (Writer.takes b) t.writer
      inFlight := t.inFlight ++ endEvents i (t.strip i) } := by
  rw [State.runStrip, Ctx.endWork_eq]
  dsimp only
  have records := State.handAll_takes (t := t.setStrip i (endedStrip (t.strip i))) stopping (endRecords i (t.strip i)) part memory
  have handed : (t.setStrip i (endedStrip (t.strip i))).effects i ((endRecords i (t.strip i)).map .record) =
      (endRecords i (t.strip i)).foldl State.handRecord (t.setStrip i (endedStrip (t.strip i))) := List.foldl_map
  rw [State.effects_append, handed, records, endEvents]
  by_cases driving : (t.strip i).state.driving = true
  · rw [if_pos driving, if_pos driving]
    have write := State.writeDrive_silent (t := { t.setStrip i (endedStrip (t.strip i)) with
      writer := (endRecords i (t.strip i)).foldl (Writer.takes b) t.writer }) (fun k => motors ▸ silent k) i
    exact congrArg (fun u : State => u.deliver (.grantReturn i)) write
  · rw [if_neg driving, if_neg driving]
    split
    · rfl
    · exact congrArg (fun es => ({ t.setStrip i (endedStrip (t.strip i)) with
        writer := (endRecords i (t.strip i)).foldl (Writer.takes b) t.writer, inFlight := es } : State)) (List.append_nil _).symm

/-- The strips' ends of work, one after another: each strip ended, and their records and events in order. -/
theorem State.endStrips_eq (stopping : b.part.state = .stopping) (silent : ∀ i : StripId, b.motors.chans[i].zero = b.motors.chans[i])
    (is : List StripId) (apart : is.Nodup) (part : t.part = b.part) (memory : t.memory = b.memory) (motors : t.motors = b.motors) :
    ∃ strips, is.foldl (fun u i => u.runStrip i Ctx.endWork) t = { t with
        strips := strips
        writer := (is.flatMap fun i => endRecords i (t.strip i)).foldl (Writer.takes b) t.writer
        inFlight := t.inFlight ++ is.flatMap fun i => endEvents i (t.strip i) } ∧
      (∀ i ∈ is, strips[i] = endedStrip (t.strip i)) ∧ ∀ i, i ∉ is → strips[i] = t.strips[i] := by
  induction is generalizing t with
  | nil => exact ⟨t.strips, by simp, nofun, fun _ _ => rfl⟩
  | cons i is ih =>
    obtain ⟨fresh, apart⟩ := List.nodup_cons.mp apart
    rw [List.foldl_cons, State.runStrip_endWork stopping silent part memory motors]
    obtain ⟨strips, ends, ended, kept⟩ := ih apart (t := { t with
      strips := t.strips.set i (endedStrip (t.strip i))
      writer := (endRecords i (t.strip i)).foldl (Writer.takes b) t.writer
      inFlight := t.inFlight ++ endEvents i (t.strip i) }) part memory motors
    have others : ∀ j, j ≠ i → (t.strips.set i (endedStrip (t.strip i)))[j] = t.strips[j] :=
      fun j other => Vector.getElem_set_ne i.isLt j.isLt (Fin.val_ne_of_ne other.symm)
    have later : ∀ j ∈ is, (t.strips.set i (endedStrip (t.strip i)))[j] = t.strip j :=
      fun j mem => others j fun same => fresh (same ▸ mem)
    refine ⟨strips, ends.trans ?_, fun j mem => ?_, fun j out => ?_⟩
    · have records : (is.flatMap fun j => endRecords j (t.strips.set i (endedStrip (t.strip i)))[j]) =
          is.flatMap fun j => endRecords j (t.strip j) :=
        congrArg List.flatten (List.map_congr_left fun j mem => congrArg (endRecords j) (later j mem))
      have events : (is.flatMap fun j => endEvents j (t.strips.set i (endedStrip (t.strip i)))[j]) =
          is.flatMap fun j => endEvents j (t.strip j) :=
        congrArg List.flatten (List.map_congr_left fun j mem => congrArg (endEvents j) (later j mem))
      unfold State.strip at records events ⊢
      dsimp only
      rw [records, events, List.flatMap_cons, List.flatMap_cons, List.foldl_append, List.append_assoc]
    · obtain rfl | mem := List.mem_cons.mp mem
      · exact (kept j fresh).trans (Vector.getElem_set_self j.isLt)
      · exact (ended j mem).trans (congrArg endedStrip (later j mem))
    · obtain ⟨other, out⟩ := not_or.mp (mt List.mem_cons.mpr out)
      exact (kept j out).trans (others j other)

end

end Sys2Proof.Machine
end

section
/-!
SUPPORT. The STOP sequence's events between strips and arbiter (R111): what each of them does while no strip is WAITING, and
what that leaves of the grant set, the waiting set and a pending full budget.
-/
namespace Sys2Proof.Machine

/-! ### One event at a time -/

/-- An event between strips and arbiter taken while no strip is WAITING: the arbiter it leaves, and the events it brings. -/
inductive ArbiterStep (a : Arbiter) : Instr → Arbiter → List Instr → Prop
  | request {i : StripId} {p : Priority} {b : Arbiter} {l : List StripId} (decided : Decided (a.request i p) b l) :
      ArbiterStep a (.grantRequest i p) b (l.map .grant)
  | withdrawal {i : StripId} : ArbiterStep a (.grantWithdrawal i) (a.withdraw i) []
  | giveBack {i : StripId} {b : Arbiter} {l : List StripId} (decided : Decided (a.giveBack i) b l) :
      ArbiterStep a (.grantReturn i) b (l.map .grant)
  | stranger {i : StripId} (out : i ∉ a.grantSet) : ArbiterStep a (.grantReturn i) a []
  | granted {i : StripId} : ArbiterStep a (.grant i) a [.grantReturn i]

theorem State.takeGrantEvent_step {s : State} (rests : ∀ i, (s.strip i).state.isWaiting = false) {e : Instr} (he : grantEvent e = true) :
    ∃ b l, ArbiterStep s.arbiter e b l ∧
      (s.take e).takeGrantEvent e = { s with arbiter := b, inFlight := s.inFlight.erase e ++ l } := by
  cases e with
  | grantRequest i p =>
    obtain ⟨b, l, decided, decision⟩ := (s.take (.grantRequest i p)).grantDecision_decided (s.arbiter.request i p)
    exact ⟨b, _, .request decided, decision⟩
  | grantWithdrawal i =>
    refine ⟨_, _, .withdrawal, ?_⟩
    rw [List.append_nil]
    rfl
  | grantReturn i =>
    by_cases holds : i ∈ s.arbiter.grantSet
    · obtain ⟨b, l, decided, decision⟩ := (s.take (.grantReturn i)).grantDecision_decided (s.arbiter.giveBack i)
      exact ⟨b, _, .giveBack decided, (if_pos holds).trans decision⟩
    · refine ⟨_, _, .stranger holds, (if_neg holds).trans ?_⟩
      rw [List.append_nil]
      rfl
  | grant i => exact ⟨_, _, .granted, State.runStrip_granted (s := s.take (.grant i)) (rests i)⟩
  | _ => cases he

/-- What every step keeps that takes the oldest event between strips and arbiter, all of them keep. -/
theorem State.settleGrants_keeps {P : Arbiter → List Instr → Prop}
    (step : ∀ {a b e l pre post}, (∀ x ∈ pre, grantEvent x = false) → ArbiterStep a e b l → P a (pre ++ e :: post) →
      P b (pre ++ post ++ l))
    {s : State} (rests : ∀ i, (s.strip i).state.isWaiting = false) (holds : P s.arbiter s.inFlight) :
    P s.settleGrants.arbiter s.settleGrants.inFlight := by
  have go : ∀ (n : Nat) (t : State), (∀ i, (t.strip i).state.isWaiting = false) → P t.arbiter t.inFlight →
      P (State.settleGrantsFor n t).arbiter (State.settleGrantsFor n t).inFlight := by
    intro n
    induction n with
    | zero => exact fun _ _ ht => ht
    | succ n ih =>
      intro t rests ht
      unfold State.settleGrantsFor
      split
      · exact ht
      · next e found =>
        obtain ⟨isEvent, pre, post, split, before⟩ := List.find?_eq_some_iff_append.mp found
        have before : ∀ x ∈ pre, grantEvent x = false := fun x mem => by simpa using before x mem
        obtain ⟨b, l, stepped, takes⟩ := State.takeGrantEvent_step rests isEvent
        have fresh : e ∉ pre := fun mem => Bool.noConfusion ((before e mem).symm.trans isEvent)
        have left : t.inFlight.erase e = pre ++ post := by
          rw [split, List.erase_append_right _ fresh, List.erase_cons_head]
        rw [takes, left]
        exact ih { t with arbiter := b, inFlight := pre ++ post ++ l } rests (step before stepped (split ▸ ht))
  exact go _ s rests holds

/-! ### What the events leave -/

section
variable {a b : Arbiter} {e : Instr} {l pre post : List Instr}

theorem Decided.eq {c : Arbiter} {l : List StripId} (decided : Decided a c l) :
    c = { a with grantSet := a.grantSet ++ l, waiting := a.waiting.filter fun r => decide (r.strip ∉ l) } := decided.1

theorem Arbiter.request_frame (a : Arbiter) (i : StripId) (p : Priority) : a.request i p = { a with waiting := (a.request i p).waiting } := by
  rw [Arbiter.request_eq]
  split
  · rfl
  · split <;> rfl

theorem Arbiter.mem_request {i j : StripId} {p : Priority} (mem : j ∈ (a.request i p).waiting.map (·.strip)) :
    j = i ∨ j ∈ a.waiting.map (·.strip) := by
  rw [Arbiter.request_eq] at mem
  split at mem
  · exact .inr mem
  · split at mem
    · refine .inr ?_
      obtain ⟨r, asked, rfl⟩ := List.mem_map.mp mem
      obtain ⟨q, waits, rfl⟩ := List.mem_map.mp asked
      refine List.mem_map.mpr ⟨q, waits, ?_⟩
      split <;> rfl
    · rw [List.map_append, List.mem_append] at mem
      exact mem.symm.imp_left List.mem_singleton.mp

theorem Arbiter.giveBack_frame (a : Arbiter) (i : StripId) : a.giveBack i =
    { a with grantSet := a.grantSet.filter fun j => decide (j ≠ i), full := (a.giveBack i).full, pendingFull := (a.giveBack i).pendingFull } := by
  rw [Arbiter.giveBack_eq]
  cases a.pendingFull with
  | none => rfl
  | some g =>
    dsimp only
    split <;> rfl

/-- No event changes the supply, its recovery timer, or the values of a LOW supply. -/
theorem ArbiterStep.supply (step : ArbiterStep a e b l) :
    (b.supply, b.recovery, b.low, b.floor) = (a.supply, a.recovery, a.low, a.floor) := by
  cases step with
  | request decided => rw [decided.eq, Arbiter.request_frame]
  | giveBack decided => rw [decided.eq, Arbiter.giveBack_frame]
  | withdrawal | stranger | granted => rfl

/-- With no full budget pending the one in force stands. -/
theorem ArbiterStep.full (step : ArbiterStep a e b l) (idle : a.pendingFull = none) : b.full = a.full ∧ b.pendingFull = none := by
  cases step with
  | request decided =>
    rw [decided.eq, Arbiter.request_frame]
    exact ⟨rfl, idle⟩
  | giveBack decided =>
    rw [decided.eq, Arbiter.giveBack_eq, idle]
    exact ⟨rfl, rfl⟩
  | withdrawal | stranger | granted => exact ⟨rfl, idle⟩

/-- A pending full budget waits while strips hold grants, and is in force once none has held one (R106). -/
def Adopting (full : Nat) (a : Arbiter) : Prop :=
  (a.pendingFull = some full ∧ a.grantSet ≠ []) ∨ (a.full = full ∧ a.pendingFull = none)

theorem ArbiterStep.adopting {full : Nat} (step : ArbiterStep a e b l) (adopts : Adopting full a) : Adopting full b := by
  have grown : ∀ {c d : Arbiter} {l : List StripId}, Decided c d l → Adopting full c → Adopting full d := by
    intro c d l decided adopts
    rw [decided.eq]
    exact adopts.imp_left fun ⟨waits, held⟩ => ⟨waits, fun empty => held (List.append_eq_nil_iff.mp empty).1⟩
  cases step with
  | request decided =>
    refine grown decided ?_
    rw [Arbiter.request_frame]
    exact adopts
  | giveBack decided =>
    refine grown decided ?_
    rw [Arbiter.giveBack_eq]
    obtain ⟨waits, held⟩ | ⟨inForce, idle⟩ := adopts
    · rw [waits]
      dsimp only
      split
      · exact .inr ⟨rfl, rfl⟩
      · next many => exact .inl ⟨rfl, fun empty => many (Nat.le_trans (Nat.le_of_eq (congrArg List.length empty)) (Nat.zero_le _))⟩
    · rw [idle]
      exact .inr ⟨inForce, rfl⟩
  | withdrawal | stranger | granted => exact adopts

/-- Every holder has its grant or its return under way. -/
def HoldersReturn (a : Arbiter) (f : List Instr) : Prop := ∀ i ∈ a.grantSet, Instr.grant i ∈ f ∨ Instr.grantReturn i ∈ f

theorem ArbiterStep.holdersReturn (step : ArbiterStep a e b l) (returns : HoldersReturn a (pre ++ e :: post)) :
    HoldersReturn b (pre ++ post ++ l) := by
  have old : ∀ {i : StripId}, i ∈ a.grantSet → Instr.grant i ≠ e → Instr.grantReturn i ≠ e →
      Instr.grant i ∈ pre ++ post ++ l ∨ Instr.grantReturn i ∈ pre ++ post ++ l := by
    intro i holds notGrant notReturn
    have keep : ∀ {x : Instr}, x ≠ e → x ∈ pre ++ e :: post → x ∈ pre ++ post ++ l := by
      intro x other mem
      have : x ∈ pre ∨ x = e ∨ x ∈ post := by simpa using mem
      simp only [List.mem_append]
      exact .inl (this.imp_right fun later => later.resolve_left other)
    exact (returns i holds).imp (keep notGrant) (keep notReturn)
  have fresh : ∀ {i : StripId} {g : List StripId}, i ∈ g → Instr.grant i ∈ pre ++ post ++ g.map Instr.grant :=
    fun mem => List.mem_append_right _ (List.mem_map_of_mem mem)
  intro i holds
  cases step with
  | request decided =>
    rw [decided.eq, Arbiter.request_frame] at holds
    exact (List.mem_append.mp holds).elim (fun held => old held nofun nofun) fun new => .inl (fresh new)
  | giveBack decided =>
    rw [decided.eq, Arbiter.giveBack_frame] at holds
    refine (List.mem_append.mp holds).elim (fun held => ?_) fun new => .inl (fresh new)
    obtain ⟨held, other⟩ := List.mem_filter.mp held
    exact old held nofun fun same => of_decide_eq_true other (Instr.grantReturn.inj same)
  | withdrawal => exact old holds nofun nofun
  | @stranger j out => exact old holds nofun fun same => out (Instr.grantReturn.inj same ▸ holds)
  | @granted j =>
    by_cases same : i = j
    · exact .inr (List.mem_append_right _ (List.mem_singleton.mpr (same ▸ rfl)))
    · exact old holds (fun k => same (Instr.grant.inj k)) nofun

/-- Whether an event is a strip's request or its withdrawal. -/
def requestOf (i : StripId) : Instr → Bool
  | .grantRequest j _ => decide (j = i)
  | .grantWithdrawal j => decide (j = i)
  | _ => false

/-- Of a strip the last request or withdrawal under way is a withdrawal, or there is neither and it has no record. -/
def Withdraws (i : StripId) (a : Arbiter) (f : List Instr) : Prop :=
  (f.filter (requestOf i)).getLast? = some (.grantWithdrawal i) ∨
    ((f.filter (requestOf i)).getLast? = none ∧ i ∉ a.waiting.map (·.strip))

theorem requestOf_event {i : StripId} {x : Instr} (h : requestOf i x = true) : grantEvent x = true := by
  cases x <;> first | rfl | cases h

theorem ArbiterStep.brings {i : StripId} (step : ArbiterStep a e b l) : l.filter (requestOf i) = [] := by
  have grants : ∀ g : List StripId, (g.map Instr.grant).filter (requestOf i) = [] := fun g =>
    List.filter_eq_nil_iff.mpr fun x mem => by
      obtain ⟨j, -, rfl⟩ := List.mem_map.mp mem
      exact nofun
  cases step with
  | request decided | giveBack decided => exact grants _
  | withdrawal | stranger | granted => rfl

/-- A strip without a record gets one from its own request alone. -/
theorem ArbiterStep.unknown {i : StripId} (step : ArbiterStep a e b l) (other : requestOf i e = false)
    (unknown : i ∉ a.waiting.map (·.strip)) : i ∉ b.waiting.map (·.strip) := by
  have fewer : ∀ {c : Arbiter} {p : Request → Bool}, i ∉ c.waiting.map (·.strip) → i ∉ (c.waiting.filter p).map (·.strip) :=
    fun out mem => out ((List.filter_sublist.map _).subset mem)
  cases step with
  | @request j _ _ _ decided =>
    rw [decided.eq]
    exact fewer fun mem => (Arbiter.mem_request mem).elim (fun same => of_decide_eq_false other same.symm) unknown
  | giveBack decided =>
    rw [decided.eq, Arbiter.giveBack_frame]
    exact fewer (c := a) unknown
  | withdrawal => exact fewer unknown
  | stranger | granted => exact unknown

theorem ArbiterStep.withdraws {i : StripId} (before : ∀ x ∈ pre, grantEvent x = false) (step : ArbiterStep a e b l)
    (withdraws : Withdraws i a (pre ++ e :: post)) : Withdraws i b (pre ++ post ++ l) := by
  have none_before : pre.filter (requestOf i) = [] := List.filter_eq_nil_iff.mpr fun x mem event =>
    Bool.noConfusion ((before x mem).symm.trans (requestOf_event event))
  unfold Withdraws at withdraws ⊢
  rw [List.filter_append, List.filter_append, none_before, step.brings, List.nil_append, List.append_nil]
  rw [List.filter_append, none_before, List.nil_append, List.filter_cons] at withdraws
  by_cases own : requestOf i e = true
  · rw [if_pos own, List.getLast?_cons] at withdraws
    have last := withdraws.resolve_right fun k => Option.some_ne_none _ k.1
    cases rest : (post.filter (requestOf i)).getLast? with
    | some x =>
      rw [rest] at last
      exact .inl last
    | none =>
      rw [rest] at last
      obtain rfl : e = .grantWithdrawal i := Option.some.inj last
      refine .inr ⟨rfl, ?_⟩
      cases step
      simp [Arbiter.withdraw]
  · have other : requestOf i e = false := Bool.eq_false_iff.mpr own
    rw [if_neg own] at withdraws
    exact withdraws.imp_right fun ⟨last, unknown⟩ => ⟨last, step.unknown other unknown⟩

end

/-! ### The STOP sequence's grant set and waiting set -/

section
variable {s : State} (rests : ∀ i, (s.strip i).state.isWaiting = false)
include rests

theorem State.settleGrants_none (e : Instr) (mem : e ∈ s.settleGrants.inFlight) : grantEvent e = false := by
  obtain ⟨a, settles⟩ := State.settleGrants_eq rests
  rw [settles] at mem
  simpa using (List.mem_filter.mp mem).2

theorem State.settleGrants_supply : (s.settleGrants.arbiter.supply, s.settleGrants.arbiter.recovery, s.settleGrants.arbiter.low,
    s.settleGrants.arbiter.floor) = (s.arbiter.supply, s.arbiter.recovery, s.arbiter.low, s.arbiter.floor) :=
  State.settleGrants_keeps (P := fun a _ => (a.supply, a.recovery, a.low, a.floor) =
    (s.arbiter.supply, s.arbiter.recovery, s.arbiter.low, s.arbiter.floor)) (fun _ step kept => step.supply.trans kept) rests rfl

theorem State.settleGrants_full (idle : s.arbiter.pendingFull = none) :
    s.settleGrants.arbiter.full = s.arbiter.full ∧ s.settleGrants.arbiter.pendingFull = none :=
  State.settleGrants_keeps (P := fun a _ => a.full = s.arbiter.full ∧ a.pendingFull = none)
    (fun _ step kept => ⟨(step.full kept.2).1.trans kept.1, (step.full kept.2).2⟩) rests ⟨rfl, idle⟩

/-- Holders that return every grant leave none held. -/
theorem State.settleGrants_grantSet (returns : HoldersReturn s.arbiter s.inFlight) : s.settleGrants.arbiter.grantSet = [] := by
  have left := State.settleGrants_keeps (P := HoldersReturn) (fun _ step kept => step.holdersReturn kept) rests returns
  refine List.eq_nil_iff_forall_not_mem.mpr fun i holds => ?_
  exact (left i holds).elim (fun mem => Bool.noConfusion (State.settleGrants_none rests _ mem))
    fun mem => Bool.noConfusion (State.settleGrants_none rests _ mem)

/-- A pending full budget is then in force (log 33). -/
theorem State.settleGrants_adopts {full : Nat} (returns : HoldersReturn s.arbiter s.inFlight) (held : s.arbiter.grantSet ≠ [])
    (waits : s.arbiter.pendingFull = some full) :
    s.settleGrants.arbiter.full = full ∧ s.settleGrants.arbiter.pendingFull = none := by
  have left := State.settleGrants_keeps (P := fun a _ => Adopting full a) (fun _ step kept => step.adopting kept) rests
    (.inl ⟨waits, held⟩)
  exact left.resolve_left fun k => k.2 (State.settleGrants_grantSet rests returns)

/-- Requests all withdrawn leave no record waiting. -/
theorem State.settleGrants_waiting (withdraws : ∀ i, Withdraws i s.arbiter s.inFlight) : s.settleGrants.arbiter.waiting = [] := by
  refine List.eq_nil_iff_forall_not_mem.mpr fun r waits => ?_
  have left := State.settleGrants_keeps (P := Withdraws r.strip) (fun before step kept => step.withdraws before kept) rests
    (withdraws r.strip)
  have gone : s.settleGrants.inFlight.filter (requestOf r.strip) = [] := List.filter_eq_nil_iff.mpr fun x mem event =>
    Bool.noConfusion ((State.settleGrants_none rests x mem).symm.trans (requestOf_event event))
  rw [Withdraws, gone] at left
  obtain last | ⟨-, unknown⟩ := left
  · cases last
  · exact unknown (List.mem_map_of_mem waits)

end

end Sys2Proof.Machine
end

section
/-!
SUPPORT. STOP in RUNNING (R183), second part: the blocks stopped, the gangs' and strips' work ended, the arbiter's events
settled, and the sequence going on.
-/
namespace Sys2Proof.Machine

/-! ### The sequence's own keeps (R183, steps 3 to 5) -/

theorem pageHanded_keeps (u : State) : (pageHanded u).part = u.part ∧ (pageHanded u).reporter.timer = u.reporter.timer := by
  unfold pageHanded
  dsimp only
  exact ⟨(u.onImage_postAll _).part, (imageKeeps_periods.postAll u _).1⟩

theorem drainEnds_keeps (u : State) :
    (drainEnds u).part.state = u.part.state ∧ (drainEnds u).reporter.timer = u.reporter.timer := by
  unfold drainEnds
  dsimp only
  split
  · exact ⟨congrArg Part.state (pageHanded_keeps u).1, (pageHanded_keeps u).2⟩
  · exact ⟨rfl, rfl⟩

theorem State.stopReport_keeps (u : State) :
    u.stopReport.part.state = u.part.state ∧ u.stopReport.reporter.timer = u.reporter.timer := by
  unfold State.stopReport
  split
  · have begins := u.finalReport_eq
    have state := congrArg (fun t : State => t.part.state) begins
    have timer := congrArg (fun t : State => t.reporter.timer) begins
    exact ⟨state, timer⟩
  · exact ⟨rfl, rfl⟩

theorem State.stopDisplay_keeps (u : State) :
    u.stopDisplay.part.state = u.part.state ∧ u.stopDisplay.reporter.timer = u.reporter.timer := by
  by_cases ends : u.part.stop = .report ∧ u.reporter.run = none
  · rw [State.stopDisplay_of_report ends]
    exact ⟨rfl, rfl⟩
  · rw [State.stopDisplay, if_neg ends]
    exact ⟨rfl, rfl⟩

/-- The sequence going on stays in STOPPING, and starts no report timer. -/
theorem stopGoesOn_keeps (u : State) :
    (stopGoesOn u).part.state = u.part.state ∧ (stopGoesOn u).reporter.timer = u.reporter.timer := by
  have drained : u.stopDrain.part.state = u.part.state ∧ u.stopDrain.reporter.timer = u.reporter.timer := by
    unfold State.stopDrain
    split
    · rw [State.endDrain_eq]
      exact drainEnds_keeps u
    · exact ⟨rfl, rfl⟩
  rw [← State.stopSequence_eq]
  obtain ⟨reportState, reportTimer⟩ := u.stopDrain.stopReport_keeps
  obtain ⟨displayState, displayTimer⟩ := u.stopDrain.stopReport.stopDisplay_keeps
  exact ⟨displayState.trans (reportState.trans drained.1), displayTimer.trans (reportTimer.trans drained.2)⟩

theorem State.lastOwnerRead_eq (s : State) : s.lastOwnerRead = { s with
    inFlight := s.inFlight ++ if s.writer.state = .seeking ∧ s.writer.queue ≠ [] then [.pageOwnerRead []] else [] } := by
  unfold State.lastOwnerRead
  split
  · rfl
  · rw [List.append_nil]

/-! ### The records of the sequence -/

theorem stopRecords_eq (s : State) : stopRecords s =
    gangRecords s (List.finRange 8) ++ allStrips.flatMap fun i => endRecords i (s.strip i) := rfl

theorem endRecords_eq_nil (i : StripId) (x : Strip) : endRecords i x = [] ↔
    ¬ (x.state != .off && (x.current.isSome || !x.queue.isEmpty || x.calRun.isSome)) = true := by
  unfold endRecords
  split
  · next off => simp [off]
  · next on => cases x.current <;> cases x.calRun <;> simp [on]

theorem State.stopHands_iff (s : State) : s.stopHands = true ↔ stopRecords s ≠ [] := by
  have gangs : ((List.finRange 8).any fun g => (s.gang g).activity.isSome) = true ↔ gangRecords s (List.finRange 8) ≠ [] := by
    simp [gangRecords, List.filterMap_eq_nil_iff, Option.isSome_iff_ne_none]
  have strips : (allStrips.any fun i => (s.strip i).state != .off &&
      ((s.strip i).current.isSome || !(s.strip i).queue.isEmpty || (s.strip i).calRun.isSome)) = true ↔
      (allStrips.flatMap fun i => endRecords i (s.strip i)) ≠ [] := by
    rw [List.any_eq_true, Ne, List.flatMap_eq_nil_iff]
    rw [Classical.not_forall]
    exact exists_congr fun i => (and_congr_right fun _ =>
      ((not_congr (endRecords_eq_nil i _)).trans Classical.not_not).symm).trans Classical.not_imp.symm
  unfold State.stopHands
  dsimp only
  rw [Bool.or_eq_true, gangs, strips, stopRecords_eq, Ne, Ne, Ne, List.append_eq_nil_iff, Classical.not_and_iff_not_or_not]

/-! ### Steps 1 and 2 -/

/-- The events that stay under way past the STOP sequence's grant events: samples and meter words delivered (log 14). -/
def deliveredAlready : Instr → Bool
  | .sampleArrival _ _ | .meterWord _ _ => true
  | _ => false

theorem staysInFlight_eq (e : Instr) : (staysInFlight e && !grantEvent e) = deliveredAlready e := by
  cases e <;> rfl

theorem endEvents_grant {i : StripId} {x : Strip} {e : Instr} (mem : e ∈ endEvents i x) : grantEvent e = true := by
  unfold endEvents at mem
  split at mem
  · exact List.mem_singleton.mp mem ▸ rfl
  · split at mem
    · exact List.mem_singleton.mp mem ▸ rfl
    · cases mem

/-- The events under way as the grant events are taken: those entry to STOPPING leaves, and what the strips send. -/
def eventsAtStop (s : State) : List Instr :=
  s.inFlight.filter staysInFlight ++ allStrips.flatMap fun i => endEvents i (s.strip i)

theorem mem_endEvents (s : State) {e : Instr} :
    (e ∈ allStrips.flatMap fun i => endEvents i (s.strip i)) ↔ ∃ i, e ∈ endEvents i (s.strip i) :=
  List.mem_flatMap.trans (exists_congr fun i => and_iff_right (List.mem_finRange i))

theorem eventsAtStop_delivered (s : State) : ((eventsAtStop s).filter fun e => !grantEvent e) = s.inFlight.filter deliveredAlready := by
  have sent : ((allStrips.flatMap fun i => endEvents i (s.strip i)).filter fun e => !grantEvent e) = [] := by
    refine List.filter_eq_nil_iff.mpr fun e mem => ?_
    obtain ⟨i, mem⟩ := (mem_endEvents s).mp mem
    rw [endEvents_grant mem]
    exact nofun
  rw [eventsAtStop, List.filter_append, sent, List.append_nil, List.filter_filter]
  exact List.filter_congr fun e _ => (Bool.and_comm _ _).trans (staysInFlight_eq e)

/-- Holders that drive return their grants as their work ends. -/
theorem HoldersGiveBack.returns {s : State} (gives : HoldersGiveBack s) : HoldersReturn s.arbiter (eventsAtStop s) := by
  intro i holds
  obtain driving | granted | returned := gives i holds
  · refine .inr (List.mem_append_right _ ((mem_endEvents s).mpr ⟨i, ?_⟩))
    rw [endEvents, if_pos driving]
    exact List.mem_singleton_self _
  · exact .inl (List.mem_append_left _ (List.mem_filter.mpr ⟨granted, rfl⟩))
  · exact .inr (List.mem_append_left _ (List.mem_filter.mpr ⟨returned, rfl⟩))

/-- Of the events a strip's end of work sends, the request or withdrawal can be a waiting strip's withdrawal alone. -/
theorem requestOf_endEvents {s : State} {i : StripId} {e : Instr} (mem : e ∈ allStrips.flatMap fun j => endEvents j (s.strip j))
    (own : requestOf i e = true) : e = .grantWithdrawal i ∧ (s.strip i).state.isWaiting = true := by
  obtain ⟨j, mem⟩ := (mem_endEvents s).mp mem
  unfold endEvents at mem
  split at mem
  · rw [List.mem_singleton.mp mem] at own
    cases own
  · split at mem
    · next waits =>
      rw [List.mem_singleton.mp mem] at own ⊢
      obtain rfl : j = i := of_decide_eq_true own
      exact ⟨rfl, waits⟩
    · cases mem

theorem StripState.still_of_waits {x : StripState} (waits : x.isWaiting = true) : x.driving = false := by
  cases x <;> first | rfl | cases waits

/-- Strips that wait withdraw their requests as their work ends. -/
theorem RequestersWithdraw.withdraws {s : State} (withdraw : RequestersWithdraw s) (i : StripId) :
    Withdraws i s.arbiter (eventsAtStop s) := by
  have asked : (s.strip i).state.isWaiting = true ∨ (s.inFlight.filter (requestOf i)).getLast? = some (.grantWithdrawal i) ∨
    ((s.inFlight.filter (requestOf i)).getLast? = none ∧ i ∉ s.arbiter.waiting.map (·.strip)) := withdraw i
  obtain ⟨sent, hs⟩ : ∃ l, (allStrips.flatMap fun j => endEvents j (s.strip j)).filter (requestOf i) = l := ⟨_, rfl⟩
  have own : ∀ e ∈ sent, e = .grantWithdrawal i ∧ (s.strip i).state.isWaiting = true := fun e mem => by
    obtain ⟨mem, own⟩ := List.mem_filter.mp (hs ▸ mem)
    exact requestOf_endEvents mem own
  have stay : (s.inFlight.filter staysInFlight).filter (requestOf i) = s.inFlight.filter (requestOf i) := by
    rw [List.filter_filter]
    refine List.filter_congr fun e _ => ?_
    cases e <;> first | rfl | exact Bool.and_true _
  unfold Withdraws eventsAtStop
  rw [List.filter_append, stay, hs, List.getLast?_append]
  by_cases waits : (s.strip i).state.isWaiting = true
  · have still : ¬ (s.strip i).state.driving = true := Bool.eq_false_iff.mp (StripState.still_of_waits waits)
    have withdrawn : Instr.grantWithdrawal i ∈ sent := by
      refine hs ▸ List.mem_filter.mpr ⟨(mem_endEvents s).mpr ⟨i, ?_⟩, decide_eq_true rfl⟩
      rw [endEvents, if_neg still, if_pos waits]
      exact List.mem_singleton_self _
    have last : sent.getLast? = some (.grantWithdrawal i) := by
      rw [List.getLast?_eq_some_getLast (List.ne_nil_of_mem withdrawn), (own _ (List.getLast_mem _)).1]
    rw [last]
    exact .inl rfl
  · have quiet : sent = [] := List.eq_nil_iff_forall_not_mem.mpr fun e mem => waits (own e mem).2
    rw [quiet]
    exact asked.resolve_left waits

/-! ### The gangs' and the strips' work ended -/

/-- Steps 1 and 2 of the sequence (R183, R100), as far as the arbiter: every gang without activity, every strip ended, their
records handed in order and their events under way. -/
theorem State.stopWork_eq {b : State} (stopping : b.part.state = .stopping)
    (silent : ∀ i : StripId, b.motors.chans[i].zero = b.motors.chans[i]) :
    ∃ strips, (∀ i : StripId, strips[i] = endedStrip (b.strip i)) ∧ b.stopWork = State.settleGrants { b with
      strips := strips
      gangs := b.gangs.map fun g => { g with activity := none }
      writer := (stopRecords b).foldl (Writer.takes b) b.writer
      inFlight := b.inFlight ++ allStrips.flatMap fun i => endEvents i (b.strip i) } := by
  have gangs := State.endGangs_eq (b := b) (t := b) stopping (List.finRange 8) rfl rfl
  obtain ⟨strips, ends, ended, -⟩ := State.endStrips_eq (b := b) (t := { b with
    gangs := b.gangs.map fun g => { g with activity := none }
    writer := (gangRecords b (List.finRange 8)).foldl (Writer.takes b) b.writer }) stopping silent allStrips
    (List.nodup_finRange 32) rfl rfl rfl
  refine ⟨strips, fun i => ended i (List.mem_finRange i), ?_⟩
  unfold State.stopWork
  rw [gangs]
  refine congrArg State.settleGrants (ends.trans ?_)
  rw [stopRecords_eq, List.foldl_append]
  rfl

end Sys2Proof.Machine
end

section
/-!
SUPPORT. STOP in RUNNING (R183), put together.
-/
namespace Sys2Proof.Machine

/-- What the settled arbiter keeps and gives up (R111). -/
structure SettledFrom (s : State) (a : Arbiter) : Prop where
  supply : (a.supply, a.recovery, a.low, a.floor) = (s.arbiter.supply, s.arbiter.recovery, s.arbiter.low, s.arbiter.floor)
  full : s.arbiter.pendingFull = none → a.full = s.arbiter.full ∧ a.pendingFull = none
  given : HoldersGiveBack s → a.grantSet = [] ∧
    ∀ b, s.arbiter.grantSet ≠ [] → s.arbiter.pendingFull = some b → a.full = b ∧ a.pendingFull = none
  withdrawn : RequestersWithdraw s → a.waiting = []

theorem settledFrom {s v : State} (rests : ∀ i, (v.strip i).state.isWaiting = false) (arbiter : v.arbiter = s.arbiter)
    (events : v.inFlight = eventsAtStop s) : SettledFrom s v.settleGrants.arbiter where
  supply := arbiter ▸ State.settleGrants_supply rests
  full := arbiter ▸ State.settleGrants_full rests
  given gives := by
    have returns : HoldersReturn v.arbiter v.inFlight := by
      rw [arbiter, events]
      exact gives.returns
    exact ⟨State.settleGrants_grantSet rests returns, fun b held waits =>
      State.settleGrants_adopts rests returns (arbiter ▸ held) (arbiter ▸ waits)⟩
  withdrawn withdraw := State.settleGrants_waiting rests fun i => by
    rw [arbiter, events]
    exact withdraw.withdraws i

section
variable {s h : State}

/-- The part with the last record of the sequence handed: every block stopped, the work ended and the arbiter settled. -/
theorem State.workEnded_eq (image : s.OnImage h) :
    let begun : State := { h with part := { s.part with state := .stopping, stop := .handing } }
    ∃ strips a, (∀ i : StripId, strips[i] = endedStrip (s.strip i)) ∧ SettledFrom s a ∧ h.enterStopping.stopWork = { h with
      inFlight := s.inFlight.filter deliveredAlready
      part := { s.part with state := .stopping, stop := .handing }
      motors := s.motors.silence
      scanner := s.scanner.disable
      touchScan := s.touchScan.stop
      sweep := s.sweep.stop
      reporter := { h.reporter with timer := none }
      strips := strips
      gangs := s.gangs.map fun g => { g with activity := none }
      arbiter := a
      writer := ((stopRecords s).foldl State.handRecord begun).writer } := by
  obtain ⟨posted, memory, attention, reporter, rfl⟩ := image
  intro begun
  obtain ⟨b, hb⟩ : ∃ b : State, b = { s with
    posted := posted, memory := memory, attention := attention
    inFlight := s.inFlight.filter staysInFlight
    part := { s.part with state := .stopping, stop := .handing }
    motors := s.motors.silence
    scanner := s.scanner.disable
    touchScan := s.touchScan.stop
    sweep := s.sweep.stop
    reporter := { reporter with timer := none } } := ⟨_, rfl⟩
  have silent : ∀ i : StripId, b.motors.chans[i].zero = b.motors.chans[i] := by
    intro i
    have zeroed : b.motors.chans[i] = s.motors.chans[i].zero := by
      rw [hb]
      exact Vector.getElem_map ..
    rw [zeroed]
    rfl
  have stopping : b.part.state = .stopping := by rw [hb]
  obtain ⟨strips, ended, works⟩ := State.stopWork_eq stopping silent
  have handed : (stopRecords s).foldl (Writer.takes b) s.writer = ((stopRecords s).foldl State.handRecord begun).writer := by
    rw [State.handAll_takes (t := begun) stopping (stopRecords s) (by rw [hb]) (by rw [hb])]
  obtain ⟨w, hw⟩ : ∃ w, ((stopRecords s).foldl State.handRecord begun).writer = w := ⟨_, rfl⟩
  rw [hw] at handed ⊢
  have bstrip : ∀ i, b.strip i = s.strip i := fun i => by rw [hb]; rfl
  have records : stopRecords b = stopRecords s := by rw [hb]; rfl
  have events : (b.inFlight ++ allStrips.flatMap fun i => endEvents i (b.strip i)) = eventsAtStop s := by
    rw [hb]
    rfl
  have bwriter : b.writer = s.writer := by rw [hb]
  rw [events, records, bwriter, handed] at works
  obtain ⟨v, hv⟩ : ∃ v : State, v = { b with
    strips := strips
    gangs := b.gangs.map fun g => { g with activity := none }
    writer := w
    inFlight := eventsAtStop s } := ⟨_, rfl⟩
  have rests : ∀ i, (v.strip i).state.isWaiting = false := fun i => by
    rw [hv]
    exact (congrArg (fun x : Strip => x.state.isWaiting) (ended i)).trans (endedStrip_rests _)
  obtain ⟨a, settles⟩ := State.settleGrants_eq rests
  have settled : SettledFrom s v.settleGrants.arbiter :=
    settledFrom rests (by rw [hv, hb]) (by rw [hv])
  have entered : ({ s with posted := posted, memory := memory, attention := attention, reporter := reporter } : State).enterStopping = b :=
    hb.symm
  refine ⟨strips, v.settleGrants.arbiter, fun i => (ended i).trans (congrArg endedStrip (bstrip i)), settled, ?_⟩
  rw [entered, works, ← hv, settles, hv]
  dsimp only
  rw [eventsAtStop_delivered, hb]

/-- The sequence after its entry: stopGoesOn of the part with its work ended, whatever that leaves of the blocks it stopped. -/
theorem State.stopRunning_eq (image : s.OnImage h) :
    let begun : State := { h with part := { s.part with state := .stopping, stop := .handing } }
    let w := ((stopRecords s).foldl State.handRecord begun).writer
    ∃ strips a, (∀ i : StripId, strips[i] = endedStrip (s.strip i)) ∧ SettledFrom s a ∧
      h.enterStopping.stopWork.beginDrain.lastOwnerRead.advanceStop = stopGoesOn { h with
        part := { s.part with state := .stopping, stop := .drain }, writer := w
        inFlight := s.inFlight.filter deliveredAlready ++
          if w.state = .seeking ∧ w.queue ≠ [] then [.pageOwnerRead []] else []
        reporter := { h.reporter with timer := none }, strips := strips
        gangs := s.gangs.map fun g => { g with activity := none }, arbiter := a
        motors := s.motors.silence, scanner := s.scanner.disable, touchScan := s.touchScan.stop, sweep := s.sweep.stop } := by
  intro begun w
  obtain ⟨strips, a, ended, settled, works⟩ := State.workEnded_eq image
  refine ⟨strips, a, ended, settled, ?_⟩
  obtain ⟨v, hv⟩ : ∃ v, v = w := ⟨_, rfl⟩
  have works : h.enterStopping.stopWork = { h with
      inFlight := s.inFlight.filter deliveredAlready
      part := { s.part with state := .stopping, stop := .handing }
      motors := s.motors.silence, scanner := s.scanner.disable, touchScan := s.touchScan.stop, sweep := s.sweep.stop
      reporter := { h.reporter with timer := none }, strips := strips
      gangs := s.gangs.map fun g => { g with activity := none }, arbiter := a, writer := v } := hv ▸ works
  rw [works, ← hv, State.lastOwnerRead_eq, State.advanceStop_eq]
  exact if_pos rfl

end

/-- Settles O8: the work ended gang by gang and strip by strip, the arbiter's events settled, and the sequence gone on from there. -/
theorem stopEndsTheStripsWork : Obligations.StopEndsTheStripsWork := by
  intro s host running records h begun w
  have image : s.OnImage h := by
    show s.OnImage (if s.writer.state = .seeking ∧ records ≠ [] then s.beforeRead host else s.hostWrote host)
    split
    · exact s.onImage_beforeRead host
    · exact s.onImage_hostWrote host
  have runs : exec (.partStop host) s = .next h.enterStopping.stopWork.beginDrain.lastOwnerRead.advanceStop := by
    have stops : s.partStop host = s.stopRunning host := by rw [State.partStop, running]
    have reads : (if s.writer.state = .seeking ∧ s.stopHands = true then s.beforeRead host else s.hostWrote host) = h :=
      ite_congr (propext (and_congr_right fun _ => s.stopHands_iff)) (fun _ => rfl) fun _ => rfl
    refine congrArg Host.Outcome.next (stops.trans ?_)
    rw [State.stopRunning, reads]
  obtain ⟨strips, a, ended, settled, goes⟩ := State.stopRunning_eq image
  obtain ⟨u, hu⟩ : ∃ u : State, u = { h with
    part := { s.part with state := .stopping, stop := .drain }, writer := w
    inFlight := s.inFlight.filter deliveredAlready ++
      if w.state = .seeking ∧ w.queue ≠ [] then [.pageOwnerRead []] else []
    reporter := { h.reporter with timer := none }, strips := strips
    gangs := s.gangs.map fun g => { g with activity := none }, arbiter := a
    motors := s.motors.silence, scanner := s.scanner.disable, touchScan := s.touchScan.stop, sweep := s.sweep.stop } := ⟨_, rfl⟩
  have goes : h.enterStopping.stopWork.beginDrain.lastOwnerRead.advanceStop = stopGoesOn u := hu ▸ goes
  rw [runs, goes]
  have stopping : u.part.state = .stopping := by rw [hu]
  have onStop : u.OnStop (stopGoesOn u) := by
    have advances := u.onStop_advanceStop
    rwa [State.advanceStop_eq, stopWatched, if_pos stopping] at advances
  obtain ⟨state, timer⟩ := stopGoesOn_keeps u
  obtain ⟨t, ht⟩ : ∃ t, stopGoesOn u = t := ⟨_, rfl⟩
  rw [ht] at onStop state timer ⊢
  have tstrips : t.strips = strips := onStop.strips.trans (by rw [hu])
  have tgangs : t.gangs = s.gangs.map fun g => { g with activity := none } := onStop.gangs.trans (by rw [hu])
  have tarbiter : t.arbiter = a := onStop.arbiter.trans (by rw [hu])
  have tmotors : t.motors = s.motors.silence := onStop.motors.trans (by rw [hu])
  have tscanner : t.scanner = s.scanner.disable := onStop.scanner.trans (by rw [hu])
  have ttouch : t.touchScan = s.touchScan.stop := onStop.touchScan.trans (by rw [hu])
  have tsweep : t.sweep = s.sweep.stop := onStop.sweep.trans (by rw [hu])
  have tstrip : ∀ i : StripId, t.strip i = endedStrip (s.strip i) := fun i => by
    rw [State.strip, tstrips]
    exact ended i
  refine ⟨t, rfl, ?_, state.trans stopping, ?_, fun i => ?_, tscanner, ttouch, tsweep, timer.trans (by rw [hu]), ?_, ?_, ?_, ?_,
    fun g => ?_, fun i => ⟨fun off => ?_, fun on => ?_⟩⟩
  · rw [tstrips, tgangs, tarbiter, tmotors, tscanner, ttouch, tsweep, ← ht, hu]
    rfl
  · rw [tmotors]
    rfl
  · rw [tmotors]
    exact Vector.getElem_map ..
  · rw [tarbiter]
    exact settled.supply
  · rw [tarbiter]
    exact settled.full
  · rw [tarbiter]
    exact settled.given
  · rw [tarbiter]
    exact settled.withdrawn
  · rw [State.gang, tgangs]
    exact Vector.getElem_map ..
  · exact (tstrip i).trans (if_pos off)
  · exact (tstrip i).trans (if_neg on)

end Sys2Proof.Machine
end
